-- ==== Sys2Proof/Word.lean ====
section
/-! DEFINITION. The one word type of the part: a byte, as the links carry it (chapter 11). Quantities that the
manual calculates with exactly (positions, speeds, sums) are `Int` or `Nat`; bytes, the CRC and the flag sets are
bit vectors. -/

namespace Sys2Proof

/-- One byte of a frame, a service body or a table (chapter 11: "a string of bytes"). -/
abbrev Byte := BitVec 8

end Sys2Proof
end

