-- ==== Sys2Proof/Syntax.lean ====
section
/-! DEFINITION. The commands of the block: one constructor of `Instr` per row of spec/opcode_table.json, with the
data that comes from outside the part with it (a frame's bytes, a service record's body, the levels of the lines,
the order in which things that fall together are taken). -/

namespace Sys2Proof

/-- The five axes, in the order of 1.5.5. -/
inductive Axis | x | y | z | w | b
deriving DecidableEq, Repr

/-- The four axes with a clamp sequencer (chapter 4). -/
inductive ClampAxis | x | y | z | b
deriving DecidableEq, Repr

/-- One value per axis, in the order X, Y, Z, W, B. -/
structure PerAxis (α : Type) where
  x : α
  y : α
  z : α
  w : α
  b : α
deriving DecidableEq, Repr

/-- One value per clamp, in the order X, Y, Z, B. -/
structure PerClamp (α : Type) where
  x : α
  y : α
  z : α
  b : α
deriving DecidableEq, Repr

/-- One value per fork switch (8.1). -/
structure PerFork (α : Type) where
  aLeft : α
  aRight : α
  bLeft : α
  bRight : α
deriving DecidableEq, Repr

/-- One value per pendant button 1 to 8. -/
structure PerButton (α : Type) where
  b1 : α
  b2 : α
  b3 : α
  b4 : α
  b5 : α
  b6 : α
  b7 : α
  b8 : α
deriving DecidableEq, Repr

/-- One value per analog channel AN0 to AN5 (8.4). -/
structure PerChannel (α : Type) where
  an0 : α
  an1 : α
  an2 : α
  an3 : α
  an4 : α
  an5 : α
deriving DecidableEq, Repr

/-- The two switches of a clamp: ON is `true` (8.1). -/
structure SwitchPair (α : Type) where
  clamped : α
  unclamped : α
deriving DecidableEq, Repr

/-- The four fork switches. -/
inductive ForkSwitch | aLeft | aRight | bLeft | bRight
deriving DecidableEq, Repr

/-- The levels of the discrete lines and the converted readings of the analog channels at one expiry
(R148, R149, R153). The defaults are every contact open and every reading 0. -/
structure Samples where
  clamps : PerClamp (SwitchPair Bool) := ⟨⟨false, false⟩, ⟨false, false⟩, ⟨false, false⟩, ⟨false, false⟩⟩
  forks : PerFork Bool := ⟨false, false, false, false⟩
  /-- the selector's five lines -/
  selector : PerAxis Bool := ⟨false, false, false, false, false⟩
  /-- the increment switch's lines for ×10 and ×100 -/
  incTen : Bool := false
  incHundred : Bool := false
  /-- the enable switch's lines for HELD and CLENCHED -/
  held : Bool := false
  clenched : Bool := false
  buttons : PerButton Bool := ⟨false, false, false, false, false, false, false, false⟩
  analog : PerChannel (BitVec 12) := ⟨0, 0, 0, 0, 0, 0⟩
deriving DecidableEq, Repr

/-- The sixteen trigger sources of R118, in its order. -/
inductive TriggerSource
  | spindleStart | spindleStop | gearBegin | gearEnd
  | req0 | req1 | req2 | req3
  | pb0 | pb1 | pb2 | pb3
  | lubeDue | tankWarn | linkStop | tscWithheld
deriving DecidableEq, Repr

/-- The pieces of work that the blocks do at one expiry once the link controller has handled it and the inputs have
been sampled (95_what_each_step_holds.md, CYCLE_TIMER_EXPIRY). Each is one block's own work, or the hand-over of
one change. -/
inductive Task
  /-- the gearbox block's first fork reading (R150) -/
  | forkFirst
  /-- the hand-over of one fork switch's debounced change (R91, R151) -/
  | fork (sw : ForkSwitch)
  /-- the first delivery to the pendant unit (R132, R150) -/
  | pendantFirst
  /-- the hand-over of a selector change (R136) -/
  | selector
  /-- the hand-over of an enable change (R134) -/
  | enableSwitch
  /-- the hand-over of increment and button changes (R133, R144) -/
  | panel
  /-- the clamp group's first debounce reaching the sequencers (R84, R150) -/
  | clampFirst
  /-- the pressure watch (R67, R68) -/
  | pressure
  /-- one clamp sequencer's work (R70 to R76) -/
  | clamp (a : ClampAxis)
  /-- the gearbox's reaction to the entry into STOPPING or LINK_LOST (R103) -/
  | gearLeave
  /-- the range request (R94 to R96) -/
  | rangeRequest
  /-- the per-expiry test of UNKNOWN, DRAINING and SHIFTING (R92, R98, R101) -/
  | gearStage
  /-- the spindle output and the end of STOPPING_SPINDLE (R85 to R87, R97) -/
  | spindleOutput
  /-- the test for SPINDLE_HELD (R88) -/
  | spindleHeld
  /-- the announcement of spindle start and stop (R89, R52) -/
  | spindleAnnounce
  /-- the spindle-stopped timer's rise (R52) -/
  | stoppedTimer
  /-- the growth window's sample and its end (R46 to R55) -/
  | window
  /-- the droop value (R44, R45) -/
  | droop
  /-- the absorb requests (R141) -/
  | absorb
  /-- the pendant unit's wait, grant and transfer (R135, R137 to R139) -/
  | handwheel
  /-- the test for COMMAND_WHILE_GRANTED (R140) -/
  | strayCommand
  /-- the five axis channels' setpoints (R21 to R37) -/
  | axes
  /-- a rising COOLANT-STOP bit (R119, R121) -/
  | coolantStopBit
  /-- the rising request bits and the request baseline (R119) -/
  | coolantRequests
  /-- the test of a running WAIT phase (R114) -/
  | coolantWait
  /-- the lube travel accumulator (R123) -/
  | travel
  /-- the tank watch (R125) -/
  | tank
  /-- the two knobs (R142, R143) -/
  | knobs
  /-- the service record, where it is not one of the link controller's (R159) -/
  | service
deriving DecidableEq, Repr

/-- What the timers that count independently of the cycle timer have counted since the previous expiry (1.5.3):
milliseconds for the ceilings, ticks of the free-running 10 ms tick (less one that a PAUSE_END took), seconds for
the lube interval. -/
structure ClockSpan where
  ms : Nat := 0
  ticks : Nat := 0
  seconds : Nat := 0
deriving DecidableEq, Repr

/-- The events between expiries. Each is also a command of its own (`Between.command`). -/
inductive Between
  | frameArrival (bytes : List Byte) (claimOrder : List ClampAxis)
  | valveBankGrant
  | unclampCeiling (a : ClampAxis)
  | clampCeiling (a : ClampAxis)
  | dropCeiling (a : ClampAxis)
  | drainCeiling
  | shiftCeiling
  | wiggleTimer
  | waitCeiling
  | pauseEnd
  | queuedProgramStart
  | lubeInterval
  | returnFrame (bytes : List Byte)
  | activationCeiling
  | estopOpening
  | estopClosing
  | handwheelEdge (phaseA phaseB : Bool)
  | storeVerified
  | storeMismatch
  | storeCeiling
deriving DecidableEq, Repr

/-- Everything that reaches the part from outside at one expiry of the cycle timer. -/
structure ExpiryInput where
  samples : Samples := {}
  clock : ClockSpan := {}
  /-- the order in which the blocks' work is taken, as far as the manual leaves it open (log entry 1) -/
  order : List Task := []
  /-- which of several trigger sources that fall together is taken first (R120; log entry 1) -/
  triggers : List TriggerSource := []
  /-- the order in which dropped clamps claim the bank when several do so at one moment (log entry 2) -/
  claimOrder : List ClampAxis := []
  /-- the events between expiries that fall with the taking of a CLEAR_FLAGS and are taken after it (R175; log entry
  42); unused where the expiry takes no CLEAR_FLAGS -/
  afterClear : List Between := []
deriving DecidableEq, Repr

/-- The commands. A service record's `body` is the record's body as it came in the frame. -/
inductive Instr
  /-- R20: the level of the E-stop line and the handwheel phases found on leaving reset come with it -/
  | hardwareReset (estopOpen phaseA phaseB : Bool)
  /-- R1: the bytes of a frame completing on the command link -/
  | cycleFrameArrival (bytes : List Byte) (claimOrder : List ClampAxis)
  /-- R5 -/
  | cycleTimerExpiry (inp : ExpiryInput)
  /-- R65 -/
  | valveBankGrant
  /-- R73 -/
  | unclampCeilingExpiry (a : ClampAxis)
  /-- R76 -/
  | clampCeilingExpiry (a : ClampAxis)
  /-- R78 -/
  | dropCeilingExpiry (a : ClampAxis)
  /-- R98 -/
  | drainCeilingExpiry
  /-- R102 -/
  | shiftCeilingExpiry
  /-- R100 -/
  | wiggleTimerExpiry
  /-- R117 -/
  | waitCeilingExpiry
  /-- R115 -/
  | pauseEnd
  /-- R116 -/
  | queuedProgramStart
  /-- R124 -/
  | lubeIntervalExpiry
  /-- R9: the bytes of a frame completing on the drive chain -/
  | returnFrameArrival (bytes : List Byte)
  /-- R14 -/
  | activationCeilingExpiry
  /-- R152 -/
  | estopOpening
  /-- R152 -/
  | estopClosing
  /-- R133: the phase pair seen -/
  | handwheelEdge (phaseA phaseB : Bool)
  /-- R167 -/
  | storeVerified
  /-- R167 -/
  | storeMismatch
  /-- R167 -/
  | storeCeilingExpiry
  /-- R160 -/
  | readInfo (body : List Byte)
  /-- R162 -/
  | writeSegment (body : List Byte)
  /-- R163 -/
  | readSegment (body : List Byte)
  /-- R164 -/
  | commit (body : List Byte) (claimOrder : List ClampAxis)
  /-- R166 -/
  | store (body : List Byte)
  /-- R13 -/
  | start (body : List Byte)
  /-- R15 -/
  | stop (body : List Byte)
  /-- R18 -/
  | recover (body : List Byte) (claimOrder : List ClampAxis)
  /-- R19 -/
  | restart (body : List Byte)
  /-- R174 -/
  | readFlags (body : List Byte)
  /-- R175 -/
  | clearFlags (body : List Byte)
  /-- R176 -/
  | setMask (body : List Byte)
  /-- R122 -/
  | coolantTrigger (body : List Byte)
  /-- R121 -/
  | coolantStop (body : List Byte)
  /-- R57 -/
  | compTrigger (body : List Byte)
  /-- R58 -/
  | growthZero (body : List Byte)
  /-- R170 -/
  | clearFault (body : List Byte)
  /-- R169 -/
  | readState (body : List Byte)
  /-- R159: a record whose kind byte has no code in section 11.6, which codes 0 to 18: the byte is 19 + `n` -/
  | unknownKind (n : Fin 237) (body : List Byte)
deriving DecidableEq, Repr

/-- An event between expiries as a command of its own. -/
def Between.command : Between → Instr
  | .frameArrival bytes order => .cycleFrameArrival bytes order
  | .valveBankGrant => .valveBankGrant
  | .unclampCeiling a => .unclampCeilingExpiry a
  | .clampCeiling a => .clampCeilingExpiry a
  | .dropCeiling a => .dropCeilingExpiry a
  | .drainCeiling => .drainCeilingExpiry
  | .shiftCeiling => .shiftCeilingExpiry
  | .wiggleTimer => .wiggleTimerExpiry
  | .waitCeiling => .waitCeilingExpiry
  | .pauseEnd => .pauseEnd
  | .queuedProgramStart => .queuedProgramStart
  | .lubeInterval => .lubeIntervalExpiry
  | .returnFrame bytes => .returnFrameArrival bytes
  | .activationCeiling => .activationCeilingExpiry
  | .estopOpening => .estopOpening
  | .estopClosing => .estopClosing
  | .handwheelEdge a b => .handwheelEdge a b
  | .storeVerified => .storeVerified
  | .storeMismatch => .storeMismatch
  | .storeCeiling => .storeCeilingExpiry

end Sys2Proof
end

