-- ==== Sys2Proof/Config.lean ====
section
/-! DEFINITION. The values the manual leaves open. Each is an opaque constant: nothing in Lean can evaluate it, so a
claim that holds of the model holds whatever value the part shows there. -/

namespace Sys2Proof.Config

/-- FREE VALUE (log entry 12). The echo frame carries the actual motor speed in two signed bytes (11.3, offset 77)
while a return frame reports it in four (11.4). What the two bytes hold for a speed outside −32,768 to 32,767 is
not stated. -/
opaque wideMotorSpeed : Int → BitVec 16

/-- FREE VALUE (log entry 13). The COOLANT record's "wait ceiling remaining, ms" field (11.5.1) while the wait
ceiling timer is stopped: the manual states no value. -/
opaque waitFieldWhenStopped : BitVec 16

/-- FREE VALUE (log entry 13). The COOLANT record's "interval remaining, s" field (11.5.1) while the lube interval
timer is stopped: the manual states no value. -/
opaque intervalFieldWhenStopped : BitVec 16

end Sys2Proof.Config
end

