-- ==== Sys2Proof/Machine/State.lean ====
section
/-! DEFINITION. Everything the part holds, block by block (1.3), as plain data, and its value right after a first
hardware reset. A signed quantity is an `Int`, a count or a time is a `Nat`; flag sets and wire bytes are bit
vectors. Timers hold their remaining time; `none` is a stopped timer. -/

namespace Sys2Proof.Machine

/-! ## Link controller (chapter 1) -/

/-- The link state (1.5). -/
inductive LinkState | offline | standby | activating | running | stopping | linkLost | halted
deriving DecidableEq, Repr

/-- The halt cause (R17). -/
inductive HaltCause | none | estop | driveFault | driveChainLost | followingError
deriving DecidableEq, Repr

/-- The cycle period: 1, 2 or 4 ms (R4). -/
inductive Period | ms1 | ms2 | ms4
deriving DecidableEq, Repr

/-- One axis record of a cycle frame (11.2). -/
structure AxisRecord where
  command : Int
  unclamp : Bool
  permit : Bool
  absorb : Bool
deriving DecidableEq, Repr

/-- The coolant bits of a cycle frame, and the request baseline (R119). -/
structure RequestBits where
  req0 : Bool
  req1 : Bool
  req2 : Bool
  req3 : Bool
  stop : Bool
deriving DecidableEq, Repr

/-- An accepted cycle frame's fields (11.2). `kind` 0 is no service record. -/
structure CycleFrame where
  seq : Byte
  axes : PerAxis AxisRecord
  spindle : Int
  range : Byte
  coolant : RequestBits
  kind : Byte
  body : List Byte
deriving DecidableEq, Repr

/-- The newest-frame slot's content and its USED or UNUSED mark (R3). -/
structure Slot where
  frame : CycleFrame
  used : Bool
deriving DecidableEq, Repr

/-- A station's status (R9). -/
inductive StationStatus | ready | notReady | fault
deriving DecidableEq, Repr

/-- One station record of a return frame (11.4). -/
structure StationReport where
  status : StationStatus
  actual : Int
deriving DecidableEq, Repr

/-- The latest return values: the five axes and the spindle (R9). -/
structure Returns where
  axes : PerAxis StationReport
  spindle : StationReport
deriving DecidableEq, Repr

/-- The link controller's state (R20). -/
structure Link where
  state : LinkState
  period : Period
  slot : Option Slot
  lastSeq : Option Byte
  missCount : Nat
  chainMiss : Nat
  enable : Bool
  cause : HaltCause
  returns : Option Returns
  /-- remaining milliseconds of the activation ceiling (R13, R14) -/
  activation : Option Nat
  /-- whether a return frame that counts toward R10 has arrived since the previous expiry -/
  returnFresh : Bool
  /-- whether a drive frame carrying the present drive enable ON has left (R10, R14) -/
  enableSent : Bool
  /-- the sequence number of the last frame taken since the last entry into OFFLINE (R11) -/
  takenSeq : Option Byte
deriving DecidableEq, Repr

/-! ## Axis channels (chapter 2) -/

/-- One axis channel (2.1). The GRANTED indication is the pendant unit's grant and is not stored twice. -/
structure AxisChannel where
  out : Int
  step : Int
  older : Int
  newer : Int
  frozen : Option Int
  offset : Int
  envelopeInd : Bool
  rateInd : Bool
  heldClamped : Bool
deriving DecidableEq, Repr

/-! ## Compensation unit (chapter 3) -/

/-- The number of updates still to be made (R48). -/
inductive Updates
  | count (n : Nat)
  | always
deriving DecidableEq, Repr

/-- The droop value and the growth tracker (3.1). -/
structure Compensation where
  droop : Int
  applied : Int
  windowSum : Nat
  windowCount : Nat
  windowFaulted : Bool
  lastSum : Option Nat
  lastMeasurement : Option Int
  updates : Updates
  hardFirst : Bool
  /-- the spindle-stopped timer, ms -/
  stoppedMs : Nat
deriving DecidableEq, Repr

/-! ## Clamps and valve bank (chapter 4) -/

/-- The clamp state (4.4). `clampWait true` is the recovery wait of R78, `clampWait false` the ordinary reclamp of
R75. ABSENT is read from the clamp and hydraulic table, not stored. -/
inductive ClampState
  | clamped | unclampWait | unclamping | unclamped
  | clampWait (recovery : Bool)
  | clamping | dropped | fault
deriving DecidableEq, Repr

/-- What a clamp's two switches show (R69). -/
inductive SwitchReading | clampedConfirm | unclampedConfirm | neither
deriving DecidableEq, Repr

/-- One clamp sequencer; the ceiling is in milliseconds. -/
structure ClampSequencer where
  state : ClampState
  ceiling : Option Nat
  settle : Nat
deriving DecidableEq, Repr

/-- A claimant of the valve bank (R64). -/
inductive Claimant
  | clamp (a : ClampAxis)
  | gearbox
deriving DecidableEq, Repr

/-- The valve bank arbiter (4.2, 4.3). The pilot valve and the solenoids are functions of the state (R63). -/
structure Bank where
  queue : List Claimant
  holder : Option Claimant
  pressureOk : Bool
  disagree : Nat
deriving DecidableEq, Repr

/-! ## Spindle and gearbox (chapter 5) -/

/-- The gear state (5.1). -/
inductive GearState | engaged | unknown | stoppingSpindle | draining | valveWait | shifting | fault
deriving DecidableEq, Repr

/-- A gear range, 1 to 4. -/
inductive Range | r1 | r2 | r3 | r4
deriving DecidableEq, Repr

/-- A fork's reading (R91). -/
inductive ForkSide | left | right | middle
deriving DecidableEq, Repr

/-- The gearbox sequencer and spindle channel (5.1). Drain force and shift solenoids are functions of the gear
state (R93, R100). -/
structure Gearbox where
  state : GearState
  engaged : Option Range
  target : Option Range
  next : Option Range
  /-- the last range request; `none` is 0 -/
  lastRequest : Option Range
  /-- the block's own copy of the debounced fork switches (R91) -/
  forks : PerFork Bool
  /-- whether the first fork reading has been taken over since hardware reset (R150) -/
  forksDelivered : Bool
  /-- whether a fork change of the latest expiry has ended ENGAGED (R92) -/
  forkLoss : Bool
  settle : Nat
  drainCeiling : Option Nat
  shiftCeiling : Option Nat
  wiggle : Option Nat
  phasePositive : Bool
  output : Int
  interlock : Bool
  /-- the run value of the previous expiry (R89) -/
  runValue : Int
deriving DecidableEq, Repr

/-! ## Coolant sequencer (chapter 6) -/

/-- One value per coolant output (R109). -/
structure PerOutput (α : Type) where
  flood : α
  tscPump : α
  tscDrain : α
  mist : α
  conveyor : α
  lube : α
deriving DecidableEq, Repr

/-- The phase of the running step, with the wait ceiling's remaining milliseconds or the pause count (R114, R115). -/
inductive Phase
  | wait (remaining : Nat)
  | pause (count : Nat)
deriving DecidableEq, Repr

/-- The running program, its step (1 to 6) and the step's phase. -/
structure Run where
  program : Fin 8
  step : Nat
  phase : Phase
deriving DecidableEq, Repr

/-- The lube interval timer with its remaining seconds (R124). -/
inductive LubeTimer
  | stopped
  | running (remaining : Nat)
  | held (remaining : Nat)
deriving DecidableEq, Repr

/-- The tank warning (R125). -/
inductive TankWarning | unset | inactive | active
deriving DecidableEq, Repr

/-- The coolant sequencer (6.1). The driven values are a function of the state (R110). -/
structure Coolant where
  requested : PerOutput Bool
  running : Option Run
  queue : List (Fin 8)
  baseline : RequestBits
  withheld : Bool
  travel : Nat
  lube : LubeTimer
  tank : TankWarning
  /-- trigger sources announced and not yet taken (R118, R120): those that fall together within one piece of work, each
  taken in its turn as that work ends; empty between commands (log entries 1 and 28) -/
  announced : List TriggerSource
deriving DecidableEq, Repr

/-! ## Pendant unit (chapter 7) -/

/-- The selector (R132). -/
inductive Selector
  | off
  | axis (a : Axis)
deriving DecidableEq, Repr

/-- The increment switch. -/
inductive Increment | x1 | x10 | x100
deriving DecidableEq, Repr

/-- The enable switch. -/
inductive Enable | released | held | clenched
deriving DecidableEq, Repr

/-- The grant state (7.4). -/
inductive Grant
  | free
  | waiting (a : Axis)
  | granted (a : Axis)
deriving DecidableEq, Repr

/-- A knob record (R142): bands are 0 to 15. -/
structure Knob where
  accepted : Option (Fin 16)
  candidate : Option (Fin 16)
  count : Nat
deriving DecidableEq, Repr

/-- The pendant unit (7.1). -/
structure Pendant where
  selector : Selector
  increment : Increment
  enable : Enable
  /-- PRESSED is `true` -/
  buttons : PerButton Bool
  phaseA : Bool
  phaseB : Bool
  edges : Int
  distance : Int
  grant : Grant
  permitMark : Bool
  stillCount : Nat
  commandMark : Bool
  feedKnob : Knob
  spindleKnob : Knob
  feedOverride : Nat
  spindleOverride : Nat
  /-- whether the first delivery has been made since the last reset (R132, R150) -/
  delivered : Bool
deriving DecidableEq, Repr

/-! ## Input conditioner (chapter 8) -/

/-- A discrete input's debounce state (R148). -/
structure Debounced (α : Type) where
  value : Option α
  candidate : Option α
  run : Nat
deriving DecidableEq, Repr

/-- The input conditioner. The fault state of a channel is a function of its reading (R154). -/
structure Inputs where
  clamps : PerClamp (SwitchPair (Debounced Bool))
  forks : PerFork (Debounced Bool)
  selector : Debounced Selector
  increment : Debounced Increment
  enable : Debounced Enable
  buttons : PerButton (Debounced Bool)
  /-- the first-debounce marks: COMPLETE is `true` (R150) -/
  clampComplete : Bool
  forkComplete : Bool
  pendantComplete : Bool
  /-- whether the sequencers have taken the clamp group's first values (R84, R150) -/
  clampsDelivered : Bool
  readings : PerChannel (Option (BitVec 12))
  /-- scaled values, 0.1 bar, 0.1 bar and 0.1 °C (R155) -/
  hydraulic : Option Nat
  tsc : Option Nat
  tankTemp : Option Int
  /-- the level of the E-stop line (R152) -/
  estopOpen : Bool
deriving DecidableEq, Repr

/-! ## Table store (chapter 9) -/

/-- The eight tables, ids 0 to 7. -/
inductive TableId | envelope | compensation | gear | clamp | programs | triggers | pendant | inputs
deriving DecidableEq, Repr

/-- One value per table. -/
structure PerTable (α : Type) where
  envelope : α
  compensation : α
  gear : α
  clamp : α
  programs : α
  triggers : α
  pendant : α
  inputs : α
deriving DecidableEq, Repr

/-- A present table: its bytes and its signature (R161). -/
structure Image where
  bytes : List Byte
  signature : BitVec 16
deriving DecidableEq, Repr

/-- The store state (9.5). -/
inductive StoreState | valid | invalid | writing
deriving DecidableEq, Repr

/-- The non-volatile store's contents: the mark that its last write completed, and its eight tables (9.5). -/
structure NonVolatile where
  complete : Bool
  tables : PerTable (Option Image)
deriving DecidableEq, Repr

/-- The table store (R161, R171). -/
structure TableStore where
  staging : PerTable (List Byte)
  active : PerTable (Option Image)
  nv : NonVolatile
  state : StoreState
  snapshot : Option (PerTable (Option Image))
deriving DecidableEq, Repr

/-! ## Flag unit (chapter 10) -/

/-- The 35 flags, in the order of their numbers (10.2). -/
inductive Flag
  | seqGap | frameOverwritten | linkLost | activateFault | halted | standbyReached
  | envelopeHit | rateHit | moveOnClamped
  | clampDone | clampFault | pressureLow
  | gearDone | gearFault | gearRequestRefused | spindleHeld
  | coolantDone | coolantFault | triggerDropped | triggerMerged | tscWithheld | tankWarn
  | pendantGranted | pendantReleased | commandWhileGranted | absorbIgnored | handwheelDiscard
  | phaseError | knobFault
  | compUpdated | compLimit | sensorFault
  | storeDone | storeFault | nvInvalid
deriving DecidableEq, Repr

/-- The raised set and the mask set: bit k is flag number k. -/
structure FlagUnit where
  raised : BitVec 35
  mask : BitVec 35
deriving DecidableEq, Repr

/-! ## What stood when the previous drive frame left (1.5.4) -/

/-- A TSC pressure sample as its users read it. -/
structure PressureSample where
  value : Nat
  faulted : Bool
deriving DecidableEq, Repr

/-- The values that blocks read of one another "as they stood when the previous drive frame left" (1.5.4). -/
structure Seen where
  out : PerAxis Int
  step : PerAxis Int
  frozen : PerAxis (Option Int)
  clampState : PerClamp ClampState
  reading : PerClamp SwitchReading
  grant : Grant
  permitMark : Bool
  commandMark : Bool
  droop : Int
  applied : Int
  spindleOverride : Nat
  spindleStopped : Bool
  spindleAtSpeed : Bool
  tsc : PressureSample
deriving DecidableEq, Repr

/-! ## What has left the part -/

/-- The drive frame's fields (11.4). -/
structure DriveFrame where
  enable : Bool
  setpoints : PerAxis Int
  spindle : Int
deriving DecidableEq, Repr

/-- The statuses of a service answer (R159). -/
inductive Status
  | ok | accepted | busy | wrongState | badParam | badTable | badSignature | unknownKind | tableAbsent
deriving DecidableEq, Repr

/-- A service answer; kind 0 with status OK and no body is "no answer" (11.3). -/
structure Answer where
  kind : Byte
  status : Status
  body : List Byte
deriving DecidableEq, Repr

/-- One axis report (R40). -/
structure AxisReport where
  setpoint : Int
  actual : Int
  offset : Int
  clampCode : Byte
  envelopeInd : Bool
  rateInd : Bool
  granted : Bool
  heldClamped : Bool
deriving DecidableEq, Repr

/-- The echo frame's fields (R11, 11.3). -/
structure EchoFrame where
  seq : Byte
  fresh : Bool
  attention : Bool
  link : LinkState
  cause : HaltCause
  axes : PerAxis AxisReport
  spindleOut : Int
  spindleActual : Int
  spindleEffective : Int
  gear : GearState
  engaged : Option Range
  target : Option Range
  driven : PerOutput Bool
  program : Option (Fin 8)
  depth : Nat
  selector : Selector
  enable : Enable
  feedOverride : Nat
  spindleOverride : Nat
  button5 : Bool
  button6 : Bool
  button7 : Bool
  button8 : Bool
  applied : Int
  answer : Answer
deriving DecidableEq, Repr

/-- The frames that left at the latest expiry (`none`: no such frame left), and the latest service answer. -/
structure Sent where
  drive : Option DriveFrame
  echo : Option EchoFrame
  answer : Answer
deriving DecidableEq, Repr

/-! ## The whole part -/

/-- The part: its ten blocks, what stood when the previous drive frame left, what has left the part, and the queue
of commands that wait. -/
structure State where
  link : Link
  axes : PerAxis AxisChannel
  comp : Compensation
  clamps : PerClamp ClampSequencer
  bank : Bank
  gear : Gearbox
  coolant : Coolant
  pendant : Pendant
  inputs : Inputs
  store : TableStore
  flags : FlagUnit
  seen : Seen
  sent : Sent
  pending : List Instr
deriving DecidableEq, Repr

/-- Why the part could stop: the manual names no event that stops it, so there is no reason at all. Every command
with a meaning answers a next state. -/
inductive Fault
deriving DecidableEq, Repr

/-- Why a command has no meaning. -/
inductive Refusal
  /-- A command that `exec` has no meaning for; raised by no arm (every row of the table has its meaning). Safe. -/
  | notModelled (mnemonic : String)
deriving DecidableEq, Repr

/-! ## Values after a reset -/

/-- An axis channel after a reset (R43). -/
def axisReset : AxisChannel :=
  { out := 0, step := 0, older := 0, newer := 0, frozen := none, offset := 0,
    envelopeInd := false, rateInd := false, heldClamped := false }

/-- R62. -/
def compReset : Compensation :=
  { droop := 0, applied := 0, windowSum := 0, windowCount := 0, windowFaulted := false, lastSum := none,
    lastMeasurement := none, updates := .count 0, hardFirst := false, stoppedMs := 255000 }

/-- R84: DROPPED until the first debounce is complete. -/
def clampReset : ClampSequencer := { state := .dropped, ceiling := none, settle := 0 }

/-- R84. -/
def bankReset : Bank := { queue := [], holder := none, pressureOk := false, disagree := 0 }

/-- R108. -/
def gearReset : Gearbox :=
  { state := .unknown, engaged := none, target := none, next := none, lastRequest := none,
    forks := ⟨false, false, false, false⟩, forksDelivered := false, forkLoss := false, settle := 0,
    drainCeiling := none, shiftCeiling := none, wiggle := none, phasePositive := true, output := 0, interlock := true, runValue := 0 }

/-- All six outputs OFF. -/
def outputsOff : PerOutput Bool := ⟨false, false, false, false, false, false⟩

/-- R131, with the lube interval timer stopped; `startLube` starts it where a table is loaded. -/
def coolantReset : Coolant :=
  { requested := outputsOff, running := none, queue := [], baseline := ⟨false, false, false, false, false⟩,
    withheld := false, travel := 0, lube := .stopped, tank := .unset, announced := [] }

/-- No accepted band, no candidate (R147). -/
def knobReset : Knob := { accepted := none, candidate := none, count := 0 }

/-- R147; the phase pair is the one of the first sample. -/
def pendantReset (phaseA phaseB : Bool) : Pendant :=
  { selector := .off, increment := .x1, enable := .released,
    buttons := ⟨false, false, false, false, false, false, false, false⟩,
    phaseA := phaseA, phaseB := phaseB, edges := 0, distance := 0, grant := .free, permitMark := false,
    stillCount := 0, commandMark := false, feedKnob := knobReset, spindleKnob := knobReset,
    feedOverride := 100, spindleOverride := 100, delivered := false }

/-- An input without a debounced value or candidate (R150). -/
def undebounced {α : Type} : Debounced α := { value := none, candidate := none, run := 0 }

/-- R158; the E-stop level is that of the line. -/
def inputsReset (estopOpen : Bool) : Inputs :=
  let pair : SwitchPair (Debounced Bool) := ⟨undebounced, undebounced⟩
  { clamps := ⟨pair, pair, pair, pair⟩,
    forks := ⟨undebounced, undebounced, undebounced, undebounced⟩,
    selector := undebounced, increment := undebounced, enable := undebounced,
    buttons := ⟨undebounced, undebounced, undebounced, undebounced, undebounced, undebounced, undebounced, undebounced⟩,
    clampComplete := false, forkComplete := false, pendantComplete := false, clampsDelivered := false,
    readings := ⟨none, none, none, none, none, none⟩, hydraulic := none, tsc := none, tankTemp := none,
    estopOpen := estopOpen }

/-- R20, after a hardware reset. -/
def linkReset : Link :=
  { state := .offline, period := .ms4, slot := none, lastSeq := none, missCount := 0, chainMiss := 0,
    enable := false, cause := .none, returns := none, activation := none, returnFresh := false, enableSent := false,
    takenSeq := none }

/-- The sizes of the tables in bytes, by id (9.3). -/
def tableSizes : PerTable Nat := ⟨91, 53, 58, 19, 296, 25, 50, 11⟩

/-- Every staging copy filled with zero bytes (R161). -/
def stagingZero : PerTable (List Byte) :=
  let z (n : Nat) : List Byte := List.replicate n 0
  ⟨z tableSizes.envelope, z tableSizes.compensation, z tableSizes.gear, z tableSizes.clamp,
   z tableSizes.programs, z tableSizes.triggers, z tableSizes.pendant, z tableSizes.inputs⟩

/-- No table present. -/
def noTables : PerTable (Option Image) := ⟨none, none, none, none, none, none, none, none⟩

/-- What stood before any drive frame has left since hardware reset: every value as its block's reset gives it. -/
def seenReset : Seen :=
  { out := ⟨0, 0, 0, 0, 0⟩, step := ⟨0, 0, 0, 0, 0⟩, frozen := ⟨none, none, none, none, none⟩,
    clampState := ⟨.dropped, .dropped, .dropped, .dropped⟩,
    reading := ⟨.neither, .neither, .neither, .neither⟩,
    grant := .free, permitMark := false, commandMark := false, droop := 0, applied := 0,
    spindleOverride := 100, spindleStopped := true, spindleAtSpeed := false, tsc := ⟨0, true⟩ }

/-- The answer of an expiry without one: kind 0, status 0, length 0 (11.3). -/
def noAnswer : Answer := { kind := 0, status := .ok, body := [] }

/-- Nothing has left the part yet. -/
def sentReset : Sent := { drive := none, echo := none, answer := noAnswer }

/-- The part right after its first hardware reset, the non-volatile store never written: the load of R168 finds it
not good, so every table is absent, the store state is INVALID and NV_INVALID (number 34) is the one raised flag
(R177). The E-stop line is CLOSED and both handwheel phases are low (log entry 6). -/
def State.reset : State :=
  { link := linkReset,
    axes := ⟨axisReset, axisReset, axisReset, axisReset, axisReset⟩,
    comp := compReset,
    clamps := ⟨clampReset, clampReset, clampReset, clampReset⟩,
    bank := bankReset,
    gear := gearReset,
    coolant := coolantReset,
    pendant := pendantReset false false,
    inputs := inputsReset false,
    store := { staging := stagingZero, active := noTables, nv := { complete := false, tables := noTables },
               state := .invalid, snapshot := none },
    flags := { raised := BitVec.twoPow 35 34, mask := 0 },
    seen := seenReset,
    sent := sentReset,
    pending := [] }

end Sys2Proof.Machine
end

