-- ==== Sys2Proof/Machine/Ops.lean ====
section
/-! DEFINITION. Shared operations on plain data: one value per axis or clamp, exact arithmetic and rounding
(1.5.2), byte order (chapter 11), the CRC (R178), stretches of bytes in a table copy, and the conventions for order. -/

namespace Sys2Proof

variable {α β : Type}

/-! ## One value per axis, clamp, fork switch, button -/

def PerAxis.get (v : PerAxis α) : Axis → α
  | .x => v.x
  | .y => v.y
  | .z => v.z
  | .w => v.w
  | .b => v.b

def PerAxis.set (v : PerAxis α) (a : Axis) (u : α) : PerAxis α :=
  match a with
  | .x => { v with x := u }
  | .y => { v with y := u }
  | .z => { v with z := u }
  | .w => { v with w := u }
  | .b => { v with b := u }

/-- The value that `f` gives each axis. -/
def PerAxis.of (f : Axis → α) : PerAxis α := ⟨f .x, f .y, f .z, f .w, f .b⟩

def PerAxis.map (f : α → β) (v : PerAxis α) : PerAxis β := PerAxis.of fun a => f (v.get a)

/-- Whether a condition holds of every axis. -/
def PerAxis.all (f : Axis → Bool) : Bool := f .x && f .y && f .z && f .w && f .b

def PerClamp.get (v : PerClamp α) : ClampAxis → α
  | .x => v.x
  | .y => v.y
  | .z => v.z
  | .b => v.b

def PerClamp.set (v : PerClamp α) (a : ClampAxis) (u : α) : PerClamp α :=
  match a with
  | .x => { v with x := u }
  | .y => { v with y := u }
  | .z => { v with z := u }
  | .b => { v with b := u }

def PerClamp.of (f : ClampAxis → α) : PerClamp α := ⟨f .x, f .y, f .z, f .b⟩

def PerClamp.all (f : ClampAxis → Bool) : Bool := f .x && f .y && f .z && f .b

def PerFork.get (v : PerFork α) : ForkSwitch → α
  | .aLeft => v.aLeft
  | .aRight => v.aRight
  | .bLeft => v.bLeft
  | .bRight => v.bRight

def PerFork.set (v : PerFork α) (i : ForkSwitch) (u : α) : PerFork α :=
  match i with
  | .aLeft => { v with aLeft := u }
  | .aRight => { v with aRight := u }
  | .bLeft => { v with bLeft := u }
  | .bRight => { v with bRight := u }

def PerButton.toList (v : PerButton α) : List α := [v.b1, v.b2, v.b3, v.b4, v.b5, v.b6, v.b7, v.b8]

/-- The axis a clamp holds. -/
def ClampAxis.axis : ClampAxis → Axis
  | .x => .x
  | .y => .y
  | .z => .z
  | .b => .b

/-- The clamp of an axis; W has none (R26). -/
def Axis.clamp : Axis → Option ClampAxis
  | .x => some .x
  | .y => some .y
  | .z => some .z
  | .w => none
  | .b => some .b

/-- The axis's place in the order X, Y, Z, W, B, from 0. -/
def Axis.index : Axis → Nat
  | .x => 0
  | .y => 1
  | .z => 2
  | .w => 3
  | .b => 4

def ClampAxis.index : ClampAxis → Nat
  | .x => 0
  | .y => 1
  | .z => 2
  | .b => 3

namespace Machine

def TableId.index : TableId → Nat
  | .envelope => 0
  | .compensation => 1
  | .gear => 2
  | .clamp => 3
  | .programs => 4
  | .triggers => 5
  | .pendant => 6
  | .inputs => 7

/-- The table of an id byte (9.3). -/
def tableOfId : Nat → Option TableId
  | 0 => some .envelope
  | 1 => some .compensation
  | 2 => some .gear
  | 3 => some .clamp
  | 4 => some .programs
  | 5 => some .triggers
  | 6 => some .pendant
  | 7 => some .inputs
  | _ => none

def PerTable.get (v : PerTable α) : TableId → α
  | .envelope => v.envelope
  | .compensation => v.compensation
  | .gear => v.gear
  | .clamp => v.clamp
  | .programs => v.programs
  | .triggers => v.triggers
  | .pendant => v.pendant
  | .inputs => v.inputs

def PerTable.set (v : PerTable α) (t : TableId) (u : α) : PerTable α :=
  match t with
  | .envelope => { v with envelope := u }
  | .compensation => { v with compensation := u }
  | .gear => { v with gear := u }
  | .clamp => { v with clamp := u }
  | .programs => { v with programs := u }
  | .triggers => { v with triggers := u }
  | .pendant => { v with pendant := u }
  | .inputs => { v with inputs := u }

/-- The eight table ids in order. -/
def allTables : List TableId :=
  [.envelope, .compensation, .gear, .clamp, .programs, .triggers, .pendant, .inputs]

def PerTable.of (f : TableId → α) : PerTable α :=
  ⟨f .envelope, f .compensation, f .gear, f .clamp, f .programs, f .triggers, f .pendant, f .inputs⟩

/-! ## Arithmetic -/

/-- `x` clamped into [lo, hi]. -/
def clampInt (lo hi x : Int) : Int := max lo (min hi x)

/-- The signed 32-bit range (R25, R7). -/
def sat32 (x : Int) : Int := clampInt (-2147483648) 2147483647 x

/-- The nearest integer to n / d, halves away from zero (1.5.2). -/
def roundDiv (n : Int) (d : Nat) : Int :=
  if 0 ≤ n then (2 * n + d) / (2 * d) else -((2 * (-n) + d) / (2 * d))

/-- `v` moved toward 0 by `e`, and 0 where its magnitude is at most `e` (R32, R87). -/
def towardZero (v : Int) (e : Nat) : Int :=
  if v.natAbs ≤ e then 0 else if 0 < v then v - e else v + e

/-- The cycle period in milliseconds (R4). -/
def Period.ms : Period → Nat
  | .ms1 => 1
  | .ms2 => 2
  | .ms4 => 4

/-! ## Bytes, most significant first (chapter 11) -/

/-- The byte at an offset, as a number; 0 beyond the end. -/
def byteAt (bs : List Byte) (i : Nat) : Nat := (bs.getD i 0).toNat

/-- Unsigned two bytes from an offset. -/
def u16At (bs : List Byte) (i : Nat) : Nat := byteAt bs i * 256 + byteAt bs (i + 1)

/-- Unsigned four bytes from an offset. -/
def u32At (bs : List Byte) (i : Nat) : Nat := (u16At bs i * 256 + byteAt bs (i + 2)) * 256 + byteAt bs (i + 3)

/-- The number that `n` stands for in two's complement of `w` bits. -/
def signed (w n : Nat) : Int := if n < 2 ^ (w - 1) then (n : Int) else (n : Int) - (2 ^ w : Nat)

def s16At (bs : List Byte) (i : Nat) : Int := signed 16 (u16At bs i)

def s32At (bs : List Byte) (i : Nat) : Int := signed 32 (u32At bs i)

/-- A number in one byte. -/
def be8 (n : Nat) : List Byte := [BitVec.ofNat 8 n]

/-- A number in two bytes. -/
def be16 (n : Nat) : List Byte := [BitVec.ofNat 8 (n / 256), BitVec.ofNat 8 n]

/-- A number in four bytes. -/
def be32 (n : Nat) : List Byte := be16 (n / 65536) ++ be16 (n % 65536)

/-- A signed number in one, two or four bytes of two's complement. -/
def beS8 (x : Int) : List Byte := be8 (x % 256).toNat

def beS16 (x : Int) : List Byte := be16 (x % 65536).toNat

def beS32 (x : Int) : List Byte := be32 (x % 4294967296).toNat

/-- A condition as a byte, 1 where it holds. -/
def flagByte (b : Bool) : Byte := if b then 1 else 0

/-- The bytes from an offset, `n` of them. -/
def sliceBytes (bs : List Byte) (off n : Nat) : List Byte := (bs.drop off).take n

/-- `bs` with `data` in place of its bytes from `off` on; its length is kept where `data` fits. -/
def overwrite (bs : List Byte) (off : Nat) (data : List Byte) : List Byte :=
  bs.take off ++ data ++ bs.drop (off + data.length)

/-! ## The CRC (R178) -/

/-- One bit into the register. -/
def crcBit (reg : BitVec 16) (bit : Bool) : BitVec 16 :=
  if (bit != reg.msb) then (reg <<< 1) ^^^ 0x1021#16 else reg <<< 1

/-- One byte into the register, its most significant bit first. -/
def crcByte (reg : BitVec 16) (y : Byte) : BitVec 16 :=
  [7, 6, 5, 4, 3, 2, 1, 0].foldl (fun r i => crcBit r (y.getLsbD i)) reg

/-- The CRC of a string of bytes: the register starts at all ones, and there is no final inversion. -/
def crc16 (bs : List Byte) : BitVec 16 := bs.foldl crcByte 0xFFFF#16

/-- A frame with its CRC in its last two bytes. -/
def withCrc (bs : List Byte) : List Byte := bs ++ be16 (crc16 bs).toNat

/-- Whether a received frame's last two bytes are the CRC of the bytes before them. -/
def crcGood (bs : List Byte) : Bool :=
  decide (2 ≤ bs.length) && decide ((crc16 (bs.take (bs.length - 2))).toNat = u16At bs (bs.length - 2))

/-- A table as present: its bytes with their CRC as signature (R161). -/
def imageOf (bs : List Byte) : Image := { bytes := bs, signature := crc16 bs }

/-! ## Order -/

/-- `a` at the end of a list that does not hold it yet. -/
def addNew [DecidableEq α] (acc : List α) (a : α) : List α := if a ∈ acc then acc else acc ++ [a]

/-- The four clamps in order. -/
def allClamps : List ClampAxis := [.x, .y, .z, .b]

/-- The five axes in order. -/
def allAxes : List Axis := [.x, .y, .z, .w, .b]

/-- A given order made complete: its first mentions, then those not mentioned in the order X, Y, Z, B
(log entry 2). -/
def fullClampOrder (given : List ClampAxis) : List ClampAxis :=
  (given ++ allClamps).foldl addNew []

/-! ## Link states -/

/-- HALTED and OFFLINE: the states in which the valves are dropped and the coolant is at rest (R63, R112). -/
def LinkState.atRest : LinkState → Bool
  | .offline | .halted => true
  | .standby | .activating | .running | .stopping | .linkLost => false

/-- ACTIVATING, RUNNING, STOPPING and LINK_LOST: the states with drive enable ON (R8). -/
def LinkState.enabled : LinkState → Bool
  | .activating | .running | .stopping | .linkLost => true
  | .offline | .standby | .halted => false

/-- RUNNING, STOPPING and LINK_LOST: the states in which the axis setpoints are computed (R21). -/
def LinkState.moving : LinkState → Bool
  | .running | .stopping | .linkLost => true
  | .offline | .standby | .activating | .halted => false

/-- The states in which every field of a taken frame is presented (R6). -/
def LinkState.presentsAll : LinkState → Bool
  | .standby | .activating | .running | .stopping | .halted => true
  | .offline | .linkLost => false

end Machine

end Sys2Proof
end

