-- ==== Sys2Proof/Machine/Flags.lean ====
section
/-! DEFINITION. The flag unit (chapter 10): flag numbers, raising and clearing, attention, and a flag set's five
bytes. -/

namespace Sys2Proof.Machine

/-- The flag's number (10.2). -/
def Flag.num : Flag → Nat
  | .seqGap => 0
  | .frameOverwritten => 1
  | .linkLost => 2
  | .activateFault => 3
  | .halted => 4
  | .standbyReached => 5
  | .envelopeHit => 6
  | .rateHit => 7
  | .moveOnClamped => 8
  | .clampDone => 9
  | .clampFault => 10
  | .pressureLow => 11
  | .gearDone => 12
  | .gearFault => 13
  | .gearRequestRefused => 14
  | .spindleHeld => 15
  | .coolantDone => 16
  | .coolantFault => 17
  | .triggerDropped => 18
  | .triggerMerged => 19
  | .tscWithheld => 20
  | .tankWarn => 21
  | .pendantGranted => 22
  | .pendantReleased => 23
  | .commandWhileGranted => 24
  | .absorbIgnored => 25
  | .handwheelDiscard => 26
  | .phaseError => 27
  | .knobFault => 28
  | .compUpdated => 29
  | .compLimit => 30
  | .sensorFault => 31
  | .storeDone => 32
  | .storeFault => 33
  | .nvInvalid => 34

/-- A flag set that holds one flag. -/
def Flag.bit (f : Flag) : BitVec 35 := BitVec.twoPow 35 f.num

/-- R172: the flag joins the raised set, and a raised flag stays raised. -/
def raise (f : Flag) (s : State) : State :=
  { s with flags := { s.flags with raised := s.flags.raised ||| f.bit } }

/-- `raise` where a condition holds. -/
def raiseIf (c : Bool) (f : Flag) (s : State) : State := if c then raise f s else s

/-- Whether a flag is raised. -/
def isRaised (f : Flag) (s : State) : Bool := s.flags.raised.getLsbD f.num

/-- R175: the named flags leave the raised set. -/
def lowerFlags (set : BitVec 35) (s : State) : State :=
  { s with flags := { s.flags with raised := s.flags.raised &&& ~~~ set } }

/-- R176: the mask set becomes the named set. -/
def replaceMask (set : BitVec 35) (s : State) : State :=
  { s with flags := { s.flags with mask := set } }

/-- R173: some raised flag is in the mask set. -/
def attention (s : State) : Bool := decide (s.flags.raised &&& s.flags.mask ≠ 0)

/-- A flag set's five bytes: flag k is bit k mod 8 of byte k div 8 (11.5). -/
def flagSetBytes (set : BitVec 35) : List Byte :=
  let n := set.toNat
  [BitVec.ofNat 8 n, BitVec.ofNat 8 (n / 256), BitVec.ofNat 8 (n / 65536), BitVec.ofNat 8 (n / 16777216),
   BitVec.ofNat 8 (n / 4294967296)]

/-- The number that a flag set's five bytes stand for. -/
def flagSetNumber (body : List Byte) : Nat :=
  (((byteAt body 4 * 256 + byteAt body 3) * 256 + byteAt body 2) * 256 + byteAt body 1) * 256 + byteAt body 0

/-- The flag set of five bytes; `none` where they name a number beyond 34, in the upper bits of the fifth (R179). -/
def flagSetOf (body : List Byte) : Option (BitVec 35) :=
  if byteAt body 4 < 8 then some (BitVec.ofNat 35 (flagSetNumber body)) else none

end Sys2Proof.Machine
end

