-- ==== Sys2Proof/Machine/Tables.lean ====
section
/-! DEFINITION. The eight tables as the blocks read them (11.7) and the checks each owner makes at COMMIT
(R42, R60, R82, R106, R127, R129, R146, R156). A table is its bytes; every field is a function of them. -/

namespace Sys2Proof.Machine

/-! ## The active copies -/

/-- The bytes of the active copy of a table, where it is PRESENT (R161). -/
def activeBytes (s : State) (t : TableId) : Option (List Byte) := (s.store.active.get t).map Image.bytes

/-- Whether the active copy of a table is PRESENT. -/
def present (s : State) (t : TableId) : Bool := (s.store.active.get t).isSome

/-- R13: all eight active tables are present. -/
def allPresent (s : State) : Bool := allTables.all (present s)

/-! ## Envelope table, id 0 -/

/-- An axis record of the envelope table (2.8). -/
structure AxisParams where
  lo : Int
  hi : Int
  ceiling : Nat
  decel : Nat
  limit : Nat
  still : Nat
  rotary : Bool
deriving DecidableEq, Repr

/-- Offset of an axis's record. -/
def axisBase (a : Axis) : Nat := 1 + 18 * a.index

/-- The mode byte of an axis record: 1 is ROTARY, open to B alone (R42). -/
def rotaryMode (bs : List Byte) (a : Axis) : Bool := decide (a = .b) && decide (byteAt bs (axisBase a + 17) = 1)

def axisParamsOf (bs : List Byte) (a : Axis) : AxisParams :=
  let o := axisBase a
  { lo := s32At bs o, hi := s32At bs (o + 4), ceiling := u16At bs (o + 8), decel := u16At bs (o + 10),
    limit := u32At bs (o + 12), still := byteAt bs (o + 16), rotary := rotaryMode bs a }

/-- The parameters of an axis, where the envelope table is present (R41). -/
def axisParams (s : State) (a : Axis) : Option AxisParams :=
  (activeBytes s .envelope).map fun bs => axisParamsOf bs a

/-- R5: the miss limit, 3 while the envelope table is absent. -/
def missLimit (s : State) : Nat :=
  match activeBytes s .envelope with
  | some bs => byteAt bs 0
  | none => 3

/-- Whether an axis is ROTARY; while the envelope table is absent B is treated as LINEAR (R36, R41). -/
def isRotary (s : State) (a : Axis) : Bool :=
  match activeBytes s .envelope with
  | some bs => rotaryMode bs a
  | none => false

/-- The still frames of an axis, 1 while the envelope table is absent (R74). -/
def stillFrames (s : State) (a : Axis) : Nat :=
  match axisParams s a with
  | some p => p.still
  | none => 1

/-! ## Compensation table, id 1 -/

def droopPoint (bs : List Byte) (i : Nat) : Int := s16At bs (2 * i)

def compZero (bs : List Byte) : Int := s32At bs 34

def compSpan (bs : List Byte) : Nat := u32At bs 38

def compRef (bs : List Byte) : Nat := u16At bs 42

def compGain (bs : List Byte) : Nat := byteAt bs 44

def compSmoothing (bs : List Byte) : Nat := byteAt bs 45

def compSoft (bs : List Byte) : Nat := byteAt bs 46

def compHard (bs : List Byte) : Nat := byteAt bs 47

def compRestart (bs : List Byte) : Nat := byteAt bs 48

def compMax (bs : List Byte) : Nat := u16At bs 49

/-- A trigger enable by its bit: 0 threshold-as-hard, 1 GEAR_END, 2 SPINDLE_RESTART, 3 continuous. -/
def compEnable (bs : List Byte) (k : Nat) : Bool := Nat.testBit (byteAt bs 51) k

/-- The restart stop time in milliseconds (R52). -/
def compStopMs (bs : List Byte) : Nat := 1000 * byteAt bs 52

/-! ## Gear table, id 2 -/

def Range.index : Range → Nat
  | .r1 => 0
  | .r2 => 1
  | .r3 => 2
  | .r4 => 3

/-- The range of a number 1 to 4. -/
def rangeOfNat : Nat → Option Range
  | 1 => some .r1
  | 2 => some .r2
  | 3 => some .r3
  | 4 => some .r4
  | _ => none

/-- A range's number, 0 for none (11.3). -/
def rangeCode : Option Range → Nat
  | none => 0
  | some r => r.index + 1

def gearBase (r : Range) : Nat := 13 * r.index

def gearMin (bs : List Byte) (r : Range) : Nat := u16At bs (gearBase r)

def gearMax (bs : List Byte) (r : Range) : Nat := u16At bs (gearBase r + 2)

def gearRatio (bs : List Byte) (r : Range) : Nat := u16At bs (gearBase r + 4)

def gearCeiling (bs : List Byte) (r : Range) : Nat := u16At bs (gearBase r + 6)

def wiggleSpeed (bs : List Byte) (r : Range) : Nat := u16At bs (gearBase r + 8)

def wiggleHalfMs (bs : List Byte) (r : Range) : Nat := 10 * byteAt bs (gearBase r + 10)

/-- A fork side's code: 1 LEFT, 2 RIGHT. -/
def forkSideOf : Nat → ForkSide
  | 1 => .left
  | 2 => .right
  | _ => .middle

/-- A range's fork pattern: the sides of fork A and fork B. -/
def forkPattern (bs : List Byte) (r : Range) : ForkSide × ForkSide :=
  let n := byteAt bs (gearBase r + 11)
  (forkSideOf (n % 16), forkSideOf (n / 16))

def shiftCeilingMs (bs : List Byte) (r : Range) : Nat := 100 * byteAt bs (gearBase r + 12)

def spindleDecel (bs : List Byte) : Nat := byteAt bs 52

def zeroBand (bs : List Byte) : Nat := byteAt bs 53

def atSpeedBand (bs : List Byte) : Nat := byteAt bs 54

def gearSettle (bs : List Byte) : Nat := byteAt bs 55

/-- The drain threshold in 0.1 bar (R98). -/
def drainThreshold (bs : List Byte) : Nat := 10 * byteAt bs 56

def drainCeilingMs (bs : List Byte) : Nat := 100 * byteAt bs 57

/-! ## Clamp and hydraulic table, id 3 -/

def clampRecordPresent (bs : List Byte) (a : ClampAxis) : Bool := decide (byteAt bs (4 * a.index) = 1)

def unclampCeilingMs (bs : List Byte) (a : ClampAxis) : Nat := 100 * byteAt bs (4 * a.index + 1)

def clampCeilingMs (bs : List Byte) (a : ClampAxis) : Nat := 100 * byteAt bs (4 * a.index + 2)

def confirmSettle (bs : List Byte) (a : ClampAxis) : Nat := byteAt bs (4 * a.index + 3)

/-- The pressure threshold in 0.1 bar: 20 bar for code 0 and 5 bar more for each code up to 7 (R67). -/
def pressureThreshold (bs : List Byte) : Nat := 10 * (20 + 5 * byteAt bs 16)

def pressureFilter (bs : List Byte) : Nat := byteAt bs 17

def dropCeilingMs (bs : List Byte) : Nat := 100 * byteAt bs 18

/-- R81: the clamp's record in the active clamp and hydraulic table says ABSENT. -/
def clampAbsent (s : State) (a : ClampAxis) : Bool :=
  match activeBytes s .clamp with
  | some bs => !clampRecordPresent bs a
  | none => false

/-- The clamp's record is in force: the table is present and the record says PRESENT. -/
def clampInForce (s : State) (a : ClampAxis) : Bool :=
  match activeBytes s .clamp with
  | some bs => clampRecordPresent bs a
  | none => false

/-! ## Coolant programs table, id 4 -/

/-- The wait of a step (6.3). -/
inductive Wait | none | atSpeed | stopped | pressureLow | pressureHigh
deriving DecidableEq, Repr

def waitOf : Nat → Wait
  | 1 => .atSpeed
  | 2 => .stopped
  | 3 => .pressureLow
  | 4 => .pressureHigh
  | _ => .none

def stepCount (bs : List Byte) (p : Nat) : Nat := byteAt bs (37 * p)

/-- Offset of step `i` (1 to 6) of program `p`. -/
def stepBase (p i : Nat) : Nat := 37 * p + 1 + 6 * (i - 1)

/-- The pattern entry of output `k` (0 FLOOD to 5 LUBE): 0 KEEP, 1 ON, 2 OFF. -/
def patternEntry (bs : List Byte) (p i k : Nat) : Nat := u16At bs (stepBase p i) / 4 ^ k % 4

def stepWait (bs : List Byte) (p i : Nat) : Wait := waitOf (byteAt bs (stepBase p i + 2))

def stepCeilingMs (bs : List Byte) (p i : Nat) : Nat := 100 * byteAt bs (stepBase p i + 3)

def stepPause (bs : List Byte) (p i : Nat) : Nat := u16At bs (stepBase p i + 4)

/-! ## Triggers and auxiliaries table, id 5 -/

def sourceIndex : TriggerSource → Nat
  | .spindleStart => 0
  | .spindleStop => 1
  | .gearBegin => 2
  | .gearEnd => 3
  | .req0 => 4
  | .req1 => 5
  | .req2 => 6
  | .req3 => 7
  | .pb0 => 8
  | .pb1 => 9
  | .pb2 => 10
  | .pb3 => 11
  | .lubeDue => 12
  | .tankWarn => 13
  | .linkStop => 14
  | .tscWithheld => 15

/-- A program number byte: 0 to 7, or none. -/
def programOf (n : Nat) : Option (Fin 8) := if h : n < 8 then some ⟨n, h⟩ else none

/-- The program that a source's entry names, or NONE (R118). -/
def triggerEntry (bs : List Byte) (src : TriggerSource) : Option (Fin 8) := programOf (byteAt bs (sourceIndex src))

def lubeDistance (bs : List Byte) : Nat := u32At bs 16

def lubeInterval (bs : List Byte) : Nat := u16At bs 20

/-- The tank threshold and hysteresis in 0.1 °C (R125). -/
def tankThreshold (bs : List Byte) : Int := 10 * (byteAt bs 22 : Int)

def tankHysteresis (bs : List Byte) : Int := 10 * (byteAt bs 23 : Int)

/-- The TSC build threshold in 0.1 bar (R114). -/
def buildThreshold (bs : List Byte) : Nat := 10 * byteAt bs 24

/-! ## Pendant table, id 6 -/

def edgesPerDetent (bs : List Byte) : Nat := byteAt bs 0

def wheelReversed (bs : List Byte) : Bool := decide (byteAt bs 1 = 1)

def incrementDistance (bs : List Byte) : Increment → Nat
  | .x1 => u16At bs 2
  | .x10 => u16At bs 4
  | .x100 => u16At bs 6

def pendantStep (bs : List Byte) : Nat := u16At bs 8

def pendingLimit (bs : List Byte) : Nat := u32At bs 10

def offsetLimit (bs : List Byte) : Nat := u32At bs 14

def feedBand (bs : List Byte) (k : Fin 16) : Nat := byteAt bs (18 + k.val)

/-- A spindle band entry, clamped into 50 to 120 % (R143). -/
def spindleBand (bs : List Byte) (k : Fin 16) : Nat := max 50 (min 120 (byteAt bs (34 + k.val)))

/-! ## Input table, id 7, with the defaults of section 8.5 -/

/-- A field of the input table, or its default while the table is absent. -/
def inputField {α : Type} (s : State) (f : List Byte → α) (dflt : α) : α :=
  match activeBytes s .inputs with
  | some bs => f bs
  | none => dflt

def clampDebounce (s : State) : Nat := inputField s (byteAt · 0) 3

def forkDebounce (s : State) : Nat := inputField s (byteAt · 1) 3

def pendantDebounce (s : State) : Nat := inputField s (byteAt · 2) 3

def hydraulicScale (s : State) : Nat := inputField s (u16At · 3) 1000

def tscScale (s : State) : Nat := inputField s (u16At · 5) 1600

def tankZero (s : State) : Int := inputField s (s16At · 7) 0

def tankSpan (s : State) : Nat := inputField s (u16At · 9) 1000

/-! ## The checks of COMMIT

Each check is a condition and the offset of the field named where it fails; the first failure decides (R164). -/

/-- The offset named by the first condition that fails. -/
def firstFailure : List (Bool × Nat) → Option Nat
  | [] => none
  | (true, _) :: rest => firstFailure rest
  | (false, off) :: _ => some off

/-- A number lies in a range that includes both ends (1.5.7). -/
def within (lo hi n : Nat) : Bool := decide (lo ≤ n) && decide (n ≤ hi)

/-- R42, the checks of one axis record. -/
def axisChecks (bs : List Byte) (a : Axis) : List (Bool × Nat) :=
  let o := axisBase a
  let mode := byteAt bs (o + 17)
  let p := axisParamsOf bs a
  [(decide (mode = 0) || (decide (mode = 1) && decide (a = .b)), o + 17),
   (decide (mode = 1) || decide (p.lo ≤ p.hi), o + 4),
   (within 1 65535 p.ceiling, o + 8),
   (within 1 4095 p.decel, o + 10),
   (decide (p.decel ≤ p.ceiling), o + 10),
   (within 1 1000000 p.limit, o + 12),
   (within 1 255 p.still, o + 16)]

/-- R42. -/
def envelopeChecks (bs : List Byte) : List (Bool × Nat) :=
  (within 1 7 (byteAt bs 0), 0) :: allAxes.flatMap (axisChecks bs)

/-- R60. -/
def compensationChecks (bs : List Byte) : List (Bool × Nat) :=
  [(within 16 4000000 (compSpan bs), 38),
   (within 0 4095 (compRef bs), 42),
   (within 1 255 (compGain bs), 44),
   (within 0 16 (compSmoothing bs), 45),
   (within 0 2000 (compMax bs), 49),
   (decide (byteAt bs 51 < 16), 51),
   (within 1 255 (byteAt bs 52), 52)]

/-- The four ranges in order. -/
def allRanges : List Range := [.r1, .r2, .r3, .r4]

/-- R106, checks 1 to 9 of one range record. -/
def rangeChecks (bs : List Byte) (r : Range) : List (Bool × Nat) :=
  let o := gearBase r
  [(within 0 2000 (gearMin bs r), o),
   (within 1 2000 (gearMax bs r), o + 2),
   (decide (gearMin bs r ≤ gearMax bs r), o + 2),
   (within 250 40000 (gearRatio bs r), o + 4),
   (within 1 6000 (gearCeiling bs r), o + 6),
   (within 1 300 (wiggleSpeed bs r), o + 8),
   (within 1 50 (byteAt bs (o + 10)), o + 10),
   (decide ((forkPattern bs r).1 ≠ .middle) && decide ((forkPattern bs r).2 ≠ .middle), o + 11),
   (within 1 100 (byteAt bs (o + 12)), o + 12)]

/-- R106, check 10: a range's fork pattern is none of an earlier range's. -/
def patternCheck (bs : List Byte) (r : Range) : Bool × Nat :=
  (allRanges.all fun q => decide (r.index ≤ q.index) || decide (forkPattern bs q ≠ forkPattern bs r),
   gearBase r + 11)

/-- R106. -/
def gearChecks (bs : List Byte) : List (Bool × Nat) :=
  allRanges.flatMap (rangeChecks bs) ++ allRanges.map (patternCheck bs) ++
  [(within 1 200 (byteAt bs 52), 52), (within 1 50 (byteAt bs 53), 53), (within 1 255 (byteAt bs 54), 54),
   (within 1 15 (byteAt bs 55), 55), (within 1 50 (byteAt bs 56), 56), (within 1 100 (byteAt bs 57), 57)]

/-- R82, the checks of one clamp record; an ABSENT record's other fields are not checked. -/
def clampChecksOf (bs : List Byte) (a : ClampAxis) : List (Bool × Nat) :=
  let o := 4 * a.index
  let absent := decide (byteAt bs o = 0)
  [(within 0 1 (byteAt bs o), o),
   (absent || within 1 100 (byteAt bs (o + 1)), o + 1),
   (absent || within 1 100 (byteAt bs (o + 2)), o + 2),
   (absent || within 1 15 (byteAt bs (o + 3)), o + 3)]

/-- R82. -/
def clampChecks (bs : List Byte) : List (Bool × Nat) :=
  allClamps.flatMap (clampChecksOf bs) ++
  [(within 0 7 (byteAt bs 16), 16), (within 1 64 (byteAt bs 17), 17), (within 1 100 (byteAt bs 18), 18)]

/-- R127, the checks of one step in use. -/
def stepChecks (bs : List Byte) (p i : Nat) : List (Bool × Nat) :=
  let o := stepBase p i
  [((List.range 6).all fun k => decide (patternEntry bs p i k ≠ 3), o),
   (within 0 4 (byteAt bs (o + 2)), o + 2),
   (decide (byteAt bs (o + 2) = 0) || within 1 255 (byteAt bs (o + 3)), o + 3),
   (within 0 6000 (stepPause bs p i), o + 4)]

/-- R127. -/
def programChecks (bs : List Byte) : List (Bool × Nat) :=
  (List.range 8).flatMap fun p =>
    (within 0 6 (stepCount bs p), 37 * p) ::
      (List.range (min 6 (stepCount bs p))).flatMap fun i => stepChecks bs p (i + 1)

/-- R129. -/
def triggerChecks (bs : List Byte) : List (Bool × Nat) :=
  (List.range 16).map (fun k => (decide (byteAt bs k ≤ 7) || decide (byteAt bs k = 255), k)) ++
  [(within 0 100000000 (lubeDistance bs), 16), (within 30 60 (byteAt bs 22), 22),
   (within 1 10 (byteAt bs 23), 23), (within 1 100 (byteAt bs 24), 24)]

/-- R146. -/
def pendantChecks (bs : List Byte) : List (Bool × Nat) :=
  [(decide (byteAt bs 0 = 1) || decide (byteAt bs 0 = 2) || decide (byteAt bs 0 = 4), 0),
   (within 0 1 (byteAt bs 1), 1),
   (within 1 1000 (u16At bs 2), 2), (within 1 1000 (u16At bs 4), 4), (within 1 1000 (u16At bs 6), 6),
   (within 1 65535 (pendantStep bs), 8), (within 0 1000000 (pendingLimit bs), 10),
   (within 0 2000000 (offsetLimit bs), 14)] ++
  (List.range 16).map fun k => (within 0 150 (byteAt bs (18 + k)), 18 + k)

/-- R156. -/
def inputChecks (bs : List Byte) : List (Bool × Nat) :=
  [(within 0 15 (byteAt bs 0), 0), (within 0 15 (byteAt bs 1), 1), (within 0 15 (byteAt bs 2), 2),
   (within 100 6000 (u16At bs 3), 3), (within 100 6000 (u16At bs 5), 5),
   (decide (-500 ≤ s16At bs 7) && decide (s16At bs 7 ≤ 500), 7), (within 1 2000 (u16At bs 9), 9)]

/-- The owner's checks of a table. -/
def tableChecks (t : TableId) (bs : List Byte) : List (Bool × Nat) :=
  match t with
  | .envelope => envelopeChecks bs
  | .compensation => compensationChecks bs
  | .gear => gearChecks bs
  | .clamp => clampChecks bs
  | .programs => programChecks bs
  | .triggers => triggerChecks bs
  | .pendant => pendantChecks bs
  | .inputs => inputChecks bs

/-- R164, check 5: the offset of the first failing check's field, or none where the table passes. -/
def tableFailure (t : TableId) (bs : List Byte) : Option Nat := firstFailure (tableChecks t bs)

end Sys2Proof.Machine
end

