-- ==== Sys2Proof/Machine/Operands.lean ====
section
/-! DEFINITION. What comes in over the links, read from its bytes: cycle frames (R1, 11.2), return frames (R9, 11.4),
the kinds of service records and their body lengths (R159), and the codes of section 11.6. -/

namespace Sys2Proof.Machine

/-! ## Cycle frame -/

/-- One axis record; bits 3 to 7 of the request byte are ignored (R179). -/
def axisRecordAt (bs : List Byte) (a : Axis) : AxisRecord :=
  let o := 2 + 5 * a.index
  let req := byteAt bs (o + 4)
  { command := s32At bs o, unclamp := req.testBit 0, permit := req.testBit 1, absorb := req.testBit 2 }

/-- The coolant byte; bits 5 to 7 are ignored (R179). -/
def requestBitsOf (n : Nat) : RequestBits :=
  { req0 := n.testBit 0, req1 := n.testBit 1, req2 := n.testBit 2, req3 := n.testBit 3, stop := n.testBit 4 }

/-- R1, R179: the fields of an accepted frame; `none` where the frame is dropped. -/
def cycleFrameOf (bs : List Byte) : Option CycleFrame :=
  let n := byteAt bs 32
  let kind := bs.getD 31 0
  if crcGood bs && decide (byteAt bs 0 = 0xC1) && decide (n ≤ 48) && decide (bs.length = 35 + n)
      && (decide (kind ≠ 0) || decide (n = 0)) then
    some { seq := bs.getD 1 0, axes := PerAxis.of (axisRecordAt bs), spindle := s16At bs 27, range := bs.getD 29 0,
           coolant := requestBitsOf (byteAt bs 30), kind := kind, body := sliceBytes bs 33 n }
  else none

/-- The requests byte of an axis record. -/
def requestByte (r : AxisRecord) : Byte :=
  BitVec.ofNat 8 ((if r.unclamp then 1 else 0) + (if r.permit then 2 else 0) + (if r.absorb then 4 else 0))

/-- An axis record's five bytes. -/
def axisRecordWire (r : AxisRecord) : List Byte := beS32 r.command ++ [requestByte r]

/-- The coolant byte. -/
def coolantByte (r : RequestBits) : Byte :=
  BitVec.ofNat 8 ((if r.req0 then 1 else 0) + (if r.req1 then 2 else 0) + (if r.req2 then 4 else 0) +
    (if r.req3 then 8 else 0) + (if r.stop then 16 else 0))

/-- 11.2: the bytes of a cycle frame as the motion computer sends it. -/
def cycleWire (f : CycleFrame) : List Byte :=
  withCrc (be8 0xC1 ++ [f.seq] ++ axisRecordWire f.axes.x ++ axisRecordWire f.axes.y ++ axisRecordWire f.axes.z ++
    axisRecordWire f.axes.w ++ axisRecordWire f.axes.b ++ beS16 f.spindle ++ [f.range, coolantByte f.coolant, f.kind] ++
    be8 f.body.length ++ f.body)

/-! ## Return frame -/

/-- A station status byte: 0 READY, 1 NOT-READY, 2 FAULT. -/
def stationStatusOf : Nat → Option StationStatus
  | 0 => some .ready
  | 1 => some .notReady
  | 2 => some .fault
  | _ => none

/-- Station `j`'s record. -/
def stationAt (bs : List Byte) (j : Nat) : Option StationReport :=
  (stationStatusOf (byteAt bs (5 * j))).map fun st => { status := st, actual := s32At bs (5 * j + 1) }

/-- R9, R179: a good return frame's values; `none` where the frame is dropped. -/
def returnsOf (bs : List Byte) : Option Returns :=
  if decide (bs.length = 32) && crcGood bs then
    match stationAt bs 0, stationAt bs 1, stationAt bs 2, stationAt bs 3, stationAt bs 4, stationAt bs 5 with
    | some x, some y, some z, some w, some b, some sp => some { axes := ⟨x, y, z, w, b⟩, spindle := sp }
    | _, _, _, _, _, _ => none
  else none

/-- A station status's byte. -/
def StationStatus.code : StationStatus → Nat
  | .ready => 0
  | .notReady => 1
  | .fault => 2

/-- A station record's five bytes. -/
def stationWire (r : StationReport) : List Byte := be8 r.status.code ++ beS32 r.actual

/-- 11.4: the bytes of a return frame as the drive chain sends it. -/
def returnWire (r : Returns) : List Byte :=
  withCrc (stationWire r.axes.x ++ stationWire r.axes.y ++ stationWire r.axes.z ++ stationWire r.axes.w ++
    stationWire r.axes.b ++ stationWire r.spindle)

/-- Whether a condition holds of all six stations, and whether it holds of any. -/
def allStations (f : StationStatus → Bool) (r : Returns) : Bool :=
  PerAxis.all (fun a => f (r.axes.get a).status) && f r.spindle.status

def anyStation (f : StationStatus → Bool) (r : Returns) : Bool := !allStations (fun st => !f st) r

/-! ## Service kinds -/

/-- The kinds of service records (11.6). -/
inductive ServiceKind
  | readInfo | writeSegment | readSegment | commit | store | start | stop | recover | restart
  | readFlags | clearFlags | setMask | coolantTrigger | coolantStop | compTrigger | growthZero | clearFault | readState
deriving DecidableEq, Repr

/-- The kind byte's code (11.6). -/
def ServiceKind.code : ServiceKind → Byte
  | .readInfo => 1
  | .writeSegment => 2
  | .readSegment => 3
  | .commit => 4
  | .store => 5
  | .start => 6
  | .stop => 7
  | .recover => 8
  | .restart => 9
  | .readFlags => 10
  | .clearFlags => 11
  | .setMask => 12
  | .coolantTrigger => 13
  | .coolantStop => 14
  | .compTrigger => 15
  | .growthZero => 16
  | .clearFault => 17
  | .readState => 18

/-- The kind of a byte; `none` where section 11.6 gives it no kind of record. -/
def serviceKindOf (n : Nat) : Option ServiceKind :=
  match n with
  | 1 => some .readInfo
  | 2 => some .writeSegment
  | 3 => some .readSegment
  | 4 => some .commit
  | 5 => some .store
  | 6 => some .start
  | 7 => some .stop
  | 8 => some .recover
  | 9 => some .restart
  | 10 => some .readFlags
  | 11 => some .clearFlags
  | 12 => some .setMask
  | 13 => some .coolantTrigger
  | 14 => some .coolantStop
  | 15 => some .compTrigger
  | 16 => some .growthZero
  | 17 => some .clearFault
  | 18 => some .readState
  | _ => none

/-- R159, step 2: the length a kind requires of its body. -/
def bodyLengthOk (k : ServiceKind) (body : List Byte) : Bool :=
  match k with
  | .readInfo | .store | .stop | .recover | .restart | .readFlags | .coolantStop | .growthZero =>
    decide (body.length = 0)
  | .writeSegment => decide (4 ≤ body.length) && decide (body.length ≤ 47)
  | .readSegment | .clearFlags | .setMask => decide (body.length = 5)
  | .commit => decide (body.length = 3)
  | .start | .coolantTrigger | .compTrigger | .clearFault | .readState => decide (body.length = 1)

/-- START's period code (R13). -/
def periodOf : Nat → Option Period
  | 1 => some .ms1
  | 2 => some .ms2
  | 4 => some .ms4
  | _ => none

/-- CLEAR_FAULT's target code (11.5): a clamp, or the gearbox. -/
def clearTargetOf : Nat → Option Claimant
  | 0 => some (.clamp .x)
  | 1 => some (.clamp .y)
  | 2 => some (.clamp .z)
  | 3 => some (.clamp .b)
  | 4 => some .gearbox
  | _ => none

/-! ## Codes of section 11.6 -/

def LinkState.code : LinkState → Nat
  | .offline => 0
  | .standby => 1
  | .activating => 2
  | .running => 3
  | .stopping => 4
  | .linkLost => 5
  | .halted => 6

def HaltCause.code : HaltCause → Nat
  | .none => 0
  | .estop => 1
  | .driveFault => 2
  | .driveChainLost => 3
  | .followingError => 4

/-- A clamp state's code; 8 is ABSENT. -/
def ClampState.code : ClampState → Nat
  | .clamped => 0
  | .unclampWait => 1
  | .unclamping => 2
  | .unclamped => 3
  | .clampWait _ => 4
  | .clamping => 5
  | .dropped => 6
  | .fault => 7

def GearState.code : GearState → Nat
  | .engaged => 0
  | .unknown => 1
  | .stoppingSpindle => 2
  | .draining => 3
  | .valveWait => 4
  | .shifting => 5
  | .fault => 6

def Selector.code : Selector → Nat
  | .off => 0
  | .axis a => a.index + 1

def Enable.code : Enable → Nat
  | .released => 0
  | .held => 1
  | .clenched => 2

def StoreState.code : StoreState → Nat
  | .valid => 0
  | .invalid => 1
  | .writing => 2

def Status.code : Status → Nat
  | .ok => 0
  | .accepted => 1
  | .busy => 2
  | .wrongState => 3
  | .badParam => 4
  | .badTable => 5
  | .badSignature => 6
  | .unknownKind => 7
  | .tableAbsent => 8

/-- A claimant's code in the VALVE_BANK record (11.5.1). -/
def Claimant.code : Claimant → Nat
  | .clamp a => a.index + 1
  | .gearbox => 5

end Sys2Proof.Machine
end

