-- ==== Sys2Proof/Machine/Axis.lean ====
section
/-! DEFINITION. The axis channels (chapter 2): the follow computation, the deceleration, the following-error check
and tracking, first on plain numbers and then on the state. -/

namespace Sys2Proof.Machine

/-! ## On plain numbers -/

/-- R22: a ROTARY position reduced modulo 360,000 into 0 to 359,999; a LINEAR one as it stands. -/
def reducePos (rotary : Bool) (x : Int) : Int := if rotary then x % 360000 else x

/-- R27: a difference of a ROTARY axis wrapped into (−180,000, 180,000]. -/
def wrapDiff (rotary : Bool) (d : Int) : Int :=
  if rotary then (if d ≤ -180000 then d + 360000 else if 180000 < d then d - 360000 else d) else d

/-- R25: the target, saturated and then reduced for a ROTARY axis. -/
def targetOf (rotary : Bool) (base h k : Int) : Int := reducePos rotary (sat32 (base + h + k))

/-- R30: the envelope on a candidate `q`, according to where the previous output `p` lies. -/
def envelopeClamp (lo hi p q : Int) : Int :=
  if p < lo then min (max q p) hi
  else if hi < p then max (min q p) lo
  else clampInt lo hi q

/-- The outcome of an axis channel's computation at one expiry: output, step and the three indications. -/
structure Motion where
  out : Int
  step : Int
  envelopeInd : Bool
  rateInd : Bool
  heldClamped : Bool
deriving DecidableEq, Repr

/-- R26, R33: the output held, with HELD-CLAMPED where the axis would have moved. -/
def heldMotion (p : Int) (wouldMove : Bool) : Motion :=
  { out := p, step := 0, envelopeInd := false, rateInd := false, heldClamped := wouldMove }

/-- R29 to R31: a candidate through the reduction or the envelope, from the previous output `p`. -/
def settleMotion (a : AxisParams) (p q : Int) (rate : Bool) : Motion :=
  let out := if a.rotary then q % 360000 else envelopeClamp a.lo a.hi p q
  { out := out, step := wrapDiff a.rotary (out - p), envelopeInd := !a.rotary && decide (out ≠ q),
    rateInd := rate, heldClamped := false }

/-- R25 to R31: the follow computation from the target `t` and the previous output `p`. -/
def follow (a : AxisParams) (hold : Bool) (t p : Int) : Motion :=
  if hold then heldMotion p (decide (t ≠ p))
  else
    let d := wrapDiff a.rotary (t - p)
    let d' := clampInt (-(a.ceiling : Int)) a.ceiling d
    settleMotion a p (p + d') (decide (d' ≠ d))

/-- R32, R33: the deceleration from the previous output `p` and step `v`. -/
def decelerate (a : AxisParams) (hold : Bool) (p v : Int) : Motion :=
  let dv := towardZero v a.decel
  if hold then heldMotion p (decide (dv ≠ 0)) else settleMotion a p (p + dv) false

/-- R35: the distance between the setpoint sent and the actual position, the shorter way round for a ROTARY axis. -/
def followingDistance (rotary : Bool) (sent actual : Int) : Nat :=
  if rotary then
    let m := (sent - actual % 360000).natAbs
    min m (360000 - (m : Int)).natAbs
  else (sent - actual).natAbs

/-- R7: the command after `older` and `newer`, without overflow and saturated. -/
def extrapolate (older newer : Int) : Int := sat32 (newer + (newer - older))

/-! ## On the state -/

/-- The actual value of an axis from the latest return values, 0 before any (R36, R40). -/
def actualRaw (s : State) (a : Axis) : Int :=
  match s.link.returns with
  | some r => (r.axes.get a).actual
  | none => 0

/-- The actual position, reduced for a ROTARY axis. -/
def actualPos (s : State) (a : Axis) : Int := reducePos (isRotary s a) (actualRaw s a)

/-- The actual motor speed, 0 before any good return frame (R90). -/
def actualSpeed (s : State) : Int :=
  match s.link.returns with
  | some r => r.spindle.actual
  | none => 0

/-- R38 for one axis. -/
def clearedAxis (c : AxisChannel) : AxisChannel :=
  { c with offset := 0, frozen := none, step := 0, envelopeInd := false, rateInd := false, heldClamped := false }

/-- R38: entry into ACTIVATING, STANDBY, OFFLINE or HALTED. -/
def clearAxes (s : State) : State := { s with axes := s.axes.map clearedAxis }

/-- R26: whether the clamp state, as it stood when the previous drive frame left, holds the axis. -/
def clampHold (s : State) (a : Axis) : Bool :=
  match a.clamp with
  | none => false
  | some c => !clampAbsent s c && decide (s.seen.clampState.get c ≠ .unclamped)

/-- R24: the compensation K of an axis. -/
def compensationOf (s : State) (a : Axis) : Int :=
  match a with
  | .y => s.seen.droop
  | .w => -s.seen.applied
  | .x | .z | .b => 0

/-- R22: the command C, reduced for a ROTARY axis. -/
def commandOf (s : State) (a : Axis) : Int := reducePos (isRotary s a) (s.axes.get a).newer

/-- R23: the base, the frozen one while the axis counts as granted. -/
def baseOf (s : State) (a : Axis) : Int :=
  if s.seen.grant = .granted a then ((s.seen.frozen.get a).getD (commandOf s a)) else commandOf s a

/-- The target of an axis in RUNNING. -/
def axisTarget (s : State) (a : Axis) : Int :=
  targetOf (isRotary s a) (baseOf s a) (s.axes.get a).offset (compensationOf s a)

/-- R36: tracking. -/
def tracked (s : State) (a : Axis) : Motion :=
  { out := actualPos s a, step := 0, envelopeInd := false, rateInd := false, heldClamped := false }

/-- R21: what an axis channel computes at an expiry, by the resulting link state. -/
def axisMotion (s : State) (a : Axis) : Motion :=
  match axisParams s a with
  | none => tracked s a
  | some p =>
    match s.link.state with
    | .running => follow p (clampHold s a) (axisTarget s a) (s.axes.get a).out
    | .stopping | .linkLost => decelerate p (clampHold s a) (s.axes.get a).out (s.axes.get a).step
    | .offline | .standby | .activating | .halted => tracked s a

/-- A channel with the outcome of its computation. -/
def movedAxis (m : Motion) (c : AxisChannel) : AxisChannel :=
  { c with out := m.out, step := m.step, envelopeInd := m.envelopeInd, rateInd := m.rateInd,
           heldClamped := m.heldClamped }

/-- One axis channel's work at an expiry, with its flags (R26, R28, R30, R39). -/
def axisWork (a : Axis) (s : State) : State :=
  let m := axisMotion s a
  let onset := m.heldClamped && !(s.axes.get a).heldClamped
  let s := { s with axes := s.axes.set a (movedAxis m (s.axes.get a)) }
  raiseIf m.envelopeInd .envelopeHit (raiseIf m.rateInd .rateHit (raiseIf onset .moveOnClamped s))

/-- The work of the five channels; they compute independently of each other (2.3). It is one task of an expiry, so no
CLEAR_FLAGS falls between two channels' raises (DESIGN CHOICE, unsafe; log entry 37). -/
def axesWork (s : State) : State := allAxes.foldl (fun s a => axisWork a s) s

/-- R35: some axis's following error exceeds its limit. -/
def followingExcess (s : State) : Bool :=
  allAxes.any fun a =>
    match axisParams s a with
    | some p => decide (p.limit < followingDistance p.rotary (s.seen.out.get a) (actualRaw s a))
    | none => false

/-- A command entering a channel's history as its newest entry (R7). -/
def pushCommand (c : Int) (ch : AxisChannel) : AxisChannel := { ch with older := ch.newer, newer := c }

/-- R7: the taken commands, or the extrapolated ones at a miss, enter the histories. -/
def pushCommands (taken : Option CycleFrame) (s : State) : State :=
  { s with axes := PerAxis.of fun a =>
      let ch := s.axes.get a
      match taken with
      | some f => pushCommand (f.axes.get a).command ch
      | none => pushCommand (extrapolate ch.older ch.newer) ch }

/-- R37: an axis channel at the entry into RUNNING. -/
def startedAxis (s : State) (a : Axis) : AxisChannel :=
  { s.axes.get a with out := actualPos s a, step := 0, older := actualRaw s a, newer := actualRaw s a,
                      heldClamped := false }

/-- R37. -/
def startAxes (s : State) : State := { s with axes := PerAxis.of (startedAxis s) }

/-- R141: the absorb requests of a taken frame in RUNNING. -/
def absorbAxis (f : CycleFrame) (s : State) (a : Axis) : State :=
  if (f.axes.get a).absorb then
    if s.seen.grant = .granted a then raise .absorbIgnored s
    else { s with axes := s.axes.set a { s.axes.get a with offset := 0 } }
  else s

def absorbWork (f : CycleFrame) (s : State) : State := allAxes.foldl (absorbAxis f) s

end Sys2Proof.Machine
end

