-- ==== Sys2Proof/Machine/Growth.lean ====
section
/-! DEFINITION. The compensation unit (chapter 3): the droop value, growth windows, triggers and updates. -/

namespace Sys2Proof.Machine

/-! ## Droop (R44) -/

/-- The droop value of a compensation table at a W output. -/
def droopAt (bs : List Byte) (w : Int) : Int :=
  let span := compSpan bs
  let x := (clampInt 0 span (w - compZero bs)).toNat
  let u := x * 16
  let i := u / span
  let r := u - i * span
  if 16 ≤ i then droopPoint bs 16
  else droopPoint bs i + roundDiv ((droopPoint bs (i + 1) - droopPoint bs i) * r) span

/-- R44, R45: the droop value from the W output as the previous drive frame left, 0 without the table. -/
def droopWork (s : State) : State :=
  let d : Int := match activeBytes s .compensation with
    | some bs => droopAt bs s.seen.out.w
    | none => 0
  { s with comp := { s.comp with droop := d } }

/-! ## Triggers (R48) -/

/-- The number of updates that a trigger sets. -/
def updatesOf (restart : Nat) : Updates := if restart = 255 then .always else .count (restart + 1)

/-- R48: a SOFT or HARD trigger, without effect while the table is absent. -/
def growthTrigger (hard : Bool) (s : State) : State :=
  match activeBytes s .compensation with
  | some bs =>
    { s with comp := { s.comp with updates := updatesOf (compRestart bs), hardFirst := s.comp.hardFirst || hard } }
  | none => s

/-- An event trigger with an enable bit (R51, R52). -/
def enabledTrigger (bit : Nat) (s : State) : State :=
  match activeBytes s .compensation with
  | some bs => if compEnable bs bit then growthTrigger true s else s
  | none => s

/-! ## Windows and updates -/

/-- The window in progress discarded (R46). -/
def discardWindow (s : State) : State :=
  { s with comp := { s.comp with windowSum := 0, windowCount := 0, windowFaulted := false } }

/-- R47: the measurement of a window sum. -/
def measurementOf (bs : List Byte) (sum : Nat) : Int :=
  roundDiv (((sum : Int) - 16 * compRef bs) * compGain bs) 256

/-- R49: the threshold trigger that a disagreement makes due: none, SOFT (`false`) or HARD (`true`). -/
def thresholdDue (bs : List Byte) (disagreement : Nat) : Option Bool :=
  if compHard bs ≠ 255 ∧ compHard bs < disagreement then some true
  else if compSoft bs ≠ 255 ∧ compSoft bs < disagreement then some (compEnable bs 0)
  else none

/-- R54: A before the clamp. -/
def updatedGrowth (bs : List Byte) (hardFirst : Bool) (applied m : Int) : Int :=
  if hardFirst then m else applied + roundDiv ((m - applied) * compSmoothing bs) 16

/-- Whether updates are still to be made. -/
def Updates.pending : Updates → Bool
  | .count n => decide (0 < n)
  | .always => true

/-- One update less, unless ALWAYS. -/
def Updates.spend : Updates → Updates
  | .count n => .count (n - 1)
  | .always => .always

/-- R54, R55: the update at a valid window end, where one is pending. -/
def growthUpdate (bs : List Byte) (m : Int) (s : State) : State :=
  if s.comp.updates.pending then
    let raw := updatedGrowth bs s.comp.hardFirst s.comp.applied m
    let a := clampInt (-(compMax bs : Int)) (compMax bs) raw
    raise .compUpdated (raiseIf (decide (a ≠ raw)) .compLimit
      { s with comp := { s.comp with applied := a, hardFirst := false, updates := s.comp.updates.spend } })
  else s

/-- R47: the end of a window under the table `bs`. -/
def windowEnd (bs : List Byte) (s : State) : State :=
  let sum := s.comp.windowSum
  let faulted := s.comp.windowFaulted
  let s := discardWindow s
  if faulted then raise .sensorFault s
  else
    let m := measurementOf bs sum
    let s := { s with comp := { s.comp with lastSum := some sum, lastMeasurement := some m } }
    let s := match thresholdDue bs (m - s.comp.applied).natAbs with
      | some hard => growthTrigger hard s
      | none => s
    let s := if compEnable bs 3 then growthTrigger false s else s
    growthUpdate bs m s

/-- R154: a sample that cannot be a true reading. -/
def channelFault (reading : Nat) : Bool := decide (reading ≤ 15) || decide (4080 ≤ reading)

/-- A channel's reading and fault state; a reading of none counts as a faulted 0 (R153). -/
def readingOf (r : Option (BitVec 12)) : Nat × Bool :=
  match r with
  | some v => (v.toNat, channelFault v.toNat)
  | none => (0, true)

/-- R46: the growth sensor's sample of this expiry. -/
def windowWork (s : State) : State :=
  match activeBytes s .compensation with
  | none => s
  | some bs =>
    if s.link.state.atRest then s
    else
      let r := readingOf s.inputs.readings.an3
      let s := { s with comp := { s.comp with windowSum := s.comp.windowSum + r.1,
                                              windowCount := s.comp.windowCount + 1,
                                              windowFaulted := s.comp.windowFaulted || r.2 } }
      if 16 ≤ s.comp.windowCount then windowEnd bs s else s

/-- R52: the spindle-stopped timer's rise at an expiry. -/
def stoppedTimerWork (ms : Nat) (s : State) : State :=
  { s with comp := { s.comp with stoppedMs := min 255000 (s.comp.stoppedMs + ms) } }

/-- R52: a spindle stop. -/
def growthSpindleStop (s : State) : State := { s with comp := { s.comp with stoppedMs := 0 } }

/-- R52: a spindle start. -/
def growthSpindleStart (s : State) : State :=
  match activeBytes s .compensation with
  | some bs => if compStopMs bs ≤ s.comp.stoppedMs then enabledTrigger 2 s else s
  | none => s

/-- R61: the compensation unit at a passing COMMIT of its table, the new copy in place. The droop value is formed from
the new points from the same moment on. -/
def compensationCommitted (s : State) : State :=
  let s := discardWindow s
  droopWork (growthTrigger true { s with comp := { s.comp with applied := 0, lastMeasurement := none } })

end Sys2Proof.Machine
end

