-- ==== Sys2Proof/Machine/Pendant.lean ====
section
/-! DEFINITION. The pendant unit (chapter 7): handwheel, grant, transfer, knobs. -/

namespace Sys2Proof.Machine

/-! ## The end of a grant or a wait -/

/-- R139: a grant ends; the grant state becomes FREE. Without a grant nothing changes. -/
def endGrant (s : State) : State :=
  match s.pendant.grant with
  | .granted a =>
    raise .pendantReleased
      { s with pendant := { s.pendant with grant := .free, distance := 0, commandMark := false },
               axes := s.axes.set a { s.axes.get a with frozen := none } }
  | .free | .waiting _ => s

/-- R139, R79: a clamp announces its entry into FAULT, ending a grant or a wait on its axis. -/
def pendantClampFault (a : ClampAxis) (s : State) : State :=
  if s.pendant.grant = .granted a.axis then endGrant s
  else if s.pendant.grant = .waiting a.axis then { s with pendant := { s.pendant with grant := .free } }
  else s

/-- R81, R138: the clamp condition of a wait's start: the axis's clamp is in FAULT at this moment. -/
def clampFaulted (s : State) (a : Axis) : Bool :=
  match a.clamp with
  | some c => !clampAbsent s c && decide ((s.clamps.get c).state = .fault)
  | none => false

/-- R136: entry into WAITING, which ends at once on a faulted clamp (R139). -/
def enterWaiting (a : Axis) (s : State) : State :=
  { s with pendant := { s.pendant with grant := if clampFaulted s a then .free else .waiting a,
                                       permitMark := false, stillCount := 0 } }

/-- R136: a change of the selector in the unit's view. Outside WAITING the permit mark and the still count keep what the
last wait left in them, and the PENDANT record shows it (DESIGN CHOICE, unsafe; log entry 36). -/
def selectorChange (sel : Selector) (s : State) : State :=
  let s := endGrant s
  let s := { s with pendant := { s.pendant with selector := sel } }
  match sel with
  | .axis a => enterWaiting a s
  | .off => { s with pendant := { s.pendant with grant := .free } }

/-- R134: a change of the enable in the unit's view. -/
def enableChange (e : Enable) (s : State) : State :=
  { s with pendant := { s.pendant with
      enable := e
      distance := if s.pendant.enable = .held ∧ e ≠ .held then 0 else s.pendant.distance } }

/-! ## The handwheel (R133, R134) -/

/-- The place of a phase pair in the forward order. -/
def phaseIndex (a b : Bool) : Nat :=
  match a, b with
  | false, false => 0
  | true, false => 1
  | true, true => 2
  | false, true => 3

/-- The edges per detent and direction in force; 4 and NORMAL without the table. -/
def wheelEdges (s : State) : Nat :=
  match activeBytes s .pendant with
  | some bs => edgesPerDetent bs
  | none => 4

def wheelInverted (s : State) : Bool :=
  match activeBytes s .pendant with
  | some bs => wheelReversed bs
  | none => false

/-- R134: a detent's distance joins the pending distance within ± the limit. -/
def addDetent (limit : Nat) (d : Int) (s : State) : State :=
  let sum := s.pendant.distance + d
  let kept := clampInt (-(limit : Int)) limit sum
  raiseIf (decide (kept ≠ sum)) .handwheelDiscard { s with pendant := { s.pendant with distance := kept } }

/-- R133: a detent with its sign; it counts only while an axis is GRANTED and the enable is HELD. -/
def countDetent (sign : Int) (s : State) : State :=
  match activeBytes s .pendant, s.pendant.grant with
  | some bs, .granted _ =>
    if s.pendant.enable = .held then
      addDetent (pendingLimit bs) (sign * incrementDistance bs s.pendant.increment) s
    else s
  | _, _ => s

/-- R133: one edge into the accumulator. -/
def countEdge (e : Int) (s : State) : State :=
  let acc := s.pendant.edges + e
  if wheelEdges s ≤ acc.natAbs then
    countDetent (if 0 ≤ acc then 1 else -1) { s with pendant := { s.pendant with edges := 0 } }
  else { s with pendant := { s.pendant with edges := acc } }

/-- R133: a phase pair seen. -/
def phasesSeen (a b : Bool) (s : State) : State :=
  let d := (phaseIndex a b + 4 - phaseIndex s.pendant.phaseA s.pendant.phaseB) % 4
  let inverted := wheelInverted s
  let s := { s with pendant := { s.pendant with phaseA := a, phaseB := b } }
  match d with
  | 1 => countEdge (if inverted then -1 else 1) s
  | 3 => countEdge (if inverted then 1 else -1) s
  | 2 => raise .phaseError s
  | _ => s

/-! ## Wait, grant and transfer at an expiry -/

/-- R137: the waiting axis's permit mark from a taken frame; a miss leaves it. -/
def permitUpdate (taken : Option CycleFrame) (a : Axis) (s : State) : State :=
  match taken with
  | some f => { s with pendant := { s.pendant with permitMark := (f.axes.get a).permit } }
  | none => s

/-- R137: the still count in RUNNING: this expiry's command against the history entry before it. -/
def stillUpdate (taken : Option CycleFrame) (a : Axis) (s : State) : State :=
  let ch := s.axes.get a
  let n := if ch.newer = ch.older then (if taken.isSome then min 255 (s.pendant.stillCount + 1) else s.pendant.stillCount)
           else 0
  { s with pendant := { s.pendant with stillCount := n } }

/-- R81, R138: the clamp condition of a grant, as the previous drive frame left it. -/
def clampFree (s : State) (a : Axis) : Bool := !clampHold s a

/-- R138: whether the waiting axis is granted at this expiry. -/
def grantDue (permitNow : Bool) (a : Axis) (s : State) : Bool :=
  decide (s.seen.grant = .waiting a) && s.seen.permitMark && permitNow && clampFree s a &&
    decide (stillFrames s a ≤ s.pendant.stillCount)

/-- R138: the grant. The permit mark and the still count are kept (log entry 36). -/
def grantAxis (a : Axis) (s : State) : State :=
  raise .pendantGranted
    { s with pendant := { s.pendant with grant := .granted a, distance := 0, commandMark := false },
             axes := s.axes.set a { s.axes.get a with frozen := some (commandOf s a) } }

/-- R135: the move from the pending distance into the granted axis's offset. -/
def transferMove (bs : List Byte) (p : AxisParams) (a : Axis) (s : State) : State :=
  let m : Nat := min (pendantStep bs) p.ceiling
  let move := clampInt (-(m : Int)) m s.pendant.distance
  let sum := (s.axes.get a).offset + move
  let kept := clampInt (-(offsetLimit bs : Int)) (offsetLimit bs) sum
  let changed := decide (move ≠ 0)
  raiseIf (changed && decide (kept ≠ sum)) .handwheelDiscard
    { s with pendant := { s.pendant with distance := s.pendant.distance - move },
             axes := s.axes.set a { s.axes.get a with offset := if changed then kept else (s.axes.get a).offset } }

/-- R135: the transfer of an expiry in RUNNING, where an axis is GRANTED. -/
def transfer (s : State) : State :=
  match s.pendant.grant with
  | .granted a =>
    match activeBytes s .pendant, axisParams s a with
    | some bs, some p => transferMove bs p a s
    | _, _ => s
  | .free | .waiting _ => s

/-- The PENDANT-PERMIT in force at an expiry: the taken frame's, or the held one at a miss (R7). -/
def permitOf (held : Option CycleFrame) (a : Axis) : Bool :=
  match held with
  | some f => (f.axes.get a).permit
  | none => false

/-- R139: a taken frame in RUNNING without the granted axis's permit ends the grant. -/
def permitWithdrawn (taken : Option CycleFrame) (s : State) : State :=
  match taken, s.pendant.grant with
  | some f, .granted a => if (f.axes.get a).permit then s else endGrant s
  | _, _ => s

/-- R137, R138: the work on a wait at an expiry in RUNNING. -/
def waitWork (taken held : Option CycleFrame) (s : State) : State :=
  match s.pendant.grant with
  | .waiting a =>
    let s := stillUpdate taken a (permitUpdate taken a s)
    if grantDue (permitOf held a) a s then grantAxis a s else s
  | .free | .granted _ => s

/-- The pendant unit's own work at an expiry (R135, R137 to R139). `taken` is the frame whose axis records are
presented, `held` that frame or, at a miss, the last taken one. -/
def handwheelWork (taken held : Option CycleFrame) (s : State) : State :=
  if s.link.state = .running then transfer (waitWork taken held (permitWithdrawn taken s))
  else
    match s.pendant.grant with
    | .waiting a => permitUpdate taken a s
    | .free | .granted _ => s

/-- R140: a command that differs from the frozen base of an axis that counts as granted. The mark is of the grant
that the reading of R23 sees, so a grant ended at this very expiry raises the flag no second time (log entry 22). -/
def strayWork (s : State) : State :=
  match s.seen.grant with
  | .granted a =>
    if s.link.state = .running ∧ s.seen.frozen.get a ≠ some (commandOf s a) ∧ s.seen.commandMark = false ∧
        s.pendant.commandMark = false then
      raise .commandWhileGranted
        { s with pendant := { s.pendant with commandMark := decide (s.pendant.grant = .granted a) } }
    else s
  | .free | .waiting _ => s

/-! ## Knobs (R142, R143) -/

/-- R142: the band of a reading. -/
def bandOf (reading : BitVec 12) : Fin 16 := ⟨reading.toNat * 16 / 4096, by have := reading.isLt; omega⟩

/-- R142, R143: a knob record after a sample; the band where one is accepted at it. With the candidate gone the count is 0
there too, as the other ends of a candidate say (DEDUCED, unsafe; log entry 39). -/
def knobSample (reading : Option (BitVec 12)) (k : Knob) : Knob × Option (Fin 16) :=
  match reading with
  | none => ({ k with candidate := none, count := 0 }, none)
  | some v =>
    let band := bandOf v
    if channelFault v.toNat then ({ k with candidate := none, count := 0 }, none)
    else if k.accepted = some band then ({ k with candidate := none, count := 0 }, none)
    else if k.candidate = some band then
      if 3 ≤ k.count + 1 then ({ accepted := some band, candidate := none, count := 0 }, some band)
      else ({ k with count := k.count + 1 }, none)
    else ({ k with candidate := some band, count := 1 }, none)

/-- The override after a knob's sample: the accepted band's entry, where a band is accepted and the table present. -/
def overrideAfter (s : State) (entry : List Byte → Fin 16 → Nat) (band : Option (Fin 16)) (old : Nat) : Nat :=
  match activeBytes s .pendant, band with
  | some bs, some k => entry bs k
  | _, _ => old

/-- R142, R143: both knobs at an expiry. -/
def knobsWork (s : State) : State :=
  let f := knobSample s.inputs.readings.an4 s.pendant.feedKnob
  let sp := knobSample s.inputs.readings.an5 s.pendant.spindleKnob
  let bad := (readingOf s.inputs.readings.an4).2 || (readingOf s.inputs.readings.an5).2
  raiseIf bad .knobFault
    { s with pendant := { s.pendant with
        feedKnob := f.1, spindleKnob := sp.1
        feedOverride := overrideAfter s feedBand f.2 s.pendant.feedOverride
        spindleOverride := overrideAfter s spindleBand sp.2 s.pendant.spindleOverride } }

/-- R146: the pendant unit at a passing COMMIT of its table, the new copy in place. -/
def pendantCommitted (s : State) : State :=
  { s with pendant := { s.pendant with
      edges := 0
      feedOverride := overrideAfter s feedBand s.pendant.feedKnob.accepted s.pendant.feedOverride
      spindleOverride := overrideAfter s spindleBand s.pendant.spindleKnob.accepted s.pendant.spindleOverride } }

end Sys2Proof.Machine
end

