-- ==== Sys2Proof/Machine/Coolant.lean ====
section
/-! DEFINITION. The coolant sequencer (chapter 6): requested and driven values, programs and their queue, triggers,
lubrication and the tank watch. -/

namespace Sys2Proof.Machine

/-! ## Requested and driven values -/

/-- 6.1: the sequencer works in every link state but OFFLINE and HALTED. -/
def coolantWorks (s : State) : Bool := !s.link.state.atRest

/-- R110: the TSC pump is withheld. -/
def withholding (s : State) : Bool := decide (s.gear.state ≠ .engaged) || decide (s.coolant.tank ≠ .inactive)

/-- R93: the drain force is ON in DRAINING, VALVE_WAIT and SHIFTING. -/
def drainForce (s : State) : Bool :=
  match s.gear.state with
  | .draining | .valveWait | .shifting => true
  | .engaged | .unknown | .stoppingSpindle | .fault => false

/-- R110: the driven values. -/
def drivenValues (s : State) : PerOutput Bool :=
  let r := s.coolant.requested
  if coolantWorks s then
    { r with tscPump := r.tscPump && !withholding s, tscDrain := r.tscDrain || drainForce s }
  else outputsOff

/-- R111: the condition withheld demand as it stands now. -/
def demandNow (s : State) : Bool := s.coolant.requested.tscPump && withholding s

/-- A trigger source announced to the sequencer (R118). -/
def announce (src : TriggerSource) (s : State) : State :=
  { s with coolant := { s.coolant with announced := s.coolant.announced ++ [src] } }

/-- R111: withheld demand brought up to date, with the flag and the trigger at its onset. -/
def settleDemand (s : State) : State :=
  let d := demandNow s
  let onset := d && !s.coolant.withheld
  let s := { s with coolant := { s.coolant with withheld := d } }
  if onset then announce .tscWithheld (raise .tscWithheld s) else s

/-! ## Programs and steps -/

/-- A pattern entry on a requested value: 1 is ON, 2 is OFF, else KEEP. -/
def patternValue (entry : Nat) (old : Bool) : Bool :=
  match entry with
  | 1 => true
  | 2 => false
  | _ => old

/-- R113: the requested values after the pattern of step `i` of program `p`. -/
def patterned (bs : List Byte) (p i : Nat) (r : PerOutput Bool) : PerOutput Bool :=
  { flood := patternValue (patternEntry bs p i 0) r.flood
    tscPump := patternValue (patternEntry bs p i 1) r.tscPump
    tscDrain := patternValue (patternEntry bs p i 2) r.tscDrain
    mist := patternValue (patternEntry bs p i 3) r.mist
    conveyor := patternValue (patternEntry bs p i 4) r.conveyor
    lube := patternValue (patternEntry bs p i 5) r.lube }

/-- The step count of a program in the active table; 0 (empty) while the table is absent (R118). -/
def programSteps (s : State) (p : Fin 8) : Nat :=
  match activeBytes s .programs with
  | some bs => min 6 (stepCount bs p)
  | none => 0

/-- R114: whether a wait's condition holds, on the values as the previous drive frame left them. -/
def waitHolds (s : State) (w : Wait) : Bool :=
  match w with
  | .none => true
  | .atSpeed => s.seen.spindleAtSpeed
  | .stopped => s.seen.spindleStopped
  | .pressureLow =>
    match activeBytes s .gear with
    | some bs => !s.seen.tsc.faulted && decide (s.seen.tsc.value < drainThreshold bs)
    | none => false
  | .pressureHigh =>
    match activeBytes s .triggers with
    | some bs => s.seen.tsc.faulted || decide (buildThreshold bs ≤ s.seen.tsc.value)
    | none => s.seen.tsc.faulted

/-- What a step of the active programs table does on entry: the requested values it leaves, and the phase it enters,
or none where it takes no time (R113, R114). -/
def stepEntry (s : State) (bs : List Byte) (p i : Nat) : PerOutput Bool × Option Phase :=
  let r := patterned bs p i s.coolant.requested
  let pause := if stepPause bs p i = 0 then none else some (Phase.pause (stepPause bs p i))
  (r, if waitHolds s (stepWait bs p i) then pause else some (.wait (stepCeilingMs bs p i)))

/-- R113, R116: program `p` from step `i` on, through every step that takes no time, and on through the queue where
it ends. `fuel` bounds the steps; `runFuel` is enough. -/
def advance : Nat → Fin 8 → Nat → State → State
  | 0, _, _, s => s
  | fuel + 1, p, i, s =>
    match activeBytes s .programs with
    | none => s
    | some bs =>
      if i ≤ programSteps s p then
        let e := stepEntry s bs p i
        let s := { s with coolant := { s.coolant with requested := e.1 } }
        match e.2 with
        | some ph => { s with coolant := { s.coolant with running := some ⟨p, i, ph⟩ } }
        | none => advance fuel p (i + 1) s
      else
        let s := raise .coolantDone { s with coolant := { s.coolant with running := none } }
        match s.coolant.queue with
        | [] => s
        | q :: rest => advance fuel q 1 { s with coolant := { s.coolant with queue := rest } }

/-- Enough for the rest of a program of at most six steps and every program in the queue. -/
def runFuel (s : State) : Nat := 8 * (s.coolant.queue.length + 1)

/-- R113: a program starts. -/
def startProgram (p : Fin 8) (s : State) : State := advance (runFuel s) p 1 s

/-- R116, R117: with no program running, the oldest of the queue is removed and started. -/
def startNext (s : State) : State :=
  match s.coolant.running, s.coolant.queue with
  | none, q :: rest => startProgram q { s with coolant := { s.coolant with queue := rest } }
  | _, _ => s

/-- The running step is complete: on to the next (R113). -/
def completeStep (r : Run) (s : State) : State :=
  advance (runFuel s) r.program (r.step + 1) { s with coolant := { s.coolant with running := none } }

/-- R114: the WAIT phase ends; the PAUSE phase follows where the pause is not 0. -/
def waitEnds (r : Run) (s : State) : State :=
  match activeBytes s .programs with
  | none => s
  | some bs =>
    if stepPause bs r.program r.step = 0 then completeStep r s
    else { s with coolant := { s.coolant with
             running := some { r with phase := .pause (stepPause bs r.program r.step) } } }

/-- R114: the test of a running WAIT phase at an expiry. -/
def coolantWaitWork (s : State) : State :=
  match s.coolant.running, activeBytes s .programs with
  | some ⟨p, i, .wait c⟩, some bs => if waitHolds s (stepWait bs p i) then waitEnds ⟨p, i, .wait c⟩ s else s
  | _, _ => s

/-- R115: the tick that brings the pause count to 0. -/
def pauseEnds (s : State) : State :=
  match s.coolant.running with
  | some ⟨p, i, .pause c⟩ => completeStep ⟨p, i, .pause c⟩ s
  | _ => s

/-- R117: the wait ceiling expires. -/
def waitCeilingEnds (s : State) : State :=
  match s.coolant.running with
  | some ⟨_, _, .wait _⟩ => startNext (raise .coolantFault { s with coolant := { s.coolant with running := none } })
  | _ => s

/-! ## Triggers (R118, R120) -/

/-- The outcome of a trigger that names a program (R120, R122). -/
inductive TriggerOutcome | started | queued | merged | dropped | empty
deriving DecidableEq, Repr

def TriggerOutcome.code : TriggerOutcome → Nat
  | .started => 0
  | .queued => 1
  | .merged => 2
  | .dropped => 3
  | .empty => 4

/-- R120: which outcome a trigger naming `p` has. -/
def triggerOutcome (p : Fin 8) (s : State) : TriggerOutcome :=
  if programSteps s p = 0 then .empty
  else
    match s.coolant.running with
    | none => .started
    | some r =>
      if r.program = p ∨ p ∈ s.coolant.queue then .merged
      else if 4 ≤ s.coolant.queue.length then .dropped
      else .queued

/-- R120: a trigger naming program `p` is handled. -/
def triggerProgram (p : Fin 8) (s : State) : State :=
  match triggerOutcome p s with
  | .empty => s
  | .started => startProgram p s
  | .merged => raise .triggerMerged s
  | .dropped => raise .triggerDropped s
  | .queued => { s with coolant := { s.coolant with queue := s.coolant.queue ++ [p] } }

/-- R118: a source's trigger: ignored at rest, without a table, or where its entry is NONE. -/
def triggerSource (src : TriggerSource) (s : State) : State :=
  if coolantWorks s then
    match activeBytes s .triggers with
    | some bs =>
      match triggerEntry bs src with
      | some p => triggerProgram p s
      | none => s
    | none => s
  else s

/-- The sources of the four request bits. -/
def isRequest : TriggerSource → Bool
  | .req0 | .req1 | .req2 | .req3 => true
  | .spindleStart | .spindleStop | .gearBegin | .gearEnd | .pb0 | .pb1 | .pb2 | .pb3 | .lubeDue | .tankWarn
  | .linkStop | .tscWithheld => false

/-- R120: which of the sources that fall together is taken next: the given order's first, else the one announced first
(log entry 1). A request stands for the first request announced, so REQ0 comes first and REQ3 last (R119). -/
def nextTrigger (order announced : List TriggerSource) : Option TriggerSource :=
  match order.find? (· ∈ announced) with
  | some src => if isRequest src then announced.find? isRequest else some src
  | none => announced.head?

/-- An announced source is taken in its turn (R120), and withheld demand judged after it (R111). -/
def takeTrigger (src : TriggerSource) (s : State) : State :=
  settleDemand (triggerSource src { s with coolant := { s.coolant with announced := s.coolant.announced.erase src } })

/-- Every announced source is taken, each in its turn. Taking one may announce TSC_WITHHELD. -/
def drainTriggers (order : List TriggerSource) : Nat → State → State
  | 0, s => { s with coolant := { s.coolant with announced := [] } }
  | fuel + 1, s =>
    match nextTrigger order s.coolant.announced with
    | some src => drainTriggers order fuel (takeTrigger src s)
    | none => s

/-- The end of a piece of work at the sequencer, which is the moment that its sources announce (R118): withheld demand
is judged (R111) and every announced trigger taken (R120). A trigger makes withheld demand TRUE at most once more before
it stays TRUE, so twice the announcements and a few are enough. -/
def settleTriggers (order : List TriggerSource) (s : State) : State :=
  let s := settleDemand s
  drainTriggers order (2 * s.coolant.announced.length + 4) s

/-! ## Stop, rest, lubrication -/

/-- R112: the running program aborted and the queue emptied; requested values kept. -/
def abortPrograms (s : State) : State :=
  { s with coolant := { s.coolant with running := none, queue := [] } }

/-- R121: COOLANT-STOP. -/
def stopCoolant (s : State) : State :=
  let s := abortPrograms s
  { s with coolant := { s.coolant with requested := outputsOff, withheld := false } }

/-- R124: the lube interval timer held or running on. -/
def LubeTimer.hold : LubeTimer → LubeTimer
  | .running n => .held n
  | .stopped => .stopped
  | .held n => .held n

def LubeTimer.resume : LubeTimer → LubeTimer
  | .held n => .running n
  | .stopped => .stopped
  | .running n => .running n

/-- R112: entry into HALTED or OFFLINE. -/
def coolantRest (s : State) : State :=
  let s := stopCoolant s
  { s with coolant := { s.coolant with lube := s.coolant.lube.hold, announced := [] } }

/-- R124: the sequencer works again. -/
def coolantResume (s : State) : State :=
  { s with coolant := { s.coolant with lube := s.coolant.lube.resume } }

/-- R124: the interval timer started with the full interval, stopped where that is 0 or the table absent, held
while the sequencer is at rest. -/
def startLube (s : State) : State :=
  let t := match activeBytes s .triggers with
    | some bs =>
      if lubeInterval bs = 0 then LubeTimer.stopped
      else if coolantWorks s then .running (lubeInterval bs) else .held (lubeInterval bs)
    | none => .stopped
  { s with coolant := { s.coolant with lube := t } }

/-- R123, R124: LUBE_DUE is taken and the interval starts again. -/
def lubeDue (s : State) : State := announce .lubeDue (startLube s)

/-- R124: the interval timer expires. -/
def lubeIntervalEnds (s : State) : State :=
  match s.coolant.lube with
  | .running _ => lubeDue s
  | .stopped | .held _ => s

/-- The travel of X, Y, Z and W in the previous drive frame (R123). -/
def seenTravel (s : State) : Nat :=
  s.seen.step.x.natAbs + s.seen.step.y.natAbs + s.seen.step.z.natAbs + s.seen.step.w.natAbs

/-- R123: the travel accumulator at an expiry. -/
def travelWork (s : State) : State :=
  match activeBytes s .triggers with
  | none => s
  | some bs =>
    let d := lubeDistance bs
    if d = 0 ∨ s.link.state.moving = false then s
    else
      let t := min (2 * d) (s.coolant.travel + seenTravel s)
      if d ≤ t then lubeDue { s with coolant := { s.coolant with travel := t - d } }
      else { s with coolant := { s.coolant with travel := t } }

/-! ## The tank (R125) -/

/-- R125: the warning after a sample. -/
def tankAfter (bs : List Byte) (temp : Int) (faulted : Bool) (w : TankWarning) : TankWarning :=
  if faulted ∨ tankThreshold bs ≤ temp then .active
  else if temp ≤ tankThreshold bs - tankHysteresis bs then .inactive
  else match w with
    | .active => .active
    | .inactive | .unset => .inactive

/-- R125: the tank watch at an expiry. -/
def tankWork (s : State) : State :=
  match activeBytes s .triggers with
  | none => s
  | some bs =>
    let w := tankAfter bs (s.inputs.tankTemp.getD 0) (readingOf s.inputs.readings.an2).2 s.coolant.tank
    let onset := decide (w = .active) && decide (s.coolant.tank ≠ .active)
    let s := { s with coolant := { s.coolant with tank := w } }
    if onset then announce .tankWarn (raise .tankWarn s) else s

/-! ## The frame's coolant fields (R119) -/

/-- R119: a rising COOLANT-STOP of a presented frame. -/
def stopBitWork (f : CycleFrame) (s : State) : State :=
  if f.coolant.stop && !s.coolant.baseline.stop && coolantWorks s then stopCoolant s else s

/-- `announce` where a bit is rising. -/
def announceIf (c : Bool) (src : TriggerSource) (s : State) : State := if c then announce src s else s

/-- R119: the rising request bits, REQ0 first, and the baseline. -/
def requestsWork (f : CycleFrame) (s : State) : State :=
  let b := s.coolant.baseline
  let s := announceIf (f.coolant.req0 && !b.req0) .req0 s
  let s := announceIf (f.coolant.req1 && !b.req1) .req1 s
  let s := announceIf (f.coolant.req2 && !b.req2) .req2 s
  let s := announceIf (f.coolant.req3 && !b.req3) .req3 s
  { s with coolant := { s.coolant with baseline := f.coolant } }

/-! ## Commits -/

/-- R128: the coolant programs table. -/
def programsCommitted (s : State) : State := abortPrograms s

/-- R130: the triggers and auxiliaries table, the new copy in place. -/
def triggersCommitted (s : State) : State :=
  let s := startLube s
  match activeBytes s .triggers with
  | some bs => { s with coolant := { s.coolant with travel := min (2 * lubeDistance bs) s.coolant.travel } }
  | none => s

end Sys2Proof.Machine
end

