-- ==== Sys2Proof/Machine/Gear.lean ====
section
/-! DEFINITION. The gearbox sequencer and spindle channel (chapter 5), less what needs the valve bank (Bank.lean). -/

namespace Sys2Proof.Machine

/-! ## Fork reading (R91) -/

/-- A fork from its two switches. -/
def forkSide (left right : Bool) : ForkSide :=
  match left, right with
  | true, false => .left
  | false, true => .right
  | _, _ => .middle

/-- The reading of both forks. -/
def forkReading (f : PerFork Bool) : ForkSide × ForkSide := (forkSide f.aLeft f.aRight, forkSide f.bLeft f.bRight)

/-- Whether a reading shows a range's pattern. -/
def showsPattern (bs : List Byte) (f : PerFork Bool) (r : Range) : Bool :=
  let x := forkReading f
  decide (x.1 ≠ .middle) && decide (x.2 ≠ .middle) && decide (forkPattern bs r = x)

/-- The range whose pattern the block's fork reading shows; none while the gear table is absent. -/
def shownRange (s : State) : Option Range :=
  match activeBytes s .gear with
  | some bs => allRanges.find? (showsPattern bs s.gear.forks)
  | none => none

/-- Whether the fork reading shows a given range. -/
def showsRange (s : State) (r : Option Range) : Bool :=
  match r with
  | some r => decide (shownRange s = some r)
  | none => false

/-! ## Gear state -/

/-- Entry into ENGAGED (R88, R92). -/
def enterEngaged (r : Range) (s : State) : State :=
  { s with gear := { s.gear with state := .engaged, engaged := some r, interlock := true } }

/-- Entry into UNKNOWN, whose spindle output is 0 (R87, R92). -/
def enterUnknown (s : State) : State :=
  { s with gear := { s.gear with state := .unknown, engaged := none, output := 0 } }

/-- R92: the gear state re-evaluated from the switches. -/
def reevaluate (s : State) : State :=
  match shownRange s with
  | some r => enterEngaged r s
  | none => enterUnknown s

/-- R107: re-evaluated, a state already held being kept with its interlock. -/
def reevaluateKeeping (s : State) : State :=
  match shownRange s with
  | some r => if s.gear.state = .engaged ∧ s.gear.engaged = some r then s else enterEngaged r s
  | none => enterUnknown s

/-- The timers of a change stopped. The wiggle phase and the settle count stay as they are: once SHIFTING has ended, by
completion, FAULT, halt or COMMIT, they keep their last values until the next grant (DESIGN CHOICE, unsafe; log entry
40). -/
def stopGearTimers (g : Gearbox) : Gearbox := { g with drainCeiling := none, shiftCeiling := none, wiggle := none }

/-- R95: a change toward `r` begins. -/
def beginChange (r : Range) (s : State) : State :=
  announce .gearBegin { s with gear := { s.gear with target := some r, state := .stoppingSpindle } }

/-- R94, R96: a new request in RUNNING. -/
def actOnRequest (r : Range) (s : State) : State :=
  match s.gear.state with
  | .engaged => if s.gear.engaged = some r then raise .gearDone s else beginChange r s
  | .unknown => beginChange r s
  | .stoppingSpindle | .draining | .valveWait => { s with gear := { s.gear with target := some r } }
  | .shifting =>
    { s with gear := { s.gear with next := if s.gear.target = some r then none else some r } }
  | .fault => raise .gearRequestRefused s

/-- R94: the range request of a presented taken frame. -/
def rangeRequestWork (f : CycleFrame) (s : State) : State :=
  let req := rangeOfNat f.range.toNat
  let isNew := decide (req ≠ s.gear.lastRequest)
  let s := { s with gear := { s.gear with lastRequest := req } }
  match req with
  | some r => if isNew ∧ s.link.state = .running then actOnRequest r s else s
  | none => s

/-- R92, R101: the block's copy of the fork switches changes to `f`. A change that ends ENGAGED leaves its mark, since
another range is entered at the next expiry's re-evaluation. -/
def forksChanged (f : PerFork Bool) (s : State) : State :=
  let before := showsRange s
  let s := { s with gear := { s.gear with forks := f } }
  match s.gear.state with
  | .engaged =>
    if before s.gear.engaged && !showsRange s s.gear.engaged then
      raise .gearFault (enterUnknown { s with gear := { s.gear with forkLoss := true } })
    else s
  | .stoppingSpindle | .draining | .valveWait =>
    if before s.gear.engaged && !showsRange s s.gear.engaged then
      raise .gearFault { s with gear := { s.gear with engaged := none } }
    else s
  | .shifting =>
    if before s.gear.target && !showsRange s s.gear.target then { s with gear := { s.gear with settle := 0 } } else s
  | .unknown | .fault => s

/-! ## Spindle speed (R85 to R87) -/

/-- R85: the effective spindle speed from command, override and the range's limits. -/
def effectiveSpeed (c : Int) (override min max : Nat) : Int :=
  let e := roundDiv (clampInt (-2000) 2000 c * override) 100
  if e = 0 then 0
  else if 0 < e then clampInt min max e
  else -(clampInt min max (-e))

/-- R86: the motor speed of an effective spindle speed. -/
def motorSpeed (e : Int) (ratio ceiling : Nat) : Int := clampInt (-(ceiling : Int)) ceiling (roundDiv (e * ratio) 1000)

/-- R85, R86: the spindle output in ENGAGED(r). -/
def engagedOutput (bs : List Byte) (r : Range) (c : Int) (override : Nat) : Int :=
  motorSpeed (effectiveSpeed c override (gearMin bs r) (gearMax bs r)) (gearRatio bs r) (gearCeiling bs r)

/-- R100: the wiggle's output toward a range. -/
def wiggleOutput (bs : List Byte) (r : Range) (positive : Bool) : Int :=
  if positive then (wiggleSpeed bs r : Int) else -(wiggleSpeed bs r : Int)

/-- R87, R100: the output of SHIFTING by the link state. -/
def shiftingOutput (s : State) : Int :=
  if s.link.state = .running then
    match activeBytes s .gear, s.gear.target with
    | some bs, some r => wiggleOutput bs r s.gear.phasePositive
    | _, _ => 0
  else 0

/-- R87: the previous output moved toward 0 by the spindle decel. In STOPPING and LINK_LOST this holds in ENGAGED too,
where R103 has re-evaluated into a range with a lower motor ceiling: the ramp goes on from the previous output and is not
clamped to that ceiling (DEDUCED, unsafe; log entry 35). -/
def rampedOutput (s : State) : Int :=
  match activeBytes s .gear with
  | some bs => towardZero s.gear.output (spindleDecel bs)
  | none => 0

/-- The spindle command in force: the taken frame's, or the held one (R85, R7). -/
def spindleCommand (held : Option CycleFrame) : Int :=
  match held with
  | some f => f.spindle
  | none => 0

/-- R87: the spindle output of an expiry. -/
def outputAt (held : Option CycleFrame) (s : State) : Int :=
  match s.link.state, s.gear.state with
  | .running, .engaged =>
    if s.gear.interlock then 0
    else match activeBytes s .gear, s.gear.engaged with
      | some bs, some r => engagedOutput bs r (spindleCommand held) s.seen.spindleOverride
      | _, _ => 0
  | .running, .stoppingSpindle => rampedOutput s
  | .running, .shifting => shiftingOutput s
  | .stopping, .engaged => rampedOutput s
  | .linkLost, .engaged => rampedOutput s
  | _, _ => 0

/-- R90: spindle stopped, from the actual motor speed. -/
def spindleStopped (s : State) : Bool :=
  match activeBytes s .gear with
  | some bs => decide ((actualSpeed s).natAbs ≤ zeroBand bs)
  | none => decide (actualSpeed s = 0)

/-- R89: the run value. -/
def runValueOf (s : State) : Int :=
  match s.gear.state with
  | .engaged | .stoppingSpindle => s.gear.output
  | .unknown | .draining | .valveWait | .shifting | .fault => 0

/-- R90: spindle at speed. -/
def spindleAtSpeed (s : State) : Bool :=
  match activeBytes s .gear with
  | some bs => decide (runValueOf s ≠ 0) && decide ((actualSpeed s - runValueOf s).natAbs ≤ atSpeedBand bs)
  | none => false

/-- R97: STOPPING_SPINDLE ends where the output formed is 0 and the spindle stopped. -/
def enterDraining (s : State) : State :=
  match activeBytes s .gear with
  | some bs =>
    if s.gear.state = .stoppingSpindle ∧ s.gear.output = 0 ∧ spindleStopped s = true then
      { s with gear := { s.gear with state := .draining, drainCeiling := some (drainCeilingMs bs) } }
    else s
  | none => s

/-- R87, R97: the spindle output of an expiry and the end of STOPPING_SPINDLE. -/
def spindleOutputWork (held : Option CycleFrame) (s : State) : State :=
  enterDraining { s with gear := { s.gear with output := outputAt held s } }

/-- R88: an expiry in RUNNING whose taken frame commands 0 clears the interlock. -/
def interlockWork (taken : Option CycleFrame) (s : State) : State :=
  match taken with
  | some f =>
    if s.link.state = .running ∧ f.spindle = 0 then { s with gear := { s.gear with interlock := false } } else s
  | none => s

/-- R88: a non-zero command meets the interlock. -/
def spindleHeldWork (taken : Option CycleFrame) (s : State) : State :=
  match taken with
  | some f =>
    raiseIf (decide (s.link.state = .running) && decide (f.spindle ≠ 0) && decide (s.gear.state = .engaged) &&
      s.gear.interlock) .spindleHeld s
  | none => s

/-- R89: the run value compared with that of the previous expiry, with the announcements of R52 and R118. -/
def spindleAnnounceWork (s : State) : State :=
  let run := runValueOf s
  let before := s.gear.runValue
  let s := { s with gear := { s.gear with runValue := run } }
  if before = 0 ∧ run ≠ 0 then announce .spindleStart (growthSpindleStart s)
  else if before ≠ 0 ∧ run = 0 then announce .spindleStop (growthSpindleStop s)
  else s

/-- R90: the effective spindle rpm of the report. -/
def reportedSpeed (s : State) : Int :=
  match s.gear.state, activeBytes s .gear, s.gear.engaged with
  | .engaged, some bs, some r => roundDiv (s.gear.output * 1000) (gearRatio bs r)
  | .stoppingSpindle, some bs, some r => roundDiv (s.gear.output * 1000) (gearRatio bs r)
  | _, _, _ => 0

/-- R100: the wiggle half-period expires in SHIFTING. -/
def wiggleEnds (s : State) : State :=
  match s.gear.state, s.gear.wiggle, activeBytes s .gear, s.gear.target with
  | .shifting, some _, some bs, some r =>
    let s := { s with gear := { s.gear with phasePositive := !s.gear.phasePositive,
                                            wiggle := some (wiggleHalfMs bs r) } }
    { s with gear := { s.gear with output := shiftingOutput s } }
  | _, _, _, _ => s

end Sys2Proof.Machine
end

