-- ==== Sys2Proof/Machine/Bank.lean ====
section
/-! DEFINITION. The valve bank arbiter, the four clamp sequencers, and the steps of a gear change that claim, hold or
release the bank (chapter 4; R97 to R104). -/

namespace Sys2Proof.Machine

/-! ## Switches -/

/-- R69: a clamp's reading from its two debounced switches. -/
def switchReading (p : SwitchPair (Debounced Bool)) : SwitchReading :=
  match p.clamped.value, p.unclamped.value with
  | some true, some false => .clampedConfirm
  | some false, some true => .unclampedConfirm
  | _, _ => .neither

/-- The reading of a clamp as it stands now (R84). While the clamp group is PENDING no debounced value is handed to any
user (R150), so the reading is neither (log entry 8). -/
def readingNow (s : State) (a : ClampAxis) : SwitchReading :=
  if s.inputs.clampComplete then switchReading (s.inputs.clamps.get a) else .neither

/-! ## Outputs of the bank (R63) -/

/-- The pilot valve is open while the arbiter has a holder. -/
def pilotOpen (s : State) : Bool := s.bank.holder.isSome && !s.link.state.atRest

/-- A clamp solenoid follows its sequencer. -/
def clampSolenoid (s : State) (a : ClampAxis) : Bool :=
  !s.link.state.atRest && !clampAbsent s a &&
    match (s.clamps.get a).state with
    | .unclamping | .unclamped | .clampWait false => true
    | .clamped | .unclampWait | .clampWait true | .clamping | .dropped | .fault => false

/-- R100: the shift solenoids, fork A LEFT, A RIGHT, B LEFT, B RIGHT. -/
def shiftSolenoids (s : State) : PerFork Bool :=
  match s.gear.state, activeBytes s .gear, s.gear.target with
  | .shifting, some bs, some r =>
    let p := forkPattern bs r
    if s.link.state.atRest then ⟨false, false, false, false⟩
    else ⟨decide (p.1 = .left), decide (p.1 = .right), decide (p.2 = .left), decide (p.2 = .right)⟩
  | _, _, _ => ⟨false, false, false, false⟩

/-! ## Claims, grants, releases (R64 to R66) -/

/-- A clamp sequencer in a new state, its ceiling as given and its settle count 0 (R69). -/
def setClamp (a : ClampAxis) (st : ClampState) (ceiling : Option Nat) (s : State) : State :=
  { s with clamps := s.clamps.set a { state := st, ceiling := ceiling, settle := 0 } }

/-- The settle count of a clamp. -/
def setSettle (a : ClampAxis) (n : Nat) (s : State) : State :=
  { s with clamps := s.clamps.set a { s.clamps.get a with settle := n } }

/-- A clamp's ceilings from the active table, in milliseconds. -/
def unclampCeiling (s : State) (a : ClampAxis) : Nat :=
  match activeBytes s .clamp with
  | some bs => unclampCeilingMs bs a
  | none => 0

def clampCeiling (s : State) (a : ClampAxis) : Nat :=
  match activeBytes s .clamp with
  | some bs => clampCeilingMs bs a
  | none => 0

def dropCeiling (s : State) : Nat :=
  match activeBytes s .clamp with
  | some bs => dropCeilingMs bs
  | none => 0

/-- R65, R72, R75, R78: a clamp sequencer's transit begins at the grant. -/
def beginClampTransit (a : ClampAxis) (s : State) : State :=
  match (s.clamps.get a).state with
  | .unclampWait => setClamp a .unclamping (some (unclampCeiling s a)) s
  | .clampWait _ => setClamp a .clamping (some (clampCeiling s a)) s
  | .clamped | .unclamping | .unclamped | .clamping | .dropped | .fault => s

/-- R100: the gearbox's transit begins at the grant. -/
def beginShift (s : State) : State :=
  match s.gear.state, activeBytes s .gear, s.gear.target with
  | .valveWait, some bs, some r =>
    let s := { s with gear := { s.gear with state := .shifting, settle := 0,
                                            shiftCeiling := some (shiftCeilingMs bs r),
                                            wiggle := some (wiggleHalfMs bs r), phasePositive := true } }
    { s with gear := { s.gear with output := shiftingOutput s } }
  | _, _, _ => s

/-- The claimant's transit begins. -/
def beginTransit (c : Claimant) (s : State) : State :=
  match c with
  | .clamp a => beginClampTransit a s
  | .gearbox => beginShift s

/-- R65: whether the arbiter grants now. -/
def grantReady (s : State) : Bool :=
  decide (s.bank.holder = none) && s.bank.pressureOk && !s.link.state.atRest

/-- R65: the grant to the head of the queue, where the conditions hold. -/
def tryGrant (s : State) : State :=
  if grantReady s then
    match s.bank.queue with
    | [] => s
    | c :: rest => beginTransit c { s with bank := { s.bank with queue := rest, holder := some c } }
  else s

/-- R64: a claimant joins at the tail, at most one claim each, and the arbiter tests its conditions (R65). -/
def claim (c : Claimant) (s : State) : State :=
  if c ∈ s.bank.queue ∨ s.bank.holder = some c then s
  else tryGrant { s with bank := { s.bank with queue := s.bank.queue ++ [c] } }

/-- R64: a claim withdrawn from wherever it stands. -/
def withdraw (c : Claimant) (s : State) : State :=
  { s with bank := { s.bank with queue := s.bank.queue.erase c } }

/-- R66: the holder releases the bank, and the head is granted at the same moment where the conditions hold. -/
def release (c : Claimant) (s : State) : State :=
  if s.bank.holder = some c then tryGrant { s with bank := { s.bank with holder := none } } else s

/-! ## Faults (R79, R102) -/

/-- R79: a clamp sequencer enters FAULT. -/
def clampToFault (a : ClampAxis) (s : State) : State :=
  release (.clamp a) (pendantClampFault a (withdraw (.clamp a) (raise .clampFault (setClamp a .fault none s))))

/-- R102: SHIFTING ends in FAULT. The settle count and the wiggle phase keep their last values (DESIGN CHOICE, unsafe; log
entry 40). -/
def gearToFault (s : State) : State :=
  release .gearbox (raise .gearFault
    { s with gear := { stopGearTimers s.gear with state := .fault, output := 0, next := none, target := none,
                                                  engaged := none } })

/-! ## Recovery (R78, R84) -/

/-- R78: whether a sequencer in DROPPED may recover now. Until the clamp group's first debounce has reached the
sequencers they keep the DROPPED of reset, of RESTART as of hardware reset (R84; DEDUCED, unsafe; log entry 8). -/
def recoverable (s : State) (a : ClampAxis) : Bool :=
  decide ((s.clamps.get a).state = .dropped) && clampInForce s a && !s.link.state.atRest && s.inputs.clampsDelivered

/-- R78: the recovery wait. -/
def recoverClamp (s : State) (a : ClampAxis) : State :=
  if recoverable s a then claim (.clamp a) (setClamp a (.clampWait true) (some (dropCeiling s)) s) else s

/-- R78: every sequencer that may recover, in the order given (log entry 2). -/
def recoverDropped (order : List ClampAxis) (s : State) : State := (fullClampOrder order).foldl recoverClamp s

/-- R77: a clamp sequencer's state at the entry into HALTED or OFFLINE. -/
def droppedState : ClampState → ClampState
  | .clamped | .unclampWait => .clamped
  | .unclamping | .unclamped | .clampWait _ | .clamping | .dropped => .dropped
  | .fault => .fault

/-- R77, R66: the sequencers drop, the queue is empty and the holder none. -/
def dropClamps (s : State) : State :=
  { s with clamps := PerClamp.of fun a => { state := droppedState (s.clamps.get a).state, ceiling := none, settle := 0 },
           bank := { s.bank with queue := [], holder := none } }

/-! ## The pressure watch (R67, R68) -/

/-- R68: the transit of the holder is aborted. -/
def abortTransit (s : State) : State :=
  match s.bank.holder with
  | some (.clamp a) => clampToFault a s
  | some .gearbox => gearToFault s
  | none => s

/-- R67, R68: the pressure watch at an expiry. -/
def pressureWork (s : State) : State :=
  match activeBytes s .clamp with
  | none => s
  | some bs =>
    let fault := (readingOf s.inputs.readings.an0).2
    let ok := !fault && decide (pressureThreshold bs ≤ s.inputs.hydraulic.getD 0)
    if ok = s.bank.pressureOk then { s with bank := { s.bank with disagree := 0 } }
    else if s.bank.disagree + 1 < pressureFilter bs then
      { s with bank := { s.bank with disagree := s.bank.disagree + 1 } }
    else
      let s := { s with bank := { s.bank with disagree := 0, pressureOk := ok } }
      if ok then tryGrant s else abortTransit (raise .pressureLow s)

/-! ## A clamp sequencer's work at an expiry (R70 to R76) -/

/-- R70: wanted unclamped. -/
def wantedUnclamped (held : Option CycleFrame) (a : ClampAxis) (s : State) : Bool :=
  decide (s.link.state = .running) &&
    ((match held with
      | some f => (f.axes.get a.axis).unclamp
      | none => false) ||
     (decide (s.seen.grant = .waiting a.axis) && s.seen.permitMark) ||
     decide (s.seen.grant = .granted a.axis))

/-- R73, R76: the confirm settle of a clamp. -/
def confirmSettleOf (s : State) (a : ClampAxis) : Nat :=
  match activeBytes s .clamp with
  | some bs => confirmSettle bs a
  | none => 1

/-- R73, R76: a transit's confirm, ending in `done` once the settle count is reached. The expiry whose grant begins the
transit counts its switch reading where the grant comes before this work, as at a RECOVER always; a grant that comes later
in the expiry does not (DESIGN CHOICE, unsafe; log entry 34). -/
def transitWork (a : ClampAxis) (want : SwitchReading) (done : ClampState) (s : State) : State :=
  if s.seen.reading.get a = want then
    let n := (s.clamps.get a).settle + 1
    if confirmSettleOf s a ≤ n then release (.clamp a) (raise .clampDone (setClamp a done none s))
    else setSettle a n s
  else setSettle a 0 s

/-- R71 to R76 for a sequencer whose record is in force. -/
def clampInForceWork (wanted : Bool) (a : ClampAxis) (s : State) : State :=
  let reading := s.seen.reading.get a
  match (s.clamps.get a).state with
  | .clamped =>
    if reading ≠ .clampedConfirm then clampToFault a s
    else if wanted then claim (.clamp a) (setClamp a .unclampWait none s)
    else s
  | .unclampWait => if wanted then s else setClamp a .clamped none (withdraw (.clamp a) s)
  | .unclamping => transitWork a .unclampedConfirm .unclamped s
  | .unclamped =>
    if reading ≠ .unclampedConfirm then clampToFault a s
    else if !wanted ∧ s.seen.step.get a.axis = 0 then
      let n := (s.clamps.get a).settle + 1
      if stillFrames s a.axis ≤ n then claim (.clamp a) (setClamp a (.clampWait false) none s)
      else setSettle a n s
    else setSettle a 0 s
  | .clampWait false =>
    if reading ≠ .unclampedConfirm then clampToFault a s
    else if wanted then setClamp a .unclamped none (withdraw (.clamp a) s)
    else s
  | .clamping => transitWork a .clampedConfirm .clamped s
  | .clampWait true | .dropped | .fault => s

/-- A clamp sequencer's work at an expiry; without the table only a loss of the clamped confirm acts (R81). -/
def clampWork (held : Option CycleFrame) (a : ClampAxis) (s : State) : State :=
  if clampInForce s a then clampInForceWork (wantedUnclamped held a s) a s
  else if clampAbsent s a then s
  else if (s.clamps.get a).state = .clamped ∧ s.seen.reading.get a ≠ .clampedConfirm then clampToFault a s
  else s

/-- R84, R150: the clamp group's first values reach the sequencers. A DROPPED clamp becomes CLAMPED by its reading, or begins
its recovery wait, where its record is in force; while the clamp and hydraulic table is absent it stays DROPPED (R81). -/
def clampFirstWork (order : List ClampAxis) (s : State) : State :=
  if s.inputs.clampComplete && !s.inputs.clampsDelivered then
    let s := { s with inputs := { s.inputs with clampsDelivered := true } }
    recoverDropped order
      { s with clamps := PerClamp.of fun a =>
          let c := s.clamps.get a
          if clampInForce s a ∧ c.state = .dropped ∧ readingNow s a = .clampedConfirm then { c with state := .clamped }
          else c }
  else s

/-! ## Ceilings of the clamps (R73, R76, R78) -/

/-- A ceiling of a clamp expires in one of the states that it bounds. -/
def clampCeilingEnds (bounded : ClampState) (a : ClampAxis) (s : State) : State :=
  let c := s.clamps.get a
  if c.state = bounded ∧ c.ceiling.isSome then clampToFault a s else s

/-! ## CLEAR_FAULT of a clamp (R80) -/

/-- R80: the state that the switches give a faulted clamp. -/
def clearedClampState (halted : Bool) (r : SwitchReading) : ClampState :=
  match r with
  | .clampedConfirm => .clamped
  | .unclampedConfirm => if halted then .dropped else .unclamped
  | .neither => .fault

/-- R80: a faulted clamp re-evaluated. -/
def clearClampFault (a : ClampAxis) (s : State) : State :=
  setClamp a (clearedClampState (decide (s.link.state = .halted)) (s.seen.reading.get a)) none s

/-! ## The gearbox and the bank -/

/-- R98: DRAINING ends and the claim joins the queue. -/
def enterValveWait (s : State) : State :=
  claim .gearbox { s with gear := { s.gear with state := .valveWait, drainCeiling := none } }

/-- R101: the completion of a change. The pump is released at that moment (R93) and GEAR_END is taken as it is announced
(R118), so a change that follows at once from the next-request slot meets the requested values that GEAR_END's program
has left, and withholds a pump that is still requested anew (R111). The settle count stays at the value that has reached
the confirm settle, and the wiggle phase as it was, until the next grant (DESIGN CHOICE, unsafe; log entry 40). -/
def completeShift (s : State) : State :=
  match s.gear.target with
  | none => s
  | some r =>
    let differs := decide (s.gear.engaged ≠ some r)
    let slot := s.gear.next
    let s := { s with gear := { stopGearTimers s.gear with state := .engaged, engaged := some r, target := none,
                                                           next := none, output := 0, interlock := true } }
    let s := settleTriggers [] (announce .gearEnd (raise .gearDone s))
    let s := if differs then enabledTrigger 1 s else s
    let s := release .gearbox s
    match slot with
    | some q => actOnRequest q s
    | none => s

/-- R92, R98, R101: the per-expiry test of the gear state. In UNKNOWN it waits for the next expiry where a fork change of
this one has ended ENGAGED (R92). The expiry of a grant counts its fork reading only where the grant comes before this
work: one that this work itself makes, straight out of DRAINING, does not (DESIGN CHOICE, unsafe; log entry 34). -/
def gearStageWork (s : State) : State :=
  match activeBytes s .gear with
  | none => s
  | some bs =>
    match s.gear.state with
    | .unknown => (match shownRange s with
      | some r => if s.gear.forkLoss then s else enterEngaged r s
      | none => s)
    | .draining =>
      let fault := (readingOf s.inputs.readings.an1).2
      if !fault ∧ s.inputs.tsc.getD 0 < drainThreshold bs then enterValveWait s else s
    | .shifting =>
      if showsRange s s.gear.target then
        let n := s.gear.settle + 1
        if gearSettle bs ≤ n then completeShift { s with gear := { s.gear with settle := n } }
        else { s with gear := { s.gear with settle := n } }
      else { s with gear := { s.gear with settle := 0 } }
    | .engaged | .stoppingSpindle | .valveWait | .fault => s

/-- R103: the block's reaction to STOPPING and LINK_LOST. -/
def gearLeaveWork (s : State) : State :=
  if s.link.state = .stopping ∨ s.link.state = .linkLost then
    let s := { s with gear := { s.gear with next := none } }
    match s.gear.state with
    | .stoppingSpindle | .draining | .valveWait =>
      reevaluate (withdraw .gearbox { s with gear := { stopGearTimers s.gear with target := none } })
    | .engaged | .unknown | .shifting | .fault => s
  else s

/-- R104: the block at the entry into HALTED or OFFLINE; the bank is given up by `dropClamps`. -/
def gearHalt (s : State) : State :=
  let s := { s with gear := { s.gear with next := none, output := 0 } }
  match s.gear.state with
  | .stoppingSpindle | .draining | .valveWait | .shifting =>
    reevaluate { s with gear := { stopGearTimers s.gear with target := none } }
  | .engaged | .unknown | .fault => s

/-- A change ended as R104 ends one, while the link state stays: the claim or the bank is given up, the timers stop, and
the gear state is re-evaluated from the switches. -/
def abandonChange (s : State) : State :=
  release .gearbox (reevaluate (withdraw .gearbox
    { s with gear := { stopGearTimers s.gear with target := none, next := none, output := 0 } }))

/-- R107: the block at a passing COMMIT of the gear table, the new copy in place. -/
def gearCommitted (s : State) : State :=
  match s.gear.state with
  | .shifting => abandonChange s
  | .engaged | .unknown => reevaluateKeeping s
  | .stoppingSpindle | .draining | .valveWait | .fault => s

/-- R150: the block's copy takes the four debounced fork switches and the gear state is re-evaluated. -/
def forkValues (s : State) : PerFork Bool :=
  let v (d : Debounced Bool) : Bool := d.value.getD false
  ⟨v s.inputs.forks.aLeft, v s.inputs.forks.aRight, v s.inputs.forks.bLeft, v s.inputs.forks.bRight⟩

/-- R108, R150: the first fork reading, at which the gear state is re-evaluated in every state. A change in progress
ends with it, and FAULT is left (DEDUCED, unsafe; log entry 31). -/
def forkFirstWork (s : State) : State :=
  if s.inputs.forkComplete && !s.gear.forksDelivered then
    let s := { s with gear := { s.gear with forks := forkValues s, forksDelivered := true } }
    match s.gear.state with
    | .engaged | .unknown => reevaluateKeeping s
    | .stoppingSpindle | .draining | .valveWait | .shifting => abandonChange s
    | .fault => reevaluate s
  else s

/-- R91, R151: the hand-over of one fork switch's change. -/
def forkWork (i : ForkSwitch) (s : State) : State :=
  if s.gear.forksDelivered then
    match (s.inputs.forks.get i).value with
    | some v => if v = s.gear.forks.get i then s else forksChanged (s.gear.forks.set i v) s
    | none => s
  else s

/-- R98: the drain ceiling expires. -/
def drainCeilingEnds (s : State) : State :=
  if s.gear.state = .draining ∧ s.gear.drainCeiling.isSome then enterValveWait s else s

/-- R102: the shift ceiling expires. -/
def shiftCeilingEnds (s : State) : State :=
  if s.gear.state = .shifting ∧ s.gear.shiftCeiling.isSome then gearToFault s else s

/-! ## COMMIT of the clamp and hydraulic table (R83) -/

/-- R83: a sequencer whose record stands as `before` under the old table (none: the table was absent) and as
`after` under the new one, less claim and bank. -/
def committedClamp (before : Option Bool) (after : Bool) (r : SwitchReading) (c : ClampSequencer) : ClampSequencer :=
  if after then
    match before with
    | some false => { state := if r = .clampedConfirm then .clamped else .dropped, ceiling := none, settle := 0 }
    | some true | none => c
  else clampReset

/-- R83: the claims of the sequencers that become ABSENT are withdrawn, and a transit of one ends. -/
def dropAbsentClaim (s : State) (a : ClampAxis) : State :=
  if clampAbsent s a then withdraw (.clamp a) s else s

/-- R83: the sequencers and the arbiter at a passing COMMIT, the new copy in place, `old` the bytes before. "The switches
that stand" are read as the sequencers read them, as the previous drive frame left them (R69, R151; DEDUCED, unsafe; log
entry 32). -/
def clampTableCommitted (old : Option (List Byte)) (order : List ClampAxis) (s : State) : State :=
  let s := allClamps.foldl dropAbsentClaim s
  let s := { s with clamps := PerClamp.of (fun a =>
                      committedClamp (old.map (clampRecordPresent · a)) (clampInForce s a) (s.seen.reading.get a)
                        (s.clamps.get a))
                    bank := { s.bank with disagree := 0 } }
  let s := match s.bank.holder with
    | some (.clamp a) => if clampAbsent s a then release (.clamp a) s else s
    | some .gearbox | none => s
  recoverDropped order s

end Sys2Proof.Machine
end

