-- ==== Sys2Proof/Machine/Inputs.lean ====
section
/-! DEFINITION. The input conditioner (chapter 8): debouncing, the positions of the multi-line switches, scaling, and
the hand-over of the pendant group's values. -/

namespace Sys2Proof.Machine

/-! ## Debouncing (R148) -/

/-- R148: one sample `v` of an input whose group has the given debounce count. -/
def debounce {α : Type} [DecidableEq α] (count : Nat) (v : α) (d : Debounced α) : Debounced α :=
  if d.value = some v then { d with candidate := none, run := 0 }
  else if d.candidate = some v then
    if count ≤ d.run + 1 then { value := some v, candidate := none, run := 0 } else { d with run := d.run + 1 }
  else if count = 0 then { value := some v, candidate := none, run := 0 }
  else { d with candidate := some v, run := 0 }

/-- R149: the axis whose line alone is ON, else OFF. -/
def selectorPosition (lines : PerAxis Bool) : Selector :=
  match lines.x, lines.y, lines.z, lines.w, lines.b with
  | true, false, false, false, false => .axis .x
  | false, true, false, false, false => .axis .y
  | false, false, true, false, false => .axis .z
  | false, false, false, true, false => .axis .w
  | false, false, false, false, true => .axis .b
  | _, _, _, _, _ => .off

/-- R149: the increment switch. -/
def incrementPosition (ten hundred : Bool) : Increment :=
  match ten, hundred with
  | true, false => .x10
  | false, true => .x100
  | false, false => .x1
  | true, true => .x1

/-- R149: the enable switch. -/
def enablePosition (held clenched : Bool) : Enable :=
  match held, clenched with
  | true, false => .held
  | false, true => .clenched
  | false, false => .released
  | true, true => .clenched

/-- Both switches of a clamp sampled. -/
def debouncePair (count : Nat) (v : SwitchPair Bool) (d : SwitchPair (Debounced Bool)) : SwitchPair (Debounced Bool) :=
  ⟨debounce count v.clamped d.clamped, debounce count v.unclamped d.unclamped⟩

/-- The eight buttons sampled. -/
def debounceButtons (count : Nat) (v : PerButton Bool) (d : PerButton (Debounced Bool)) :
    PerButton (Debounced Bool) :=
  ⟨debounce count v.b1 d.b1, debounce count v.b2 d.b2, debounce count v.b3 d.b3, debounce count v.b4 d.b4,
   debounce count v.b5 d.b5, debounce count v.b6 d.b6, debounce count v.b7 d.b7, debounce count v.b8 d.b8⟩

/-- Every input of the clamp group has its first debounced value (R150). -/
def clampGroupDone (i : Inputs) : Bool :=
  PerClamp.all fun a => (i.clamps.get a).clamped.value.isSome && (i.clamps.get a).unclamped.value.isSome

def forkGroupDone (i : Inputs) : Bool :=
  i.forks.aLeft.value.isSome && i.forks.aRight.value.isSome && i.forks.bLeft.value.isSome && i.forks.bRight.value.isSome

def pendantGroupDone (i : Inputs) : Bool :=
  i.selector.value.isSome && i.increment.value.isSome && i.enable.value.isSome &&
    i.buttons.toList.all fun d => d.value.isSome

/-- R148, R149: every discrete input sampled. -/
def sampleDiscrete (s : State) (v : Samples) : Inputs :=
  let i := s.inputs
  let c := clampDebounce s
  let f := forkDebounce s
  let p := pendantDebounce s
  { i with
    clamps := PerClamp.of fun a => debouncePair c (v.clamps.get a) (i.clamps.get a)
    forks := ⟨debounce f v.forks.aLeft i.forks.aLeft, debounce f v.forks.aRight i.forks.aRight,
              debounce f v.forks.bLeft i.forks.bLeft, debounce f v.forks.bRight i.forks.bRight⟩
    selector := debounce p (selectorPosition v.selector) i.selector
    increment := debounce p (incrementPosition v.incTen v.incHundred) i.increment
    enable := debounce p (enablePosition v.held v.clenched) i.enable
    buttons := debounceButtons p v.buttons i.buttons }

/-- R150: the first-debounce marks brought up to date; a mark once COMPLETE stays so. -/
def markGroups (i : Inputs) : Inputs :=
  { i with clampComplete := i.clampComplete || clampGroupDone i
           forkComplete := i.forkComplete || forkGroupDone i
           pendantComplete := i.pendantComplete || pendantGroupDone i }

/-! ## Analog channels (R153, R155) -/

/-- R155: a pressure in 0.1 bar. -/
def scalePressure (full : Nat) (reading : BitVec 12) : Nat := (roundDiv ((reading.toNat * full : Nat) : Int) 4095).toNat

/-- R155: the tank temperature in 0.1 °C. -/
def scaleTemperature (zero : Int) (span : Nat) (reading : BitVec 12) : Int :=
  zero + roundDiv ((reading.toNat * span : Nat) : Int) 4095

/-- R153, R155: all six channels converted and three of them scaled. -/
def convertAnalog (s : State) (v : PerChannel (BitVec 12)) (i : Inputs) : Inputs :=
  { i with
    readings := ⟨some v.an0, some v.an1, some v.an2, some v.an3, some v.an4, some v.an5⟩
    hydraulic := some (scalePressure (hydraulicScale s) v.an0)
    tsc := some (scalePressure (tscScale s) v.an1)
    tankTemp := some (scaleTemperature (tankZero s) (tankSpan s) v.an2) }

/-- The input conditioner's work at an expiry. -/
def conditionerWork (v : Samples) (s : State) : State :=
  { s with inputs := convertAnalog s v.analog (markGroups (sampleDiscrete s v)) }

/-! ## Hand-over to the pendant unit (R132, R151) -/

/-- A debounced value that differs from the unit's view. -/
def changedTo {α : Type} [DecidableEq α] (d : Debounced α) (view : α) : Option α :=
  match d.value with
  | some v => if v = view then none else some v
  | none => none

/-- The selector handed over. -/
def handSelector (s : State) : State :=
  match changedTo s.inputs.selector s.pendant.selector with
  | some v => selectorChange v s
  | none => s

/-- The enable handed over. -/
def handEnable (s : State) : State :=
  match changedTo s.inputs.enable s.pendant.enable with
  | some v => enableChange v s
  | none => s

/-- R144: a button's press; `before` and `now` are PRESSED or not. -/
def press (before now : Bool) (src : TriggerSource) (s : State) : State := announceIf (now && !before) src s

/-- The debounced level of a button, or the view's where there is none. -/
def buttonNow (d : Debounced Bool) (view : Bool) : Bool := d.value.getD view

/-- The buttons of the unit's view after the hand-over. -/
def buttonsNow (s : State) : PerButton Bool :=
  let d := s.inputs.buttons
  let v := s.pendant.buttons
  ⟨buttonNow d.b1 v.b1, buttonNow d.b2 v.b2, buttonNow d.b3 v.b3, buttonNow d.b4 v.b4,
   buttonNow d.b5 v.b5, buttonNow d.b6 v.b6, buttonNow d.b7 v.b7, buttonNow d.b8 v.b8⟩

/-- The increment and the buttons handed over, with the presses of buttons 1 to 4 (R144). -/
def handPanel (s : State) : State :=
  let before := s.pendant.buttons
  let now := buttonsNow s
  let s := { s with pendant := { s.pendant with
              increment := s.inputs.increment.value.getD s.pendant.increment, buttons := now } }
  press before.b4 now.b4 .pb3 (press before.b3 now.b3 .pb2 (press before.b2 now.b2 .pb1
    (press before.b1 now.b1 .pb0 s)))

/-- R132, R150: the first delivery, every value taken as a change from the view of reset. At the first expiry after
RESTART the values are those after that expiry's own sample (DESIGN CHOICE, unsafe; log entry 43). -/
def pendantFirstWork (s : State) : State :=
  if s.inputs.pendantComplete && !s.pendant.delivered then
    handPanel (handEnable (handSelector { s with pendant := { s.pendant with delivered := true } }))
  else s

/-- R151: a hand-over after the first delivery. -/
def delivered (work : State → State) (s : State) : State := if s.pendant.delivered then work s else s

end Sys2Proof.Machine
end

