-- ==== Sys2Proof/Machine/Link.lean ====
section
/-! DEFINITION. The link controller (chapter 1): the link states and their entries, the newest-frame slot, and its own
handling of an expiry (R5). -/

namespace Sys2Proof.Machine

/-! ## Entries -/

/-- The link state with what each entry into a state without drive enable does to it (R8, R10, R13). -/
def disabledLink (st : LinkState) (l : Link) : Link :=
  { l with state := st, enable := false, enableSent := false, activation := none, chainMiss := 0 }

/-- The reactions shared by the entries into HALTED and OFFLINE (R38, R46, R77, R104, R112, R139). Triggers already
announced at the expiry are taken before (log entry 15). -/
def enterRest (st : LinkState) (s : State) : State :=
  let s := settleTriggers [] s
  let s := endGrant { s with link := disabledLink st s.link }
  coolantRest (gearHalt (dropClamps (discardWindow (clearAxes s))))

/-- R17: entry into HALTED. -/
def enterHalted (cause : HaltCause) (s : State) : State :=
  let s := enterRest .halted s
  raise .halted { s with link := { s.link with cause := cause } }

/-- R17: a halting event, which acts in ACTIVATING, RUNNING, STOPPING and LINK_LOST. -/
def halt (cause : HaltCause) (s : State) : State := if s.link.state.enabled then enterHalted cause s else s

/-- R12: entry into OFFLINE. The slot and the halt cause are kept. -/
def enterOffline (s : State) : State :=
  let s := enterRest .offline s
  { s with link := { s.link with lastSeq := none, missCount := 0, takenSeq := none } }

/-- Entry into STANDBY (R38, R78, R124). -/
def enterStandby (order : List ClampAxis) (s : State) : State :=
  recoverDropped order (coolantResume (clearAxes { s with link := disabledLink .standby s.link }))

/-- R13: entry into ACTIVATING with the named period. -/
def enterActivating (p : Period) (s : State) : State :=
  clearAxes { s with link := { s.link with state := .activating, period := p, enable := true, enableSent := false,
                                           chainMiss := 0, cause := .none, activation := some 2000 } }

/-- R14: entry into RUNNING, the latest return values in place (R37, R88, R94, R137). -/
def enterRunning (s : State) : State :=
  let s := startAxes { s with link := { s.link with state := .running, activation := none } }
  { s with gear := { s.gear with interlock := true, lastRequest := none },
           pendant := { s.pendant with stillCount := 0 } }

/-- R15: RUNNING is left for STOPPING or LINK_LOST. -/
def leaveRunning (st : LinkState) (s : State) : State :=
  announce .linkStop (endGrant { s with link := { s.link with state := st } })

/-- R15: entry into LINK_LOST; only RUNNING announces LINK_STOP. -/
def enterLinkLost (s : State) : State :=
  raise .linkLost (if s.link.state = .running then leaveRunning .linkLost s
                   else { s with link := { s.link with state := .linkLost } })

/-! ## Events between expiries -/

/-- R17, R152: the E-stop opens. -/
def estopOpens (s : State) : State :=
  let s := { s with inputs := { s.inputs with estopOpen := true } }
  if s.link.state.enabled ∨ s.link.state = .standby then enterHalted .estop s else s

/-- R152: the E-stop closes. -/
def estopCloses (s : State) : State := { s with inputs := { s.inputs with estopOpen := false } }

/-- R14: the activation ceiling expires. -/
def activationEnds (s : State) : State :=
  if s.link.state = .activating ∧ s.link.activation.isSome then raise .activateFault (enterStandby [] s) else s

/-- R2: the sequence number expected next; none where every number is. -/
def expectedSeq (l : Link) : Option Byte := l.lastSeq.map (· + 1)

/-- R2: whether a frame's number is not the expected one. -/
def seqGap (l : Link) (seq : Byte) : Bool :=
  match expectedSeq l with
  | some e => decide (seq ≠ e)
  | none => false

/-- R3: whether the slot holds an UNUSED frame. -/
def slotUnused (l : Link) : Bool :=
  match l.slot with
  | some sl => !sl.used
  | none => false

/-- R2, R3: an accepted frame goes into the slot. -/
def acceptFrame (f : CycleFrame) (s : State) : State :=
  let gap := seqGap s.link f.seq
  let replaced := slotUnused s.link
  raiseIf replaced .frameOverwritten (raiseIf gap .seqGap
    { s with link := { s.link with slot := some ⟨f, false⟩, lastSeq := some f.seq } })

/-- R12: an acceptance ends OFFLINE, and an open E-stop ends the STANDBY so entered. -/
def leaveOffline (order : List ClampAxis) (s : State) : State :=
  let s := enterStandby order { s with link := { s.link with missCount := 0 } }
  if s.inputs.estopOpen then enterHalted .estop s else s

/-- R1: a frame completes on the command link. -/
def frameArrives (bytes : List Byte) (order : List ClampAxis) (s : State) : State :=
  match cycleFrameOf bytes with
  | none => s
  | some f => if s.link.state = .offline then leaveOffline order (acceptFrame f s) else acceptFrame f s

/-- R9, R14, R17: a frame completes on the drive chain. -/
def returnArrives (bytes : List Byte) (s : State) : State :=
  match returnsOf bytes with
  | none => s
  | some r =>
    let s := { s with link := { s.link with returns := some r,
                                            returnFresh := s.link.returnFresh || s.link.enableSent } }
    if anyStation (· = .fault) r then halt .driveFault s
    else if s.link.state = .activating ∧ s.link.enableSent = true ∧ allStations (· = .ready) r = true then enterRunning s
    else s

/-! ## The handling of an expiry (R5) -/

/-- R5: the frame that an expiry takes. None is taken in OFFLINE. -/
def takenFrame (l : Link) : Option CycleFrame :=
  if l.state = .offline then none
  else
    match l.slot with
    | some sl => if sl.used then none else some sl.frame
    | none => none

/-- R5: the transition that is due where a miss raises the count to the limit. -/
def missTransition (s : State) : State :=
  match s.link.state with
  | .standby | .activating | .halted => enterOffline s
  | .running | .stopping => enterLinkLost s
  | .offline | .linkLost => s

/-- R5: a miss. -/
def missWork (s : State) : State :=
  if s.link.state = .offline then s
  else
    let n := s.link.missCount + 1
    let s := { s with link := { s.link with missCount := min 255 n } }
    if n = missLimit s then missTransition s else s

/-- R5: the slot settled. -/
def slotWork (taken : Option CycleFrame) (s : State) : State :=
  match taken with
  | some f => { s with link := { s.link with slot := some ⟨f, true⟩, missCount := 0, takenSeq := some f.seq } }
  | none => missWork s

/-- R10: the drive-chain miss count. -/
def chainWork (s : State) : State :=
  if s.link.enable then
    if s.link.returnFresh then { s with link := { s.link with chainMiss := 0 } }
    else
      let s := { s with link := { s.link with chainMiss := min 3 (s.link.chainMiss + 1) } }
      if s.link.chainMiss = 3 then halt .driveChainLost s else s
  else { s with link := { s.link with chainMiss := 0 } }

/-- R16: a clamp counts as ended. -/
def clampEnded (s : State) (a : ClampAxis) : Bool :=
  clampAbsent s a || decide (s.seen.clampState.get a = .clamped) || decide (s.seen.clampState.get a = .fault)

/-- R16: the end condition of STOPPING and LINK_LOST. -/
def stopEnded (s : State) : Bool :=
  PerAxis.all (fun a => decide (s.seen.step.get a = 0)) && spindleStopped s && PerClamp.all (clampEnded s)

/-- R16: the end of STOPPING and LINK_LOST. -/
def endWork (order : List ClampAxis) (s : State) : State :=
  if stopEnded s then
    match s.link.state with
    | .stopping => raise .standbyReached (enterStandby order s)
    | .linkLost =>
      raise .standbyReached (if s.link.missCount = 0 then enterStandby order s else enterOffline s)
    | .offline | .standby | .activating | .running | .halted => s
  else s

/-- R35: the following-error checks. -/
def followingWork (s : State) : State :=
  if s.link.state.moving && followingExcess s then halt .followingError s else s

/-- R5: the link controller's own handling of an expiry, in its order. -/
def linkWork (taken : Option CycleFrame) (order : List ClampAxis) (s : State) : State :=
  followingWork (endWork order (chainWork (slotWork taken s)))

end Sys2Proof.Machine
end

