-- ==== Sys2Proof/Machine/Services.lean ====
section
/-! DEFINITION. The service records (chapter 9 and the services of the other blocks). A kind of three sorts: the link
controller's, those taken with the blocks' work, and those that only read, which are answered as the echo frame
leaves. Each function is the record's own checks and effect, its body length already judged (R159). -/

namespace Sys2Proof.Machine

/-! ## Answers -/

/-- The answer to the record of this expiry or command. -/
def answer (k : ServiceKind) (st : Status) (body : List Byte) (s : State) : State :=
  { s with sent := { s.sent with answer := { kind := k.code, status := st, body := body } } }

/-- R159: a refusal with an empty body; nothing else happens. -/
def refuse (k : ServiceKind) (st : Status) (s : State) : State := answer k st [] s

/-- A STORE is running (R166). -/
def storing (s : State) : Bool := decide (s.store.state = .writing)

/-- R159, step 2: the body's length, then the kind's own checks. -/
def judged (k : ServiceKind) (body : List Byte) (act : State → State) (s : State) : State :=
  if bodyLengthOk k body then act s else refuse k .badParam s

/-! ## The link controller's services (R13, R15, R18, R19) -/

/-- R13. -/
def startService (body : List Byte) (s : State) : State :=
  if storing s then refuse .start .busy s
  else if s.link.state ≠ .standby then refuse .start .wrongState s
  else
    match periodOf (byteAt body 0) with
    | none => refuse .start .badParam s
    | some p =>
      if allPresent s then answer .start .accepted [] (enterActivating p s) else refuse .start .tableAbsent s

/-- R15. -/
def stopService (s : State) : State :=
  if s.link.state = .running then answer .stop .accepted [] (leaveRunning .stopping s)
  else refuse .stop .wrongState s

/-- R18. -/
def recoverService (order : List ClampAxis) (s : State) : State :=
  if s.link.state = .halted ∧ s.inputs.estopOpen = false then
    answer .recover .ok [] (enterStandby order { s with link := { s.link with cause := .none } })
  else refuse .recover .wrongState s

/-- R19: the checks of RESTART; its effect follows once the echo frame has left. -/
def restartService (s : State) : State :=
  if storing s then refuse .restart .busy s
  else if s.link.state = .standby ∨ s.link.state = .halted then answer .restart .ok [] s
  else refuse .restart .wrongState s

/-- A RESTART has passed its checks. -/
def restartTaken (s : State) : Bool :=
  decide (s.sent.answer.kind = ServiceKind.restart.code) && decide (s.sent.answer.status = .ok)

/-! ## Table services (R162, R164 to R166) -/

/-- R162. -/
def writeService (body : List Byte) (s : State) : State :=
  if storing s then refuse .writeSegment .busy s
  else if s.link.state ≠ .standby then refuse .writeSegment .wrongState s
  else
    match tableOfId (byteAt body 0) with
    | none => refuse .writeSegment .badParam s
    | some t =>
      let data := body.drop 3
      if u16At body 1 + data.length ≤ tableSizes.get t then
        answer .writeSegment .ok []
          { s with store := { s.store with
              staging := s.store.staging.set t (overwrite (s.store.staging.get t) (u16At body 1) data) } }
      else refuse .writeSegment .badParam s

/-- R165: the active copy of a table becomes `img`. -/
def setActive (t : TableId) (img : Image) (s : State) : State :=
  { s with store := { s.store with active := s.store.active.set t (some img) } }

/-- R165: the owner's effects of a passing COMMIT, the new copy in place; `old` is the active copy before. -/
def commitEffects (t : TableId) (old : Option (List Byte)) (order : List ClampAxis) (s : State) : State :=
  match t with
  | .envelope => s
  | .compensation => compensationCommitted s
  | .gear => gearCommitted s
  | .clamp => clampTableCommitted old order s
  | .programs => programsCommitted s
  | .triggers => triggersCommitted s
  | .pendant => pendantCommitted s
  | .inputs => s

/-- R165: a passing COMMIT of table `t`, whose staging copy is `bs`. -/
def commitTable (t : TableId) (bs : List Byte) (order : List ClampAxis) (s : State) : State :=
  answer .commit .ok (be8 t.index ++ be16 (crc16 bs).toNat)
    (commitEffects t (activeBytes s t) order (setActive t (imageOf bs) s))

/-- R164. -/
def commitService (body : List Byte) (order : List ClampAxis) (s : State) : State :=
  if storing s then refuse .commit .busy s
  else if s.link.state ≠ .standby then refuse .commit .wrongState s
  else
    match tableOfId (byteAt body 0) with
    | none => refuse .commit .badParam s
    | some t =>
      let bs := s.store.staging.get t
      if (crc16 bs).toNat = u16At body 1 then
        match tableFailure t bs with
        | some off => answer .commit .badTable (be8 t.index ++ be16 off) s
        | none => commitTable t bs order s
      else answer .commit .badSignature (be8 t.index ++ be16 (crc16 bs).toNat) s

/-- R166: the snapshot and the mark of a write that has begun. -/
def beginStore (s : State) : State :=
  { s with store := { s.store with state := .writing, snapshot := some s.store.active,
                                   nv := { s.store.nv with complete := false } } }

/-- R166. -/
def storeService (s : State) : State :=
  if storing s then refuse .store .busy s
  else if s.link.state ≠ .standby then refuse .store .wrongState s
  else answer .store .accepted [] (beginStore s)

/-- R167: the write is verified. -/
def storeDone (s : State) : State :=
  match s.store.snapshot with
  | some t =>
    if storing s then
      raise .storeDone { s with store := { s.store with nv := { complete := true, tables := t }, state := .valid,
                                                        snapshot := none } }
    else s
  | none => s

/-- R167: the write ends by a mismatch or by its ceiling. -/
def storeFails (s : State) : State :=
  if storing s then
    raise .storeFault { s with store := { s.store with state := .invalid, snapshot := none } }
  else s

/-! ## Flag services that change a set (R175, R176) -/

/-- R175. The answer's body is filled in as the echo frame leaves. -/
def clearFlagsService (body : List Byte) (s : State) : State :=
  match flagSetOf body with
  | none => refuse .clearFlags .badParam s
  | some set =>
    if set = 0 then refuse .clearFlags .badParam s
    else
      let s := lowerFlags set s
      answer .clearFlags .ok (flagSetBytes s.flags.raised) s

/-- R176. -/
def setMaskService (body : List Byte) (s : State) : State :=
  match flagSetOf body with
  | none => refuse .setMask .badParam s
  | some set => answer .setMask .ok (flagSetBytes set) (replaceMask set s)

/-! ## Coolant services (R121, R122) -/

/-- R122. -/
def coolantTriggerService (body : List Byte) (s : State) : State :=
  if coolantWorks s then
    if present s .programs then
      match programOf (byteAt body 0) with
      | some p => answer .coolantTrigger .ok (be8 (triggerOutcome p s).code) (triggerProgram p s)
      | none => refuse .coolantTrigger .badParam s
    else refuse .coolantTrigger .tableAbsent s
  else refuse .coolantTrigger .wrongState s

/-- R121. -/
def coolantStopService (s : State) : State := answer .coolantStop .ok [] (stopCoolant s)

/-! ## Growth services (R57, R58) -/

/-- R57. -/
def compTriggerService (body : List Byte) (s : State) : State :=
  if present s .compensation then
    match byteAt body 0 with
    | 0 => answer .compTrigger .ok [] (growthTrigger false s)
    | 1 => answer .compTrigger .ok [] (growthTrigger true s)
    | _ => refuse .compTrigger .badParam s
  else refuse .compTrigger .tableAbsent s

/-- R58: the new ref field of a last valid sum. -/
def growthRef (sum : Nat) : Nat := (roundDiv (sum : Int) 16).toNat

/-- R58. -/
def growthZeroService (s : State) : State :=
  if s.link.state = .standby ∨ s.link.state = .running then
    match activeBytes s .compensation with
    | none => refuse .growthZero .tableAbsent s
    | some bs =>
      match s.comp.lastSum with
      | none => refuse .growthZero .wrongState s
      | some sum =>
        let img := imageOf (overwrite bs 42 (be16 (growthRef sum)))
        answer .growthZero .ok (be16 (growthRef sum) ++ be16 img.signature.toNat) (setActive .compensation img s)
  else refuse .growthZero .wrongState s

/-! ## CLEAR_FAULT (R80, R105, R170) -/

/-- R80. -/
def clearClampService (a : ClampAxis) (s : State) : State :=
  match activeBytes s .clamp with
  | none => refuse .clearFault .tableAbsent s
  | some bs =>
    if clampRecordPresent bs a then
      if (s.clamps.get a).state = .fault then
        let s := clearClampFault a s
        answer .clearFault .ok (be8 (s.clamps.get a).state.code) s
      else refuse .clearFault .wrongState s
    else refuse .clearFault .badParam s

/-- R105. -/
def clearGearService (s : State) : State :=
  if present s .gear then
    if s.gear.state = .fault then
      let s := reevaluate s
      answer .clearFault .ok (be8 s.gear.state.code ++ be8 (rangeCode s.gear.engaged)) s
    else refuse .clearFault .wrongState s
  else refuse .clearFault .tableAbsent s

/-- R170. -/
def clearFaultService (body : List Byte) (s : State) : State :=
  match clearTargetOf (byteAt body 0) with
  | none => refuse .clearFault .badParam s
  | some (.clamp a) => clearClampService a s
  | some .gearbox => clearGearService s

/-! ## What only reads (R160, R163, R169, R174) -/

/-- A table's presence and signature as READ_INFO gives them. -/
def infoOf (img : Option Image) : List Byte :=
  match img with
  | some i => be8 1 ++ be16 i.signature.toNat
  | none => be8 0 ++ be16 0

/-- R160, 11.6: the identity codes, the tables and the store state. -/
def infoBody (s : State) : List Byte :=
  be8 0x4E ++ be16 0x0418 ++ be8 0x03 ++ allTables.flatMap (fun t => infoOf (s.store.active.get t)) ++
    be8 s.store.state.code

/-- The copy that READ_SEGMENT names, by its code (11.5): staging, active or neither. -/
def copyOf (s : State) (t : TableId) : Nat → Option (Option (List Byte))
  | 0 => some (some (s.store.staging.get t))
  | 1 => some (activeBytes s t)
  | _ => none

/-- R163. -/
def readSegmentService (body : List Byte) (s : State) : State :=
  match tableOfId (byteAt body 0) with
  | none => refuse .readSegment .badParam s
  | some t =>
    let off := u16At body 2
    let n := byteAt body 4
    match copyOf s t (byteAt body 1) with
    | none => refuse .readSegment .badParam s
    | some copy =>
      if within 1 44 n && decide (off + n ≤ tableSizes.get t) then
        match copy with
        | none => refuse .readSegment .tableAbsent s
        | some bs => answer .readSegment .ok (body.take 4 ++ sliceBytes bs off n) s
      else refuse .readSegment .badParam s

/-- A list of codes filled up to `n` places. -/
def padded (n fill : Nat) (l : List Nat) : List Byte :=
  (l.take n ++ List.replicate (n - l.length) fill).flatMap be8

/-- The bits of six outputs in one byte (11.3). The unused bits are sent 0 (DESIGN CHOICE, unsafe; log entry 38). -/
def outputBits (v : PerOutput Bool) : List Byte :=
  let bit (b : Bool) (k : Nat) : Nat := if b then 2 ^ k else 0
  be8 (bit v.flood 0 + bit v.tscPump 1 + bit v.tscDrain 2 + bit v.mist 3 + bit v.conveyor 4 + bit v.lube 5)

/-- A condition as a byte. -/
def mark (b : Bool) : List Byte := [flagByte b]

/-- 11.5.1, VALVE_BANK (R64). -/
def bankRecord (s : State) : List Byte :=
  be8 (match s.bank.holder with
    | some c => c.code
    | none => 0) ++
  be8 s.bank.queue.length ++ padded 5 0 (s.bank.queue.map Claimant.code) ++ mark s.bank.pressureOk ++
  be8 s.bank.disagree

/-- The running step and its phase's fields: step, phase, wait remaining, pause count. -/
def runFields (r : Option Run) : List Byte :=
  match r with
  | none => be8 0 ++ be8 0 ++ be16 Config.waitFieldWhenStopped.toNat ++ be16 0
  | some ⟨_, i, .wait c⟩ => be8 i ++ be8 1 ++ be16 c ++ be16 0
  | some ⟨_, i, .pause c⟩ => be8 i ++ be8 2 ++ be16 Config.waitFieldWhenStopped.toNat ++ be16 c

/-- The interval timer's state and remaining seconds. -/
def lubeFields : LubeTimer → List Byte
  | .stopped => be8 0 ++ be16 Config.intervalFieldWhenStopped.toNat
  | .running n => be8 1 ++ be16 n
  | .held n => be8 2 ++ be16 n

/-- The running program's byte, 0xFF for none. -/
def programByte (r : Option (Fin 8)) : List Byte :=
  match r with
  | some p => be8 p.val
  | none => be8 0xFF

def TankWarning.code : TankWarning → Nat
  | .unset => 0
  | .inactive => 1
  | .active => 2

/-- 11.5.1, COOLANT (R126). -/
def coolantRecord (s : State) : List Byte :=
  let c := s.coolant
  programByte (c.running.map Run.program) ++ runFields c.running ++ be8 c.queue.length ++
    padded 4 0xFF (c.queue.map Fin.val) ++ outputBits c.requested ++ mark c.withheld ++ be32 c.travel ++
    lubeFields c.lube ++ beS16 (s.inputs.tankTemp.getD 0) ++ be8 c.tank.code

/-- Pending updates in two bytes, 0xFFFF for ALWAYS. -/
def updatesField : Updates → List Byte
  | .count n => be16 n
  | .always => be16 0xFFFF

/-- 11.5.1, GROWTH (R59). -/
def growthRecord (s : State) : List Byte :=
  let c := s.comp
  beS16 c.applied ++ mark c.lastMeasurement.isSome ++ beS32 (c.lastMeasurement.getD 0) ++ updatesField c.updates ++
    mark c.hardFirst ++ be8 c.windowCount ++ mark c.windowFaulted ++ be32 c.stoppedMs

/-- The grant state and its axis. -/
def grantFields : Grant → List Byte
  | .free => be8 0 ++ be8 0
  | .waiting a => be8 1 ++ be8 (a.index + 1)
  | .granted a => be8 2 ++ be8 (a.index + 1)

/-- A band's byte, 0xFF for none. -/
def bandByte (b : Option (Fin 16)) : List Byte :=
  match b with
  | some k => be8 k.val
  | none => be8 0xFF

def knobFields (k : Knob) : List Byte := bandByte k.accepted ++ bandByte k.candidate ++ be8 k.count

/-- 11.5.1, PENDANT (R145). Outside WAITING the permit mark and the still count are those that the last wait left
(DESIGN CHOICE, unsafe; log entry 36). -/
def pendantRecord (s : State) : List Byte :=
  let p := s.pendant
  grantFields p.grant ++ mark p.permitMark ++ be8 p.stillCount ++ mark p.commandMark ++ beS32 p.distance ++
    beS8 p.edges ++ knobFields p.feedKnob ++ knobFields p.spindleKnob

/-- The record of a READ_STATE parameter. -/
def recordOf (s : State) : Nat → Option (List Byte)
  | 0 => some (bankRecord s)
  | 1 => some (coolantRecord s)
  | 2 => some (growthRecord s)
  | 3 => some (pendantRecord s)
  | _ => none

/-- R169. -/
def readStateService (body : List Byte) (s : State) : State :=
  match recordOf s (byteAt body 0) with
  | some r => answer .readState .ok r s
  | none => refuse .readState .badParam s

/-- R174. -/
def flagsBody (s : State) : List Byte := flagSetBytes s.flags.raised ++ flagSetBytes s.flags.mask

/-! ## The stages of an expiry at which a record is taken -/

/-- The link controller's services, taken after its handling of R5 (log entry 14). -/
def linkService (k : ServiceKind) (body : List Byte) (order : List ClampAxis) (s : State) : State :=
  match k with
  | .start => judged k body (startService body) s
  | .stop => judged k body stopService s
  | .recover => judged k body (recoverService order) s
  | .restart => judged k body restartService s
  | .readInfo | .writeSegment | .readSegment | .commit | .store | .readFlags | .clearFlags | .setMask
  | .coolantTrigger | .coolantStop | .compTrigger | .growthZero | .clearFault | .readState => s

/-- The services taken with the blocks' work. -/
def blockService (k : ServiceKind) (body : List Byte) (order : List ClampAxis) (s : State) : State :=
  match k with
  | .writeSegment => judged k body (writeService body) s
  | .commit => judged k body (commitService body order) s
  | .store => judged k body storeService s
  | .clearFlags => judged k body (clearFlagsService body) s
  | .setMask => judged k body (setMaskService body) s
  | .coolantTrigger => judged k body (coolantTriggerService body) s
  | .coolantStop => judged k body coolantStopService s
  | .compTrigger => judged k body (compTriggerService body) s
  | .growthZero => judged k body growthZeroService s
  | .clearFault => judged k body (clearFaultService body) s
  | .start | .stop | .recover | .restart | .readInfo | .readSegment | .readFlags | .readState => s

/-- R175: the body of a CLEAR_FLAGS that passed is the raised set as the echo frame leaves, after all that has been taken
with the clear. -/
def refreshedAnswer (s : State) : State :=
  if s.sent.answer.kind = ServiceKind.clearFlags.code ∧ s.sent.answer.status = .ok then
    answer .clearFlags .ok (flagSetBytes s.flags.raised) s
  else s

/-- What is answered as the echo frame leaves, after every other work (R160, R163, R169, R174, R175). -/
def readService (k : ServiceKind) (body : List Byte) (s : State) : State :=
  match k with
  | .readInfo => judged k body (fun s => answer .readInfo .ok (infoBody s) s) s
  | .readSegment => judged k body (readSegmentService body) s
  | .readFlags => judged k body (fun s => answer .readFlags .ok (flagsBody s) s) s
  | .readState => judged k body (readStateService body) s
  | .clearFlags => refreshedAnswer s
  | .writeSegment | .commit | .store | .start | .stop | .recover | .restart | .setMask | .coolantTrigger
  | .coolantStop | .compTrigger | .growthZero | .clearFault => s

/-- R159, step 1. -/
def answerUnknown (kind : Byte) (s : State) : State :=
  { s with sent := { s.sent with answer := { kind := kind, status := .unknownKind, body := [] } } }

end Sys2Proof.Machine
end

