-- ==== Sys2Proof/Machine/Frames.lean ====
section
/-! DEFINITION. What leaves the part at an expiry: the drive frame (R8, 11.4) and the echo frame (R11, 11.3), as fields
and as bytes, and the values that blocks read of one another afterwards (1.5.4). -/

namespace Sys2Proof.Machine

/-! ## Drive frame -/

/-- R8: the drive frame of an expiry. -/
def driveFrameOf (s : State) : DriveFrame :=
  { enable := s.link.enable, setpoints := s.axes.map AxisChannel.out, spindle := s.gear.output }

/-- 11.4: the drive frame's 27 bytes. -/
def driveWire (d : DriveFrame) : List Byte :=
  withCrc (mark d.enable ++ beS32 d.setpoints.x ++ beS32 d.setpoints.y ++ beS32 d.setpoints.z ++
    beS32 d.setpoints.w ++ beS32 d.setpoints.b ++ beS32 d.spindle)

/-! ## Echo frame -/

/-- The clamp state field of an axis; 8 is ABSENT, also for W (R40, R81). -/
def clampField (s : State) (a : Axis) : Byte :=
  match a.clamp with
  | none => 8
  | some c => if clampAbsent s c then 8 else BitVec.ofNat 8 (s.clamps.get c).state.code

/-- R39, R40: an axis report. `rotaryB` is B's mode before the expiry's own COMMIT, which acts from the next tracking
expiry on (R42). -/
def axisReport (rotaryB : Bool) (s : State) (a : Axis) : AxisReport :=
  let ch := s.axes.get a
  { setpoint := ch.out, actual := reducePos (rotaryB && decide (a = .b)) (actualRaw s a), offset := ch.offset, clampCode := clampField s a,
    envelopeInd := ch.envelopeInd, rateInd := ch.rateInd, granted := decide (s.pendant.grant = .granted a),
    heldClamped := ch.heldClamped }

/-- R11: the echo frame of an expiry whose taken frame, if any, is `taken`. -/
def echoFrameOf (rotaryB : Bool) (taken : Option CycleFrame) (s : State) : EchoFrame :=
  { seq := s.link.takenSeq.getD 0, fresh := taken.isSome, attention := attention s, link := s.link.state,
    cause := s.link.cause, axes := PerAxis.of (axisReport rotaryB s), spindleOut := s.gear.output,
    spindleActual := actualSpeed s, spindleEffective := reportedSpeed s, gear := s.gear.state,
    engaged := s.gear.engaged, target := s.gear.target, driven := drivenValues s,
    program := s.coolant.running.map Run.program, depth := s.coolant.queue.length, selector := s.pendant.selector,
    enable := s.pendant.enable, feedOverride := s.pendant.feedOverride, spindleOverride := s.pendant.spindleOverride,
    button5 := s.pendant.buttons.b5, button6 := s.pendant.buttons.b6, button7 := s.pendant.buttons.b7,
    button8 := s.pendant.buttons.b8, applied := s.comp.applied, answer := s.sent.answer }

/-- Four marks in one byte, bit 0 first. The unused bits are sent 0 (DESIGN CHOICE, unsafe; log entry 38). -/
def markBits (b0 b1 b2 b3 : Bool) : List Byte :=
  let bit (b : Bool) (k : Nat) : Nat := if b then 2 ^ k else 0
  be8 (bit b0 0 + bit b1 1 + bit b2 2 + bit b3 3)

/-- 11.3: an axis report's fourteen bytes. -/
def axisReportWire (r : AxisReport) : List Byte :=
  beS32 r.setpoint ++ beS32 r.actual ++ beS32 r.offset ++ [r.clampCode] ++
    markBits r.envelopeInd r.rateInd r.granted r.heldClamped

/-- 11.3: the actual motor speed's two bytes; free outside the field (log entry 12). -/
def motorSpeedField (v : Int) : List Byte :=
  if -32768 ≤ v ∧ v ≤ 32767 then beS16 v else be16 (Config.wideMotorSpeed v).toNat

/-- 11.3: the echo frame's bytes. -/
def echoWire (e : EchoFrame) : List Byte :=
  withCrc (be8 0xE1 ++ [e.seq] ++ markBits e.fresh e.attention false false ++ be8 e.link.code ++ be8 e.cause.code ++
    allAxes.flatMap (fun a => axisReportWire (e.axes.get a)) ++
    beS16 e.spindleOut ++ motorSpeedField e.spindleActual ++ beS16 e.spindleEffective ++
    be8 e.gear.code ++ be8 (rangeCode e.engaged) ++ be8 (rangeCode e.target) ++
    outputBits e.driven ++ programByte e.program ++ be8 e.depth ++
    be8 e.selector.code ++ be8 e.enable.code ++ be8 e.feedOverride ++ be8 e.spindleOverride ++
    markBits e.button5 e.button6 e.button7 e.button8 ++ beS16 e.applied ++
    [e.answer.kind] ++ be8 e.answer.status.code ++ be8 e.answer.body.length ++ e.answer.body)

/-! ## What stands as the drive frame leaves -/

/-- 1.5.4: the values as they stand when a drive frame leaves. -/
def seenNow (s : State) : Seen :=
  { out := s.axes.map AxisChannel.out, step := s.axes.map AxisChannel.step, frozen := s.axes.map AxisChannel.frozen,
    clampState := PerClamp.of fun a => (s.clamps.get a).state,
    reading := PerClamp.of (readingNow s),
    grant := s.pendant.grant, permitMark := s.pendant.permitMark, commandMark := s.pendant.commandMark,
    droop := s.comp.droop, applied := s.comp.applied, spindleOverride := s.pendant.spindleOverride,
    spindleStopped := spindleStopped s, spindleAtSpeed := spindleAtSpeed s,
    tsc := ⟨s.inputs.tsc.getD 0, (readingOf s.inputs.readings.an1).2⟩ }

/-- R8, R11: the drive frame leaves, and an echo frame in every resulting link state but OFFLINE. -/
def framesLeave (rotaryB : Bool) (taken : Option CycleFrame) (s : State) : State :=
  { s with
    sent := { s.sent with
      drive := some (driveFrameOf s)
      echo := if s.link.state = .offline then none else some (echoFrameOf rotaryB taken s) }
    seen := seenNow s
    link := { s.link with returnFresh := false, enableSent := s.link.enable } }

end Sys2Proof.Machine
end

