-- ==== Sys2Proof/Machine/Reset.lean ====
section
/-! DEFINITION. The two resets: hardware reset with the load of the non-volatile store (R20, R168), and RESTART (R19),
each block taking the values of its reset table (R20, R43, R62, R84, R108, R131, R147, R158, R171, R177). -/

namespace Sys2Proof.Machine

/-- R168: a stored table is absent, or its signature is the CRC of its bytes. -/
def storedGood (img : Option Image) : Bool :=
  match img with
  | some i => decide (crc16 i.bytes = i.signature)
  | none => true

/-- R168: the contents of the non-volatile store are good. -/
def nvGood (n : NonVolatile) : Bool := n.complete && allTables.all fun t => storedGood (n.tables.get t)

/-- R168, R171: the table store after the load. -/
def loadedStore (n : NonVolatile) : TableStore :=
  { staging := stagingZero, active := if nvGood n then n.tables else noTables, nv := n,
    state := if nvGood n then .valid else .invalid, snapshot := none }

/-- R20: a hardware reset. The non-volatile store's contents are kept, and so is the queue of commands that wait. -/
def hardwareReset (estopOpen phaseA phaseB : Bool) (s : State) : State :=
  startLube
    { State.reset with
      store := loadedStore s.store.nv
      flags := { raised := if nvGood s.store.nv then 0 else Flag.nvInvalid.bit, mask := 0 }
      pendant := pendantReset phaseA phaseB
      inputs := inputsReset estopOpen
      pending := s.pending }

/-- R84: a clamp sequencer after RESTART. Where the clamp group is still PENDING no debounced reading stands yet (R150),
so the clamp is DROPPED until the group completes (DEDUCED, unsafe; log entry 8). While the clamp and hydraulic table is
absent the sequencer keeps its state, DROPPED staying DROPPED (R81), less what the way to OFFLINE drops (R77). -/
def restartedClamp (s : State) (a : ClampAxis) : ClampSequencer :=
  { clampReset with state :=
      if clampInForce s a then if readingNow s a = .clampedConfirm then .clamped else .dropped
      else if clampAbsent s a then .dropped
      else droppedState (s.clamps.get a).state }

/-- R108: the gearbox block after RESTART, before its re-evaluation. -/
def restartedGear (s : State) : Gearbox :=
  if s.inputs.forkComplete then { gearReset with forks := forkValues s, forksDelivered := true } else gearReset

/-- R19: every block takes the values of its reset table for RESTART. The handwheel's phase pair stays the pair last seen,
which stands for the pair of the first sample after RESTART (R147; DESIGN CHOICE, unsafe; log entry 41). -/
def restart (s : State) : State :=
  droopWork (startLube (reevaluate
    { s with
      link := { linkReset with period := s.link.period, returns := s.link.returns }
      axes := PerAxis.of fun a => { axisReset with out := actualPos s a }
      comp := compReset
      clamps := PerClamp.of (restartedClamp s)
      bank := bankReset
      gear := restartedGear s
      coolant := coolantReset
      pendant := pendantReset s.pendant.phaseA s.pendant.phaseB
      store := { s.store with staging := stagingZero, snapshot := none } }))

end Sys2Proof.Machine
end

