-- ==== Sys2Proof/Machine/Expiry.lean ====
section
/-! DEFINITION. The expiry of the cycle timer (R5 and 95_what_each_step_holds.md): the order in which the blocks' work
is taken, as far as the manual fixes it, and the whole expiry. -/

namespace Sys2Proof.Machine

/-! ## The tasks of an expiry -/

/-- A number for each task, none twice. -/
def taskCode : Task → Nat
  | .forkFirst => 0
  | .fork .aLeft => 1
  | .fork .aRight => 2
  | .fork .bLeft => 3
  | .fork .bRight => 4
  | .pendantFirst => 5
  | .selector => 6
  | .enableSwitch => 7
  | .panel => 8
  | .clampFirst => 9
  | .pressure => 10
  | .clamp a => 11 + a.index
  | .gearLeave => 15
  | .rangeRequest => 16
  | .gearStage => 17
  | .spindleOutput => 18
  | .spindleHeld => 19
  | .spindleAnnounce => 20
  | .stoppedTimer => 21
  | .window => 22
  | .droop => 23
  | .absorb => 24
  | .handwheel => 25
  | .strayCommand => 26
  | .axes => 27
  | .coolantStopBit => 28
  | .coolantRequests => 29
  | .coolantWait => 30
  | .travel => 31
  | .tank => 32
  | .knobs => 33
  | .service => 34

/-- Every task once, in the order used for those that an expiry's given order does not mention. -/
def allTasks : List Task :=
  [.forkFirst, .fork .aLeft, .fork .aRight, .fork .bLeft, .fork .bRight, .pendantFirst, .selector, .enableSwitch,
   .panel, .pressure, .clamp .x, .clamp .y, .clamp .z, .clamp .b, .clampFirst, .gearLeave, .rangeRequest, .gearStage,
   .spindleOutput, .spindleHeld, .spindleAnnounce, .stoppedTimer, .service, .window, .droop, .absorb, .handwheel,
   .strayCommand, .axes, .coolantStopBit, .coolantRequests, .coolantWait, .travel, .tank, .knobs]

/-- What a table's COMMIT waits for: its new fields act from the next sample or expiry on (log entry 19). -/
def commitPrerequisites (t : TableId) : List Task :=
  match t with
  | .envelope => [.axes, .handwheel, .clamp .x, .clamp .y, .clamp .z, .clamp .b]
  | .compensation => [.window, .droop]
  | .clamp => [.pressure, .clamp .x, .clamp .y, .clamp .z, .clamp .b]
  | .programs => [.coolantStopBit]
  | .triggers => [.coolantStopBit, .tank, .coolantWait]
  | .gear | .pendant | .inputs => []

/-- A service record as it is taken: its kind and its body. -/
abbrev Record := Option (ServiceKind × List Byte)

/-- What a CLEAR_FAULT waits for: a clamp that it makes UNCLAMPED is treated so from the next expiry (R80). -/
def clearPrerequisites (c : Option Claimant) : List Task :=
  match c with
  | some (.clamp a) => [.clamp a]
  | some .gearbox | none => []

/-- What a record waits for (R80, R119; log entry 19). -/
def servicePrerequisites (r : Record) : List Task :=
  match r with
  | some (.commit, body) =>
    match tableOfId (byteAt body 0) with
    | some t => commitPrerequisites t
    | none => []
  | some (.clearFault, body) => clearPrerequisites (clearTargetOf (byteAt body 0))
  | some (.coolantTrigger, _) | some (.coolantStop, _) => [.coolantStopBit]
  | _ => []

/-- R119: the rising request bits come after the frame's own coolant service or commit. -/
def requestsAfterService (r : Record) : Bool :=
  match r with
  | some (.commit, body) => decide (byteAt body 0 = 4) || decide (byteAt body 0 = 5)
  | some (.coolantTrigger, _) | some (.coolantStop, _) => true
  | _ => false

/-- R58: the window's work comes after a GROWTH_ZERO. -/
def windowAfterService (r : Record) : Bool :=
  match r with
  | some (.growthZero, _) => true
  | _ => false

/-- The tasks that the manual places before a task at one expiry. The end of DRAINING is tested before the spindle output
is formed, so the expiry that enters DRAINING compares no sample yet (DEDUCED from R97 and R98, unsafe; log entry 33). The
clamps' first values come after the clamps' own work (DEDUCED, unsafe; log entry 9), and the run value after the output
and the forks (DEDUCED, unsafe; log entry 26). -/
def prerequisites (r : Record) (t : Task) : List Task :=
  match t with
  | .fork _ => [.forkFirst]
  | .selector | .enableSwitch | .panel => [.pendantFirst]
  | .clampFirst => [.clamp .x, .clamp .y, .clamp .z, .clamp .b]
  | .rangeRequest | .gearStage => [.gearLeave]
  | .spindleOutput => [.gearLeave, .rangeRequest, .gearStage]
  | .spindleAnnounce => [.spindleOutput, .forkFirst, .fork .aLeft, .fork .aRight, .fork .bLeft, .fork .bRight]
  | .window => if windowAfterService r then [.service] else []
  | .handwheel => [.absorb]
  | .axes => [.handwheel, .absorb]
  | .coolantRequests => .coolantStopBit :: if requestsAfterService r then [.service] else []
  | .service => servicePrerequisites r
  | .forkFirst | .pendantFirst | .pressure | .clamp _ | .gearLeave | .spindleHeld | .stoppedTimer | .droop | .absorb
  | .strayCommand | .coolantStopBit | .coolantWait | .travel | .tank | .knobs => []

/-- Whether a task stands in a list, by its number. -/
def listed (t : Task) (done : List Task) : Bool := done.any fun u => taskCode u == taskCode t

/-- A task at the end of a list that does not hold it. -/
def placeTask (t : Task) (done : List Task) : List Task := if listed t done then done else done ++ [t]

/-- A task placed after everything that comes before it; `fuel` bounds the chain of prerequisites. -/
def visit (r : Record) : Nat → Task → List Task → List Task
  | 0, t, done => placeTask t done
  | fuel + 1, t, done =>
    if listed t done then done
    else placeTask t ((prerequisites r t).foldl (fun acc u => visit r fuel u acc) done)

/-- The order of an expiry's tasks: the given order, completed and brought into line with the manual's own order
(log entry 1). -/
def schedule (r : Record) (order : List Task) : List Task :=
  (order ++ allTasks).foldl (fun acc t => visit r 8 t acc) []

/-! ## The work of one task -/

/-- What the blocks are given at an expiry. -/
structure Turn where
  /-- the taken frame, where its fields are presented (R6) -/
  taken : Option CycleFrame
  /-- that frame or, at a miss, the last taken one, whose values are held (R7) -/
  held : Option CycleFrame
  record : Record
  claimOrder : List ClampAxis
  /-- which of several trigger sources that fall together is taken first -/
  triggerOrder : List TriggerSource
  /-- the cycle period, in ms, that ends at this expiry -/
  periodMs : Nat

/-- Work on the taken frame's fields, where they are presented. -/
def onFrame (f : Option CycleFrame) (work : CycleFrame → State → State) (s : State) : State :=
  match f with
  | some f => work f s
  | none => s

/-- One task's work. A task is taken whole, the five axis channels' among them, so a CLEAR_FLAGS of the expiry falls
before or after all that it raises (DESIGN CHOICE, unsafe; log entry 37). -/
def runTask (c : Turn) (t : Task) (s : State) : State :=
  match t with
  | .forkFirst => forkFirstWork s
  | .fork i => forkWork i s
  | .pendantFirst => pendantFirstWork s
  | .selector => delivered handSelector s
  | .enableSwitch => delivered handEnable s
  | .panel => delivered handPanel s
  | .clampFirst => clampFirstWork c.claimOrder s
  | .pressure => pressureWork s
  | .clamp a => clampWork c.held a s
  | .gearLeave => gearLeaveWork s
  | .rangeRequest => onFrame c.taken rangeRequestWork s
  | .gearStage => gearStageWork s
  | .spindleOutput => spindleOutputWork c.held s
  | .spindleHeld => spindleHeldWork c.taken s
  | .spindleAnnounce => spindleAnnounceWork s
  | .stoppedTimer => stoppedTimerWork c.periodMs s
  | .window => windowWork s
  | .droop => droopWork s
  | .absorb => if s.link.state = .running then onFrame c.taken absorbWork s else s
  | .handwheel => handwheelWork c.taken c.held s
  | .strayCommand => strayWork s
  | .axes => axesWork s
  | .coolantStopBit => onFrame c.taken stopBitWork s
  | .coolantRequests => onFrame c.taken requestsWork s
  | .coolantWait => coolantWaitWork s
  | .travel => travelWork s
  | .tank => tankWork s
  | .knobs => knobsWork s
  | .service =>
    match c.record with
    | some (k, body) => blockService k body c.claimOrder s
    | none => s

/-- A task, and with it what it announces: R118 takes a source at the moment it announces, before any later work. -/
def taskTurn (c : Turn) (s : State) (t : Task) : State := settleTriggers c.triggerOrder (runTask c t s)

/-- Every task in turn. -/
def runTasks (c : Turn) (order : List Task) (s : State) : State := (schedule c.record order).foldl (taskTurn c) s

/-! ## The whole expiry -/

/-- A ceiling's remaining milliseconds less those that have passed; it stays started until its own expiry. -/
def lessMs (ms : Nat) (t : Option Nat) : Option Nat := t.map (· - ms)

/-- A running phase after the time since the previous expiry; the tick that ends a pause is a command of its own. -/
def elapsedPhase (c : ClockSpan) : Phase → Phase
  | .wait n => .wait (n - c.ms)
  | .pause n => .pause (if n = 0 then 0 else max 1 (n - c.ticks))

/-- The interval timer after the time since the previous expiry. -/
def elapsedLube (c : ClockSpan) : LubeTimer → LubeTimer
  | .running n => .running (n - c.seconds)
  | .stopped => .stopped
  | .held n => .held n

/-- A clamp's ceiling after the time since the previous expiry. -/
def elapsedClamp (c : ClockSpan) (q : ClampSequencer) : ClampSequencer := { q with ceiling := lessMs c.ms q.ceiling }

/-- 1.5.3: what the timers that run beside the cycle timer have counted since the previous expiry (log entry 3). -/
def passTime (c : ClockSpan) (s : State) : State :=
  { s with
    link := { s.link with activation := lessMs c.ms s.link.activation }
    clamps := PerClamp.of fun a => elapsedClamp c (s.clamps.get a)
    gear := { s.gear with drainCeiling := lessMs c.ms s.gear.drainCeiling,
                          shiftCeiling := lessMs c.ms s.gear.shiftCeiling, wiggle := lessMs c.ms s.gear.wiggle }
    coolant := { s.coolant with
      running := s.coolant.running.map fun r => { r with phase := elapsedPhase c r.phase }
      lube := elapsedLube c s.coolant.lube } }

/-- The record of a taken frame; a kind byte of 0 is none, and so is one without a code (answered before). -/
def recordOfFrame (f : Option CycleFrame) : Record :=
  match f with
  | some f => (serviceKindOf f.kind.toNat).map fun k => (k, f.body)
  | none => none

/-- Whether a taken frame carries a record of unknown kind (R159, step 1). -/
def unknownRecord (f : CycleFrame) : Bool := decide (f.kind ≠ 0) && (serviceKindOf f.kind.toNat).isNone

/-- The link controller's stage of an expiry: its handling of R5, then its services and the judging of the kind. A
LINK_STOP of the stage is taken in it, before the blocks' work (R5, R118). -/
def linkStage (taken : Option CycleFrame) (r : Record) (order : List ClampAxis) (s : State) : State :=
  let s := linkWork taken order { s with sent := { s.sent with answer := noAnswer } }
  let s := match taken with
    | some f => if unknownRecord f then answerUnknown f.kind s else s
    | none => s
  settleTriggers [] (match r with
    | some (k, body) => linkService k body order s
    | none => s)

/-- The last taken frame, as the slot holds it (R7). -/
def heldFrame (l : Link) : Option CycleFrame :=
  match l.slot with
  | some sl => if sl.used then some sl.frame else none
  | none => none

/-- R6: a frame's fields where the resulting link state presents them. -/
def presented (st : LinkState) (f : Option CycleFrame) : Option CycleFrame := if st.presentsAll then f else none

/-- The inputs' samples and what enters the command histories and the restart interlock, before the blocks' tasks, so
before the first delivery to the pendant unit too (DESIGN CHOICE, unsafe; log entry 43). The mark of R92 ends with the
expiry that set it. -/
def intakeStage (inp : ExpiryInput) (taken : Option CycleFrame) (s : State) : State :=
  let s := conditionerWork inp.samples { s with gear := { s.gear with forkLoss := false } }
  let s := if s.link.state = .running then pushCommands taken s else s
  interlockWork taken s

/-- What leaves the part ends the expiry: the read services are answered, the frames leave, and a RESTART that was
taken re-initialises the part (R19). -/
def closeStage (rotaryB : Bool) (taken : Option CycleFrame) (r : Record) (s : State) : State :=
  let s := match r with
    | some (k, body) => readService k body s
    | none => s
  let due := restartTaken s
  let s := framesLeave rotaryB taken s
  if due then restart s else s

/-- What the blocks are given at an expiry, by the link state that results from the link controller's stage. -/
def turnOf (before : Period) (taken : Option CycleFrame) (r : Record) (inp : ExpiryInput) (s : State) : Turn :=
  { taken := presented s.link.state taken, held := heldFrame s.link, record := r, claimOrder := inp.claimOrder,
    triggerOrder := inp.triggers, periodMs := before.ms }

/-! ## Events that fall with a CLEAR_FLAGS (R175) -/

/-- The work of an event between expiries, as of its own command. -/
def betweenWork : Between → State → State
  | .frameArrival bytes order => frameArrives bytes order
  | .valveBankGrant => tryGrant
  | .unclampCeiling a => clampCeilingEnds .unclamping a
  | .clampCeiling a => clampCeilingEnds .clamping a
  | .dropCeiling a => clampCeilingEnds (.clampWait true) a
  | .drainCeiling => drainCeilingEnds
  | .shiftCeiling => shiftCeilingEnds
  | .wiggleTimer => wiggleEnds
  | .waitCeiling => waitCeilingEnds
  | .pauseEnd => pauseEnds
  | .queuedProgramStart => startNext
  | .lubeInterval => lubeIntervalEnds
  | .returnFrame bytes => returnArrives bytes
  | .activationCeiling => activationEnds
  | .estopOpening => estopOpens
  | .estopClosing => estopCloses
  | .handwheelEdge a b => phasesSeen a b
  | .storeVerified => storeDone
  | .storeMismatch => storeFails
  | .storeCeiling => storeFails

/-- An event, and with it what it announces (R120). -/
def betweenTurn (s : State) (e : Between) : State := settleTriggers [] (betweenWork e s)

/-- The echo frame `e`, formed at the end of an expiry's work, as it leaves in state `s`: what is reported as it stands
when the frame leaves is `s`'s (R39, R40, R90, R126, R144, R173, R175), the rest is the expiry's own (R11). -/
def lateEcho (s : State) (e : EchoFrame) : EchoFrame :=
  { e with
    attention := attention s
    axes := PerAxis.of fun a => { e.axes.get a with
      clampCode := clampField s a, granted := decide (s.pendant.grant = .granted a) }
    gear := s.gear.state, engaged := s.gear.engaged, target := s.gear.target, driven := drivenValues s,
    program := s.coolant.running.map Run.program, depth := s.coolant.queue.length, selector := s.pendant.selector,
    enable := s.pendant.enable, feedOverride := s.pendant.feedOverride, spindleOverride := s.pendant.spindleOverride,
    button5 := s.pendant.buttons.b5, button6 := s.pendant.buttons.b6, button7 := s.pendant.buttons.b7,
    button8 := s.pendant.buttons.b8, answer := s.sent.answer }

/-- R175: the events that fall with the taking of a CLEAR_FLAGS and follow it, then its answer and the echo frame that
carries it. They come after the expiry's other work and the drive frame (DESIGN CHOICE, unsafe; log entry 42). -/
def afterClearStage (r : Record) (events : List Between) (s : State) : State :=
  match r with
  | some (.clearFlags, _) =>
    let s := refreshedAnswer (events.foldl betweenTurn s)
    { s with sent := { s.sent with echo := s.sent.echo.map (lateEcho s) } }
  | some _ | none => s

/-- R5: the expiry of the cycle timer. Any other event that falls with it is taken wholly before or after it, as 95 has
each step indivisible (log entry 42). -/
def expiry (inp : ExpiryInput) (s : State) : State :=
  let before := s.link.period
  let s := passTime inp.clock s
  let taken := takenFrame s.link
  let r := recordOfFrame taken
  let s := linkStage taken r inp.claimOrder s
  let c := turnOf before taken r inp s
  afterClearStage r inp.afterClear
    (closeStage (isRotary s .b) taken r (runTasks c inp.order (intakeStage inp c.taken s)))

end Sys2Proof.Machine
end

