-- ==== Sys2Proof/Machine/Commands.lean ====
section
/-! DEFINITION. The meaning of each command: one definition per row of the command table, over everything but the
queue of waiting commands. An expiry's work takes each trigger as it is announced (R118); what another command announces is
taken as its work ends (R120). -/

namespace Sys2Proof.Machine

/-- Every command with a meaning: its work, then withheld demand judged and announced triggers taken. -/
def settled (s : State) : Host.Outcome State Fault Refusal := .next (settleTriggers [] s)

/-! ## Resets, frames and the cycle timer -/

/-- HARDWARE_RESET (R20). -/
def execHardwareReset (estopOpen phaseA phaseB : Bool) (s : State) : Host.Outcome State Fault Refusal :=
  .next (hardwareReset estopOpen phaseA phaseB s)

/-- CYCLE_FRAME_ARRIVAL (R1). -/
def execCycleFrameArrival (bytes : List Byte) (claimOrder : List ClampAxis) (s : State) :
    Host.Outcome State Fault Refusal :=
  settled (frameArrives bytes claimOrder s)

/-- CYCLE_TIMER_EXPIRY (R5). -/
def execCycleTimerExpiry (inp : ExpiryInput) (s : State) : Host.Outcome State Fault Refusal :=
  .next (expiry inp s)

/-- RETURN_FRAME_ARRIVAL (R9). -/
def execReturnFrameArrival (bytes : List Byte) (s : State) : Host.Outcome State Fault Refusal :=
  settled (returnArrives bytes s)

/-! ## The valve bank and the ceilings -/

/-- VALVE_BANK_GRANT (R65). -/
def execValveBankGrant (s : State) : Host.Outcome State Fault Refusal := settled (tryGrant s)

/-- UNCLAMP_CEILING_EXPIRY (R73). -/
def execUnclampCeilingExpiry (a : ClampAxis) (s : State) : Host.Outcome State Fault Refusal :=
  settled (clampCeilingEnds .unclamping a s)

/-- CLAMP_CEILING_EXPIRY (R76). -/
def execClampCeilingExpiry (a : ClampAxis) (s : State) : Host.Outcome State Fault Refusal :=
  settled (clampCeilingEnds .clamping a s)

/-- DROP_CEILING_EXPIRY (R78). -/
def execDropCeilingExpiry (a : ClampAxis) (s : State) : Host.Outcome State Fault Refusal :=
  settled (clampCeilingEnds (.clampWait true) a s)

/-- DRAIN_CEILING_EXPIRY (R98). -/
def execDrainCeilingExpiry (s : State) : Host.Outcome State Fault Refusal := settled (drainCeilingEnds s)

/-- SHIFT_CEILING_EXPIRY (R102). -/
def execShiftCeilingExpiry (s : State) : Host.Outcome State Fault Refusal := settled (shiftCeilingEnds s)

/-- WIGGLE_TIMER_EXPIRY (R100). -/
def execWiggleTimerExpiry (s : State) : Host.Outcome State Fault Refusal := settled (wiggleEnds s)

/-! ## The coolant sequencer's timers and queue -/

/-- WAIT_CEILING_EXPIRY (R117). -/
def execWaitCeilingExpiry (s : State) : Host.Outcome State Fault Refusal := settled (waitCeilingEnds s)

/-- PAUSE_END (R115). -/
def execPauseEnd (s : State) : Host.Outcome State Fault Refusal := settled (pauseEnds s)

/-- QUEUED_PROGRAM_START (R116). -/
def execQueuedProgramStart (s : State) : Host.Outcome State Fault Refusal := settled (startNext s)

/-- LUBE_INTERVAL_EXPIRY (R124). -/
def execLubeIntervalExpiry (s : State) : Host.Outcome State Fault Refusal := settled (lubeIntervalEnds s)

/-! ## Activation, E-stop, handwheel -/

/-- ACTIVATION_CEILING_EXPIRY (R14). -/
def execActivationCeilingExpiry (s : State) : Host.Outcome State Fault Refusal := settled (activationEnds s)

/-- ESTOP_OPENING (R152, R17). -/
def execEstopOpening (s : State) : Host.Outcome State Fault Refusal := settled (estopOpens s)

/-- ESTOP_CLOSING (R152). -/
def execEstopClosing (s : State) : Host.Outcome State Fault Refusal := settled (estopCloses s)

/-- HANDWHEEL_EDGE (R133). -/
def execHandwheelEdge (phaseA phaseB : Bool) (s : State) : Host.Outcome State Fault Refusal :=
  settled (phasesSeen phaseA phaseB s)

/-! ## The end of a STORE -/

/-- STORE_VERIFIED (R167). -/
def execStoreVerified (s : State) : Host.Outcome State Fault Refusal := settled (storeDone s)

/-- STORE_MISMATCH (R167). -/
def execStoreMismatch (s : State) : Host.Outcome State Fault Refusal := settled (storeFails s)

/-- STORE_CEILING_EXPIRY (R167). -/
def execStoreCeilingExpiry (s : State) : Host.Outcome State Fault Refusal := settled (storeFails s)

/-! ## Service records (R159)

A record as a command of its own is the stage of an expiry at which its owner takes it. Services are taken in every
link state but OFFLINE, where nothing happens (log entry 5). -/

/-- A service taken by `act`. -/
def served (act : State → State) (s : State) : Host.Outcome State Fault Refusal :=
  if s.link.state = .offline then .next s else settled (act s)

/-- READ_INFO (R160). -/
def execReadInfo (body : List Byte) (s : State) : Host.Outcome State Fault Refusal :=
  served (readService .readInfo body) s

/-- WRITE_SEGMENT (R162). -/
def execWriteSegment (body : List Byte) (s : State) : Host.Outcome State Fault Refusal :=
  served (blockService .writeSegment body []) s

/-- READ_SEGMENT (R163). -/
def execReadSegment (body : List Byte) (s : State) : Host.Outcome State Fault Refusal :=
  served (readService .readSegment body) s

/-- COMMIT (R164, R165). -/
def execCommit (body : List Byte) (claimOrder : List ClampAxis) (s : State) : Host.Outcome State Fault Refusal :=
  served (blockService .commit body claimOrder) s

/-- STORE (R166). -/
def execStore (body : List Byte) (s : State) : Host.Outcome State Fault Refusal :=
  served (blockService .store body []) s

/-- START (R13). -/
def execStart (body : List Byte) (s : State) : Host.Outcome State Fault Refusal :=
  served (linkService .start body []) s

/-- A STOP that ends RUNNING, its LINK_STOP taken as at an expiry before the gearbox's reaction to STOPPING (R15, R103). -/
def stopNow (body : List Byte) (s : State) : State :=
  if s.link.state = .running then gearLeaveWork (settleTriggers [] (linkService .stop body [] s))
  else linkService .stop body [] s

/-- STOP (R15). -/
def execStop (body : List Byte) (s : State) : Host.Outcome State Fault Refusal := served (stopNow body) s

/-- RECOVER (R18). -/
def execRecover (body : List Byte) (claimOrder : List ClampAxis) (s : State) : Host.Outcome State Fault Refusal :=
  served (linkService .recover body claimOrder) s

/-- A RESTART that passes its checks re-initialises the part (R19). -/
def restartNow (body : List Byte) (s : State) : State :=
  let s := linkService .restart body [] { s with sent := { s.sent with answer := noAnswer } }
  if restartTaken s then restart s else s

/-- RESTART (R19). -/
def execRestart (body : List Byte) (s : State) : Host.Outcome State Fault Refusal := served (restartNow body) s

/-- READ_FLAGS (R174). -/
def execReadFlags (body : List Byte) (s : State) : Host.Outcome State Fault Refusal :=
  served (readService .readFlags body) s

/-- CLEAR_FLAGS (R175). -/
def execClearFlags (body : List Byte) (s : State) : Host.Outcome State Fault Refusal :=
  served (blockService .clearFlags body []) s

/-- SET_MASK (R176). -/
def execSetMask (body : List Byte) (s : State) : Host.Outcome State Fault Refusal :=
  served (blockService .setMask body []) s

/-- COOLANT_TRIGGER (R122). -/
def execCoolantTrigger (body : List Byte) (s : State) : Host.Outcome State Fault Refusal :=
  served (blockService .coolantTrigger body []) s

/-- COOLANT_STOP (R121). -/
def execCoolantStop (body : List Byte) (s : State) : Host.Outcome State Fault Refusal :=
  served (blockService .coolantStop body []) s

/-- COMP_TRIGGER (R57). -/
def execCompTrigger (body : List Byte) (s : State) : Host.Outcome State Fault Refusal :=
  served (blockService .compTrigger body []) s

/-- GROWTH_ZERO (R58). -/
def execGrowthZero (body : List Byte) (s : State) : Host.Outcome State Fault Refusal :=
  served (blockService .growthZero body []) s

/-- CLEAR_FAULT (R170, R80, R105). -/
def execClearFault (body : List Byte) (s : State) : Host.Outcome State Fault Refusal :=
  served (blockService .clearFault body []) s

/-- READ_STATE (R169). -/
def execReadState (body : List Byte) (s : State) : Host.Outcome State Fault Refusal :=
  served (readService .readState body) s

/-- The kind byte of an UNKNOWN_KIND record (log entry 18). -/
def uncodedKind (n : Fin 237) : Byte := BitVec.ofNat 8 (19 + n.val)

/-- UNKNOWN_KIND (R159, step 1). -/
def execUnknownKind (n : Fin 237) (_body : List Byte) (s : State) : Host.Outcome State Fault Refusal :=
  served (answerUnknown (uncodedKind n)) s

end Sys2Proof.Machine
end

