-- ==== Sys2Proof/Machine/Dispatch.lean ====
section
/-! DEFINITION. Which meaning each command has: one arm per constructor. -/

namespace Sys2Proof.Machine

def exec (i : Instr) (s : State) : Host.Outcome State Fault Refusal :=
  match i with
  | .hardwareReset estopOpen phaseA phaseB => Sys2Proof.Machine.execHardwareReset estopOpen phaseA phaseB s
  | .cycleFrameArrival bytes claimOrder => Sys2Proof.Machine.execCycleFrameArrival bytes claimOrder s
  | .cycleTimerExpiry inp => Sys2Proof.Machine.execCycleTimerExpiry inp s
  | .valveBankGrant => Sys2Proof.Machine.execValveBankGrant s
  | .unclampCeilingExpiry a => Sys2Proof.Machine.execUnclampCeilingExpiry a s
  | .clampCeilingExpiry a => Sys2Proof.Machine.execClampCeilingExpiry a s
  | .dropCeilingExpiry a => Sys2Proof.Machine.execDropCeilingExpiry a s
  | .drainCeilingExpiry => Sys2Proof.Machine.execDrainCeilingExpiry s
  | .shiftCeilingExpiry => Sys2Proof.Machine.execShiftCeilingExpiry s
  | .wiggleTimerExpiry => Sys2Proof.Machine.execWiggleTimerExpiry s
  | .waitCeilingExpiry => Sys2Proof.Machine.execWaitCeilingExpiry s
  | .pauseEnd => Sys2Proof.Machine.execPauseEnd s
  | .queuedProgramStart => Sys2Proof.Machine.execQueuedProgramStart s
  | .lubeIntervalExpiry => Sys2Proof.Machine.execLubeIntervalExpiry s
  | .returnFrameArrival bytes => Sys2Proof.Machine.execReturnFrameArrival bytes s
  | .activationCeilingExpiry => Sys2Proof.Machine.execActivationCeilingExpiry s
  | .estopOpening => Sys2Proof.Machine.execEstopOpening s
  | .estopClosing => Sys2Proof.Machine.execEstopClosing s
  | .handwheelEdge phaseA phaseB => Sys2Proof.Machine.execHandwheelEdge phaseA phaseB s
  | .storeVerified => Sys2Proof.Machine.execStoreVerified s
  | .storeMismatch => Sys2Proof.Machine.execStoreMismatch s
  | .storeCeilingExpiry => Sys2Proof.Machine.execStoreCeilingExpiry s
  | .readInfo body => Sys2Proof.Machine.execReadInfo body s
  | .writeSegment body => Sys2Proof.Machine.execWriteSegment body s
  | .readSegment body => Sys2Proof.Machine.execReadSegment body s
  | .commit body claimOrder => Sys2Proof.Machine.execCommit body claimOrder s
  | .store body => Sys2Proof.Machine.execStore body s
  | .start body => Sys2Proof.Machine.execStart body s
  | .stop body => Sys2Proof.Machine.execStop body s
  | .recover body claimOrder => Sys2Proof.Machine.execRecover body claimOrder s
  | .restart body => Sys2Proof.Machine.execRestart body s
  | .readFlags body => Sys2Proof.Machine.execReadFlags body s
  | .clearFlags body => Sys2Proof.Machine.execClearFlags body s
  | .setMask body => Sys2Proof.Machine.execSetMask body s
  | .coolantTrigger body => Sys2Proof.Machine.execCoolantTrigger body s
  | .coolantStop body => Sys2Proof.Machine.execCoolantStop body s
  | .compTrigger body => Sys2Proof.Machine.execCompTrigger body s
  | .growthZero body => Sys2Proof.Machine.execGrowthZero body s
  | .clearFault body => Sys2Proof.Machine.execClearFault body s
  | .readState body => Sys2Proof.Machine.execReadState body s
  | .unknownKind n body => Sys2Proof.Machine.execUnknownKind n body s

end Sys2Proof.Machine
end

