-- ==== Sys2Proof/Safety.lean ====
section
/-! DEFINITION. The laws of the device, as conditions on a state: what the manual calls a law, and what its rules say
of the states between two commands. -/

namespace Sys2Proof.Machine

/-- R8: drive enable is ON in ACTIVATING, RUNNING, STOPPING and LINK_LOST, and OFF otherwise. -/
def EnableLaw (s : State) : Prop := s.link.enable = s.link.state.enabled

/-- R116, R120: the program queue holds at most four programs, none twice and never the one that is running; it is empty
where none is running, and a program runs from a table that is present. -/
def CoolantLaw (s : State) : Prop :=
  s.coolant.queue.length ≤ 4 ∧ s.coolant.queue.Nodup ∧
    (∀ r, s.coolant.running = some r → r.program ∉ s.coolant.queue ∧ present s .programs = true) ∧
    (s.coolant.running = none → s.coolant.queue = [])

/-- R77, R104, R112: what HALTED and OFFLINE leave at rest. -/
def RestLaw (s : State) : Prop :=
  s.link.state.atRest = true →
    s.coolant.running = none ∧ s.coolant.queue = [] ∧ s.coolant.requested = outputsOff ∧
    s.bank.queue = [] ∧ s.bank.holder = none ∧
    (∀ a, (s.clamps.get a).state = .clamped ∨ (s.clamps.get a).state = .dropped ∨ (s.clamps.get a).state = .fault) ∧
    (s.gear.state = .engaged ∨ s.gear.state = .unknown ∨ s.gear.state = .fault)

/-- R38, R135: outside the moving states no axis has an offset, a frozen base or a step. -/
def StillLaw (s : State) : Prop :=
  s.link.state.moving = false →
    ∀ a, (s.axes.get a).offset = 0 ∧ (s.axes.get a).frozen = none ∧ (s.axes.get a).step = 0

/-- R138: an axis is granted in RUNNING alone. -/
def GrantLaw (s : State) : Prop := ∀ a, s.pendant.grant = .granted a → s.link.state = .running

/-- R87: the spindle output is 0 unless the gear state is ENGAGED, STOPPING_SPINDLE or SHIFTING, and 0 outside the
moving states. -/
def SpindleLaw (s : State) : Prop :=
  s.gear.output ≠ 0 →
    s.link.state.moving = true ∧
      (s.gear.state = .engaged ∨ s.gear.state = .stoppingSpindle ∨ s.gear.state = .shifting)

/-- R111, R120: between commands withheld demand is what the conditions say, and no trigger is left untaken. -/
def SettledLaw (s : State) : Prop := s.coolant.announced = [] ∧ s.coolant.withheld = demandNow s

/-- A clamp that waits for the bank. -/
def ClampState.waits : ClampState → Bool
  | .unclampWait | .clampWait _ => true
  | .clamped | .unclamping | .unclamped | .clamping | .dropped | .fault => false

/-- A clamp in transit. -/
def ClampState.transits : ClampState → Bool
  | .unclamping | .clamping => true
  | .clamped | .unclampWait | .unclamped | .clampWait _ | .dropped | .fault => false

/-- A claimant waits for the bank, or is in transit (R64, R65). -/
def waits (s : State) : Claimant → Bool
  | .clamp a => (s.clamps.get a).state.waits
  | .gearbox => decide (s.gear.state = .valveWait)

def transits (s : State) : Claimant → Bool
  | .clamp a => (s.clamps.get a).state.transits
  | .gearbox => decide (s.gear.state = .shifting)

/-- A range change is in progress. -/
def GearState.changing : GearState → Bool
  | .stoppingSpindle | .draining | .valveWait | .shifting => true
  | .engaged | .unknown | .fault => false

/-- R64, R65: the queue holds each waiting claimant once, and the one claimant in transit is the holder. -/
def BankLaw (s : State) : Prop :=
  s.bank.queue.Nodup ∧ (∀ c, c ∈ s.bank.queue ↔ waits s c = true) ∧
    (∀ c, s.bank.holder = some c ↔ transits s c = true)

/-- R95, R103: a change in progress has a target and a gear table. -/
def ChangeLaw (s : State) : Prop :=
  s.gear.state.changing = true → s.gear.target.isSome = true ∧ present s .gear = true

/-- R13: with drive enable ON every active table is present. -/
def TablesLaw (s : State) : Prop := s.link.state.enabled = true → allPresent s = true

/-- R81: an ABSENT clamp neither waits for the bank nor is in transit. -/
def AbsentLaw (s : State) : Prop :=
  ∀ a, clampAbsent s a = true → (s.clamps.get a).state.waits = false ∧ (s.clamps.get a).state.transits = false

/-- R161: every staging copy has its table's size. -/
def StagingLaw (s : State) : Prop := ∀ t, (s.store.staging.get t).length = tableSizes.get t

/-- R135: every offset lies within ± the active pendant table's offset limit. -/
def OffsetLimitLaw (s : State) : Prop :=
  ∀ a bs, activeBytes s .pendant = some bs → (s.axes.get a).offset.natAbs ≤ offsetLimit bs

/-- R55: the magnitude of the applied growth is at most the active compensation table's max correction. -/
def GrowthLaw (s : State) : Prop :=
  ∀ bs, activeBytes s .compensation = some bs → s.comp.applied.natAbs ≤ compMax bs

/-- R91: the block's copy of the fork switches is that of the debounced switches, and MIDDLE until the first ones. -/
def ForkCopyLaw (s : State) : Prop :=
  if s.gear.forksDelivered then ∀ i v, (s.inputs.forks.get i).value = some v → s.gear.forks.get i = v
  else s.gear.forks = ⟨false, false, false, false⟩

/-- R92: the gear state is ENGAGED(r) only while the fork reading shows r's pattern. -/
def EngagedLaw (s : State) : Prop :=
  s.gear.state = .engaged → ∃ r, s.gear.engaged = some r ∧ shownRange s = some r

/-- R10, R14: in a moving state a drive frame with drive enable ON has left. -/
def EnableSentLaw (s : State) : Prop := s.link.state.moving = true → s.link.enableSent = true

/-- R68, R79: a clamp that was UNCLAMPED when the latest drive frame with drive enable ON left is so between two
expiries. -/
def SeenClampLaw (s : State) : Prop :=
  s.link.state.enabled = true → s.link.enableSent = true →
    ∀ a, s.seen.clampState.get a = .unclamped → (s.clamps.get a).state = .unclamped

/-- R136: a wait or a grant is on the axis that the selector names, between two expiries and as the latest drive frame with
drive enable ON left it. -/
def SelectorLaw (s : State) : Prop :=
  ∀ a, s.pendant.selector ≠ .axis a →
    s.pendant.grant ≠ .waiting a ∧ s.pendant.grant ≠ .granted a ∧
    (s.link.state.enabled = true → s.link.enableSent = true → s.seen.grant ≠ .waiting a ∧ s.seen.grant ≠ .granted a)

/-- R138: the clamp of a granted axis is UNCLAMPED or ABSENT, and the grant stood when the previous drive frame left. -/
def GrantClampLaw (s : State) : Prop :=
  ∀ a, s.pendant.grant = .granted a → s.seen.grant = .granted a ∧
    ∀ c, a.clamp = some c → clampAbsent s c = false → (s.clamps.get c).state = .unclamped

/-- The laws that every command keeps together. -/
structure Laws (s : State) : Prop where
  enable : EnableLaw s
  coolant : CoolantLaw s
  rest : RestLaw s
  still : StillLaw s
  grant : GrantLaw s
  spindle : SpindleLaw s
  settled : SettledLaw s
  bank : BankLaw s
  change : ChangeLaw s
  tables : TablesLaw s
  absent : AbsentLaw s
  staging : StagingLaw s
  offsetLimit : OffsetLimitLaw s
  growth : GrowthLaw s
  forkCopy : ForkCopyLaw s
  engaged : EngagedLaw s
  enableSent : EnableSentLaw s
  seenClamp : SeenClampLaw s
  selector : SelectorLaw s
  grantClamp : GrantClampLaw s

end Sys2Proof.Machine
end

