-- ==== Sys2Proof/Certificates/Slice0/Obligations.lean ====
section
/-! DEFINITION. The statements for the provers, in the order of OBLIGATIONS.json. Where a statement asks for a settled
state (`SettledLaw`), it is the invariant of `SettledLawKept`: between commands no announced trigger is left and
withheld demand is what its conditions say, so that a command's own effect is all that happens. -/

open Sys2Proof Sys2Proof.Machine

/-! ## The queue, resets and laws -/

/-- The block takes the front command of its queue and runs it on the state with the rest; with none it idles. -/
def Obligations.StepRunsFrontCommand : Prop :=
  (∀ (c : Instr) (rest : List Instr) (s : State), s.pending = c :: rest →
    Machine.step s = exec c { s with pending := rest }) ∧
  (∀ s : State, s.pending = [] → Machine.step s = .next s)

/-- No command stops the part, and none touches the model's own queue of waiting commands, which HARDWARE_RESET keeps too
(DESIGN CHOICE, log entries 28 and 30). -/
def Obligations.EveryCommandCompletes : Prop :=
  ∀ (c : Instr) (s : State), ∃ t, exec c s = .next t ∧ t.pending = s.pending

/-- The state right after a first hardware reset, by the reset tables of the blocks, and every law holds of it. What the
tables leave to the lines and to the store, and the model's own fields, are log entries 6, 17 and 28. -/
def Obligations.ResetTablesHold : Prop :=
  let r := State.reset
  r.link = { state := .offline, period := .ms4, slot := none, lastSeq := none, missCount := 0, chainMiss := 0,
             enable := false, cause := .none, returns := none, activation := none, returnFresh := false,
             enableSent := false, takenSeq := none } ∧
  (∀ a, r.axes.get a = { out := 0, step := 0, older := 0, newer := 0, frozen := none, offset := 0,
                         envelopeInd := false, rateInd := false, heldClamped := false }) ∧
  r.comp = { droop := 0, applied := 0, windowSum := 0, windowCount := 0, windowFaulted := false, lastSum := none,
             lastMeasurement := none, updates := .count 0, hardFirst := false, stoppedMs := 255000 } ∧
  (∀ a, r.clamps.get a = { state := .dropped, ceiling := none, settle := 0 }) ∧
  r.bank = { queue := [], holder := none, pressureOk := false, disagree := 0 } ∧
  r.gear = { state := .unknown, engaged := none, target := none, next := none, lastRequest := none,
             forks := ⟨false, false, false, false⟩, forksDelivered := false, forkLoss := false, settle := 0,
             drainCeiling := none, shiftCeiling := none, wiggle := none, phasePositive := true, output := 0,
             interlock := true, runValue := 0 } ∧
  r.coolant = { requested := ⟨false, false, false, false, false, false⟩, running := none, queue := [],
                baseline := ⟨false, false, false, false, false⟩, withheld := false, travel := 0, lube := .stopped,
                tank := .unset, announced := [] } ∧
  drivenValues r = ⟨false, false, false, false, false, false⟩ ∧ drainForce r = false ∧ pilotOpen r = false ∧
  shiftSolenoids r = ⟨false, false, false, false⟩ ∧ (∀ a, clampSolenoid r a = false) ∧
  r.pendant = { selector := .off, increment := .x1, enable := .released,
                buttons := ⟨false, false, false, false, false, false, false, false⟩, phaseA := false, phaseB := false,
                edges := 0, distance := 0, grant := .free, permitMark := false, stillCount := 0, commandMark := false,
                feedKnob := ⟨none, none, 0⟩, spindleKnob := ⟨none, none, 0⟩, feedOverride := 100,
                spindleOverride := 100, delivered := false } ∧
  (∀ a, r.inputs.clamps.get a = ⟨⟨none, none, 0⟩, ⟨none, none, 0⟩⟩) ∧
  (∀ i, r.inputs.forks.get i = ⟨none, none, 0⟩) ∧ r.inputs.selector = ⟨none, none, 0⟩ ∧
  r.inputs.increment = ⟨none, none, 0⟩ ∧ r.inputs.enable = ⟨none, none, 0⟩ ∧
  (∀ d ∈ r.inputs.buttons.toList, d = ⟨none, none, 0⟩) ∧
  r.inputs.clampComplete = false ∧ r.inputs.forkComplete = false ∧ r.inputs.pendantComplete = false ∧
  r.inputs.clampsDelivered = false ∧ r.inputs.readings = ⟨none, none, none, none, none, none⟩ ∧
  r.inputs.hydraulic = none ∧ r.inputs.tsc = none ∧ r.inputs.tankTemp = none ∧ r.inputs.estopOpen = false ∧
  (∀ t, r.store.staging.get t = List.replicate (tableSizes.get t) 0) ∧ (∀ t, r.store.active.get t = none) ∧
  (∀ t, r.store.nv.tables.get t = none) ∧ r.store.nv.complete = false ∧ r.store.state = .invalid ∧
  r.store.snapshot = none ∧ r.flags = ⟨BitVec.twoPow 35 34, 0⟩ ∧
  r.sent = ⟨none, none, ⟨0, .ok, []⟩⟩ ∧ r.pending = [] ∧ Laws r

/-- R8: drive enable is ON exactly in ACTIVATING, RUNNING, STOPPING and LINK_LOST, after every step. -/
def Obligations.EnableLawKept : Prop :=
  ∀ s t : State, EnableLaw s → Machine.step s = .next t → EnableLaw t

/-- R116, R120: the queue of programs holds at most four, none twice, never the running one, and is empty where none
runs, after every step. -/
def Obligations.CoolantQueueLawKept : Prop :=
  ∀ s t : State, CoolantLaw s → Machine.step s = .next t → CoolantLaw t

/-- R38, R135: no offset, frozen base or step outside the moving states, and every offset within ± the offset limit,
after every step. -/
def Obligations.OffsetLawKept : Prop :=
  (∀ s t : State, StillLaw s → Machine.step s = .next t → StillLaw t) ∧
  (∀ s t : State, StillLaw s → OffsetLimitLaw s → Machine.step s = .next t → OffsetLimitLaw t)

/-- R136, R138: an axis is granted in RUNNING alone, its clamp is UNCLAMPED or ABSENT, and no axis is waiting or granted
but the one that the selector names, after every step. The last two go together with what the drive frame that left last
carried. -/
def Obligations.GrantLawKept : Prop :=
  (∀ s t : State, GrantLaw s → Machine.step s = .next t → GrantLaw t) ∧
  (∀ s t : State, EnableLaw s ∧ GrantLaw s ∧ EnableSentLaw s ∧ SeenClampLaw s ∧ SelectorLaw s ∧ GrantClampLaw s →
    Machine.step s = .next t → EnableSentLaw t ∧ SeenClampLaw t ∧ SelectorLaw t ∧ GrantClampLaw t)

/-- R87, R91, R92: the spindle output is 0 unless ENGAGED, STOPPING_SPINDLE or SHIFTING in a moving link state, the copy
of the fork switches is that of the debounced ones, and the gear state is ENGAGED(r) only while it shows r's pattern,
after every step. -/
def Obligations.SpindleLawKept : Prop :=
  (∀ s t : State, SpindleLaw s → Machine.step s = .next t → SpindleLaw t) ∧
  (∀ s t : State, ForkCopyLaw s ∧ EngagedLaw s → Machine.step s = .next t → ForkCopyLaw t ∧ EngagedLaw t)

/-- R64 to R66, R77, R81: the queue holds the waiting claimants, the holder is the one claimant in transit, HALTED and
OFFLINE leave the bank, the gear change and the coolant at rest, and an ABSENT clamp takes no part, after every
step. -/
def Obligations.BankLawKept : Prop :=
  ∀ s t : State, BankLaw s ∧ ChangeLaw s ∧ RestLaw s ∧ TablesLaw s ∧ AbsentLaw s → Machine.step s = .next t →
    BankLaw t ∧ ChangeLaw t ∧ RestLaw t ∧ TablesLaw t ∧ AbsentLaw t

/-- R111, R120: withheld demand is what its conditions say and no announced trigger is left, after every step. -/
def Obligations.SettledLawKept : Prop :=
  ∀ s t : State, SettledLaw s → Machine.step s = .next t → SettledLaw t

/-- R161, R165: every staging copy keeps its table's size after every step, and an active copy changes only by a
hardware reset, by a COMMIT that passes in STANDBY, which makes it the staging copy, and in two bytes by a GROWTH_ZERO. -/
def Obligations.StagingLawKept : Prop :=
  (∀ s t : State, StagingLaw s → Machine.step s = .next t → StagingLaw t) ∧
  (∀ (s t : State) (q : TableId), Machine.step s = .next t → t.store.active.get q ≠ s.store.active.get q →
    (∃ estop a b rest, s.pending = .hardwareReset estop a b :: rest) ∨
    (t.link.state = .standby ∧ t.sent.answer = ⟨4, .ok, be8 q.index ++ be16 (crc16 (s.store.staging.get q)).toNat⟩ ∧
      t.store.active.get q = some ⟨s.store.staging.get q, crc16 (s.store.staging.get q)⟩) ∨
    (q = .compensation ∧ (t.link.state = .standby ∨ t.link.state = .running) ∧ t.sent.answer.kind = 16 ∧
      t.sent.answer.status = .ok ∧
      ∃ img bs, s.store.active.compensation = some img ∧ t.store.active.compensation = some ⟨bs, crc16 bs⟩ ∧
        (img.bytes.length = 53 → bs.length = 53 ∧ ∀ i, i ≠ 42 → i ≠ 43 → bs[i]? = img.bytes[i]?)))

/-- R20, R131, R168, R171, R177: a hardware reset puts every block at its reset values, keeps the non-volatile store and
loads it where it is good; the lube interval timer is held with the full interval of a loaded table, and stopped where
that is 0 or the table absent. The E-stop level and the handwheel phases are those of the lines. -/
def Obligations.HardwareResetLoadsStore : Prop :=
  ∀ (estop a b : Bool) (s : State), ∃ t, exec (.hardwareReset estop a b) s = .next t ∧
    t.link = State.reset.link ∧ t.axes = State.reset.axes ∧ t.comp = State.reset.comp ∧
    t.clamps = State.reset.clamps ∧ t.bank = State.reset.bank ∧ t.gear = State.reset.gear ∧
    t.pendant = { State.reset.pendant with phaseA := a, phaseB := b } ∧
    t.inputs = { State.reset.inputs with estopOpen := estop } ∧
    t.coolant = { State.reset.coolant with lube := (match t.store.active.triggers with
      | some img => if lubeInterval img.bytes = 0 then .stopped else .held (lubeInterval img.bytes)
      | none => .stopped) } ∧
    t.store.staging = State.reset.store.staging ∧ t.store.nv = s.store.nv ∧ t.store.snapshot = none ∧
    t.flags.mask = 0 ∧ t.seen = State.reset.seen ∧ t.sent = State.reset.sent ∧ t.pending = s.pending ∧
    ((s.store.nv.complete = true ∧
        ∀ id img, s.store.nv.tables.get id = some img → crc16 img.bytes = img.signature) →
      t.store.active = s.store.nv.tables ∧ t.store.state = .valid ∧ t.flags.raised = 0) ∧
    (¬ (s.store.nv.complete = true ∧
        ∀ id img, s.store.nv.tables.get id = some img → crc16 img.bytes = img.signature) →
      t.store.active = State.reset.store.active ∧ t.store.state = .invalid ∧
        t.flags.raised = BitVec.twoPow 35 34)

/-! ## Frames on the two links -/

/-- R1, R179: which strings of bytes are accepted as cycle frames. -/
def Obligations.CycleFrameChecks : Prop :=
  ∀ bytes : List Byte, (cycleFrameOf bytes).isSome = true ↔
    2 ≤ bytes.length ∧ (crc16 (bytes.take (bytes.length - 2))).toNat = u16At bytes (bytes.length - 2) ∧
    byteAt bytes 0 = 0xC1 ∧ byteAt bytes 32 ≤ 48 ∧ bytes.length = 35 + byteAt bytes 32 ∧
    (byteAt bytes 31 = 0 → byteAt bytes 32 = 0)

/-- 11.2: every cycle frame whose fields fit reads back from its bytes. -/
def Obligations.CycleFrameRoundTrip : Prop :=
  ∀ f : CycleFrame,
    (∀ a, -2147483648 ≤ (f.axes.get a).command ∧ (f.axes.get a).command ≤ 2147483647) →
    -32768 ≤ f.spindle → f.spindle ≤ 32767 → f.body.length ≤ 48 → (f.kind = 0 → f.body = []) →
    cycleFrameOf (cycleWire f) = some f

/-- 11.3, 11.4: every return frame whose values fit reads back from its bytes; and each field of a drive frame and of an
echo frame stands at the offset of its table, behind them the CRC. The bits that 11.3 gives no meaning are 0 (log entry 38),
and an actual motor speed beyond two bytes has a free field (log entry 12), of which nothing is said. -/
def Obligations.ReturnFrameRoundTrip : Prop :=
  (∀ r : Returns,
    (∀ a, -2147483648 ≤ (r.axes.get a).actual ∧ (r.axes.get a).actual ≤ 2147483647) →
    -2147483648 ≤ r.spindle.actual → r.spindle.actual ≤ 2147483647 →
    returnsOf (returnWire r) = some r) ∧
  (∀ d : DriveFrame, (∀ a, -2147483648 ≤ d.setpoints.get a ∧ d.setpoints.get a ≤ 2147483647) →
    -2147483648 ≤ d.spindle → d.spindle ≤ 2147483647 →
    (driveWire d).length = 27 ∧ byteAt (driveWire d) 0 = (if d.enable then 1 else 0) ∧
    (∀ a, s32At (driveWire d) (1 + 4 * a.index) = d.setpoints.get a) ∧ s32At (driveWire d) 21 = d.spindle ∧
    u16At (driveWire d) 25 = (crc16 ((driveWire d).take 25)).toNat) ∧
  (∀ e : EchoFrame,
    (∀ a, -2147483648 ≤ (e.axes.get a).setpoint ∧ (e.axes.get a).setpoint ≤ 2147483647 ∧
      -2147483648 ≤ (e.axes.get a).actual ∧ (e.axes.get a).actual ≤ 2147483647 ∧
      -2147483648 ≤ (e.axes.get a).offset ∧ (e.axes.get a).offset ≤ 2147483647) →
    (∀ x ∈ [e.spindleOut, e.spindleEffective, e.applied], -32768 ≤ x ∧ x ≤ 32767) →
    (∀ n ∈ [e.depth, e.feedOverride, e.spindleOverride, e.answer.body.length], n < 256) →
    let w := echoWire e
    let bit (b : Bool) (k : Nat) : Nat := if b then 2 ^ k else 0
    w.length = 99 + e.answer.body.length ∧ byteAt w 0 = 0xE1 ∧ byteAt w 1 = e.seq.toNat ∧
    byteAt w 2 = bit e.fresh 0 + bit e.attention 1 ∧ byteAt w 3 = e.link.code ∧ byteAt w 4 = e.cause.code ∧
    (∀ a, s32At w (5 + 14 * a.index) = (e.axes.get a).setpoint ∧ s32At w (9 + 14 * a.index) = (e.axes.get a).actual ∧
      s32At w (13 + 14 * a.index) = (e.axes.get a).offset ∧ byteAt w (17 + 14 * a.index) = (e.axes.get a).clampCode.toNat ∧
      byteAt w (18 + 14 * a.index) = bit (e.axes.get a).envelopeInd 0 + bit (e.axes.get a).rateInd 1 +
        bit (e.axes.get a).granted 2 + bit (e.axes.get a).heldClamped 3) ∧
    s16At w 75 = e.spindleOut ∧
    (-32768 ≤ e.spindleActual → e.spindleActual ≤ 32767 → s16At w 77 = e.spindleActual) ∧
    s16At w 79 = e.spindleEffective ∧ byteAt w 81 = e.gear.code ∧
    byteAt w 82 = (match e.engaged with
      | some r => r.index + 1
      | none => 0) ∧
    byteAt w 83 = (match e.target with
      | some r => r.index + 1
      | none => 0) ∧
    byteAt w 84 = bit e.driven.flood 0 + bit e.driven.tscPump 1 + bit e.driven.tscDrain 2 + bit e.driven.mist 3 +
      bit e.driven.conveyor 4 + bit e.driven.lube 5 ∧
    byteAt w 85 = (match e.program with
      | some p => p.val
      | none => 255) ∧
    byteAt w 86 = e.depth ∧ byteAt w 87 = e.selector.code ∧ byteAt w 88 = e.enable.code ∧
    byteAt w 89 = e.feedOverride ∧ byteAt w 90 = e.spindleOverride ∧
    byteAt w 91 = bit e.button5 0 + bit e.button6 1 + bit e.button7 2 + bit e.button8 3 ∧ s16At w 92 = e.applied ∧
    byteAt w 94 = e.answer.kind.toNat ∧ byteAt w 95 = e.answer.status.code ∧
    byteAt w 96 = e.answer.body.length ∧ (w.drop 97).take e.answer.body.length = e.answer.body ∧
    u16At w (97 + e.answer.body.length) = (crc16 (w.take (97 + e.answer.body.length))).toNat) ∧
  [LinkState.offline, .standby, .activating, .running, .stopping, .linkLost, .halted].map LinkState.code =
    [0, 1, 2, 3, 4, 5, 6] ∧
  [HaltCause.none, .estop, .driveFault, .driveChainLost, .followingError].map HaltCause.code = [0, 1, 2, 3, 4] ∧
  [GearState.engaged, .unknown, .stoppingSpindle, .draining, .valveWait, .shifting, .fault].map GearState.code =
    [0, 1, 2, 3, 4, 5, 6] ∧
  [Selector.off, .axis .x, .axis .y, .axis .z, .axis .w, .axis .b].map Selector.code = [0, 1, 2, 3, 4, 5] ∧
  [Enable.released, .held, .clenched].map Enable.code = [0, 1, 2] ∧
  [Status.ok, .accepted, .busy, .wrongState, .badParam, .badTable, .badSignature, .unknownKind,
    .tableAbsent].map Status.code = [0, 1, 2, 3, 4, 5, 6, 7, 8]

/-- R1 to R3: bytes that fail the checks change nothing; outside OFFLINE an accepted frame goes UNUSED into the slot,
its number becomes the last one, and SEQ_GAP and FRAME_OVERWRITTEN are raised where the rules say. -/
def Obligations.AcceptedFrameFillsSlot : Prop :=
  ∀ (bytes : List Byte) (order : List ClampAxis) (s : State), SettledLaw s →
    (cycleFrameOf bytes = none → exec (.cycleFrameArrival bytes order) s = .next s) ∧
    (∀ f : CycleFrame, cycleFrameOf bytes = some f → s.link.state ≠ .offline →
      exec (.cycleFrameArrival bytes order) s = .next { s with
        link := { s.link with slot := some ⟨f, false⟩, lastSeq := some f.seq }
        flags := { s.flags with raised := s.flags.raised |||
          (match s.link.lastSeq with
            | some n => if f.seq = n + 1 then 0 else Flag.seqGap.bit
            | none => 0) |||
          (match s.link.slot with
            | some sl => if sl.used then 0 else Flag.frameOverwritten.bit
            | none => 0) } })

/-- R12, R78: in OFFLINE an acceptance enters STANDBY, and every dropped clamp of a present record begins its recovery;
with the E-stop open the part goes on to HALTED. -/
def Obligations.AcceptanceEndsOffline : Prop :=
  ∀ (bytes : List Byte) (order : List ClampAxis) (f : CycleFrame) (s : State), SettledLaw s → RestLaw s →
    cycleFrameOf bytes = some f → s.link.state = .offline →
    ∃ t, exec (.cycleFrameArrival bytes order) s = .next t ∧
      t.link.slot = some ⟨f, false⟩ ∧ t.link.lastSeq = some f.seq ∧ t.link.missCount = 0 ∧ t.link.enable = false ∧
      (s.inputs.estopOpen = false → t.link.state = .standby ∧ t.link.cause = s.link.cause ∧
        ∀ a, (s.clamps.get a).state = .dropped → clampInForce s a = true → s.inputs.clampsDelivered = true →
          ((t.clamps.get a).state = .clampWait true ∧ .clamp a ∈ t.bank.queue) ∨
          ((t.clamps.get a).state = .clamping ∧ t.bank.holder = some (.clamp a))) ∧
      (s.inputs.estopOpen = true → t.link.state = .halted ∧ t.link.cause = .estop ∧
        isRaised .halted t = true ∧ (∀ a, (t.clamps.get a).state = (s.clamps.get a).state) ∧
        t.bank.queue = [] ∧ t.bank.holder = none)

/-- R9, R10, R17: bytes that fail the checks change nothing; a good return frame replaces the latest return values, and
counts against drive-chain misses once a drive frame with drive enable ON has left; a station in FAULT halts the part
while drive enable is ON. -/
def Obligations.ReturnFrameReplacesOrHalts : Prop :=
  ∀ (bytes : List Byte) (s : State), SettledLaw s →
    (returnsOf bytes = none → exec (.returnFrameArrival bytes) s = .next s) ∧
    (∀ r : Returns, returnsOf bytes = some r → s.link.state ≠ .activating →
      (s.link.state.enabled = true → anyStation (· = .fault) r = false) →
      exec (.returnFrameArrival bytes) s = .next { s with
        link := { s.link with returns := some r, returnFresh := s.link.returnFresh || s.link.enableSent } }) ∧
    (∀ r : Returns, returnsOf bytes = some r → s.link.state.enabled = true → anyStation (· = .fault) r = true →
      ∃ t, exec (.returnFrameArrival bytes) s = .next t ∧ t.link.state = .halted ∧ t.link.cause = .driveFault ∧
        t.link.enable = false ∧ t.link.returns = some r ∧ isRaised .halted t = true ∧ t.gear.output = 0 ∧
        t.bank.queue = [] ∧ t.bank.holder = none ∧ t.coolant.requested = outputsOff ∧ t.coolant.running = none ∧
        (∀ a, (t.clamps.get a).state = droppedState (s.clamps.get a).state) ∧
        (∀ a, (t.axes.get a).offset = 0 ∧ (t.axes.get a).frozen = none ∧ (t.axes.get a).step = 0 ∧
          (t.axes.get a).out = (s.axes.get a).out))

/-- R14, R37: in ACTIVATING a return frame with all six stations READY, after a drive frame with drive enable ON has
left, enters RUNNING with every axis at its actual position. -/
def Obligations.AllReadyEntersRunning : Prop :=
  ∀ (bytes : List Byte) (r : Returns) (s : State), SettledLaw s → returnsOf bytes = some r →
    s.link.state = .activating → s.link.enableSent = true → allStations (· = .ready) r = true →
    ∃ t, exec (.returnFrameArrival bytes) s = .next t ∧ t.link.state = .running ∧ t.link.activation = none ∧
      t.link.enable = s.link.enable ∧ t.link.returns = some r ∧
      (∀ a, (t.axes.get a).out = reducePos (isRotary s a) (r.axes.get a).actual ∧ (t.axes.get a).step = 0 ∧
        (t.axes.get a).older = (r.axes.get a).actual ∧ (t.axes.get a).newer = (r.axes.get a).actual ∧
        (t.axes.get a).heldClamped = false ∧ (t.axes.get a).offset = (s.axes.get a).offset) ∧
      t.gear = { s.gear with interlock := true, lastRequest := none } ∧
      t.pendant = { s.pendant with stillCount := 0 } ∧ t.clamps = s.clamps ∧ t.bank = s.bank ∧
      t.coolant = s.coolant ∧ t.comp = s.comp ∧ t.inputs = s.inputs ∧ t.store = s.store ∧ t.flags = s.flags ∧
      t.sent = s.sent

/-! ## The expiry of the cycle timer -/

/-- R5, R8, R11, R40, R56, R90, R118, R126, R144: an expiry runs every block's work once, each after its prerequisites
and otherwise in the order given (log entry 1), between the link controller's stage with the intake and what leaves the
part; the inputs are sampled before the blocks' work (log entry 43), and with a CLEAR_FLAGS (kind 11) alone the events that
fall with it come last (R175; log entry 42). The triggers that a piece of work announces are taken as it ends, before the
next; those of the link controller's stage before the blocks' work. In STANDBY an UNUSED frame without a service record is taken, and echoed with FRESH and
no answer. What leaves the part carries the state after the expiry's work: the drive frame of R8, and in every link
state but OFFLINE the echo frame with the axis, spindle, coolant and pendant reports and the applied growth (R11, R40,
R56, R90, R126, R144), where B's position is reduced by its mode before a COMMIT of the expiry (R42). -/
def Obligations.ExpiryTakesUnusedFrame : Prop :=
  (∀ (inp : ExpiryInput) (s l u : State) (taken : Option CycleFrame) (r : Record) (c : Turn),
    l = passTime inp.clock s → taken = takenFrame l.link → r = recordOfFrame taken →
    u = linkStage taken r inp.claimOrder l → c = turnOf s.link.period taken r inp u →
    SettledLaw u ∧ exec (.cycleTimerExpiry inp) s = .next (afterClearStage r inp.afterClear
      (closeStage (isRotary u .b) taken r
        ((schedule r inp.order).foldl (fun t task => settleTriggers inp.triggers (runTask c task t))
          (intakeStage inp c.taken u)))) ∧
    ((∀ f, taken = some f → f.kind ≠ 11) → ∀ t, afterClearStage r inp.afterClear t = t)) ∧
  (∀ (r : Record) (order : List Task), (schedule r order).Perm allTasks ∧
    ∀ t, ∀ p ∈ prerequisites r t, ∃ before between after,
      schedule r order = before ++ p :: between ++ t :: after) ∧
  (∀ (inp : ExpiryInput) (f : CycleFrame) (s : State), s.link.state = .standby →
    s.link.slot = some ⟨f, false⟩ → f.kind = 0 →
    ∃ t e d, exec (.cycleTimerExpiry inp) s = .next t ∧ t.link.state = .standby ∧
      t.link.slot = some ⟨f, true⟩ ∧ t.link.missCount = 0 ∧ t.link.lastSeq = s.link.lastSeq ∧
      t.link.period = s.link.period ∧ t.link.cause = s.link.cause ∧ t.store = s.store ∧
      t.sent.echo = some e ∧ e.seq = f.seq ∧ e.fresh = true ∧ e.link = .standby ∧ e.cause = s.link.cause ∧
      e.answer = ⟨0, .ok, []⟩ ∧
      t.sent.drive = some d ∧ d.enable = t.link.enable ∧ d.spindle = 0 ∧
      ∀ a, d.setpoints.get a = actualPos s a) ∧
  (∀ (rotaryB : Bool) (taken : Option CycleFrame) (r : Record) (s t : State), t = closeStage rotaryB taken r s →
    (∃ d, t.sent.drive = some d ∧ d.enable = s.link.enable ∧ d.spindle = s.gear.output ∧
      (∀ a, d.setpoints.get a = (s.axes.get a).out) ∧ t.seen.out = d.setpoints) ∧
    (s.link.state = .offline → t.sent.echo = none) ∧
    (s.link.state ≠ .offline → ∃ e, t.sent.echo = some e ∧ e.seq = s.link.takenSeq.getD 0 ∧ e.fresh = taken.isSome ∧
      (e.attention = true ↔ s.flags.raised &&& s.flags.mask ≠ 0) ∧ e.link = s.link.state ∧ e.cause = s.link.cause ∧
      (∀ a, (e.axes.get a).setpoint = (s.axes.get a).out ∧
        (s.link.returns = none → (e.axes.get a).actual = 0) ∧
        (∀ v, s.link.returns = some v → (e.axes.get a).actual =
          (if rotaryB = true ∧ a = .b then (v.axes.get a).actual % 360000 else (v.axes.get a).actual)) ∧
        (e.axes.get a).offset = (s.axes.get a).offset ∧
        (a.clamp = none → (e.axes.get a).clampCode = 8) ∧
        (∀ c, a.clamp = some c → (e.axes.get a).clampCode.toNat =
          (if clampAbsent s c then 8 else (s.clamps.get c).state.code)) ∧
        (e.axes.get a).envelopeInd = (s.axes.get a).envelopeInd ∧ (e.axes.get a).rateInd = (s.axes.get a).rateInd ∧
        (e.axes.get a).heldClamped = (s.axes.get a).heldClamped ∧
        ((e.axes.get a).granted = true ↔ s.pendant.grant = .granted a)) ∧
      e.spindleOut = s.gear.output ∧ (s.link.returns = none → e.spindleActual = 0) ∧
      (∀ v, s.link.returns = some v → e.spindleActual = v.spindle.actual) ∧
      (∀ bs q, activeBytes s .gear = some bs → s.gear.engaged = some q →
        s.gear.state = .engaged ∨ s.gear.state = .stoppingSpindle →
        e.spindleEffective = roundDiv (s.gear.output * 1000) (gearRatio bs q)) ∧
      ((s.gear.state ≠ .engaged ∧ s.gear.state ≠ .stoppingSpindle) ∨ s.gear.engaged = none → e.spindleEffective = 0) ∧
      e.gear = s.gear.state ∧ e.engaged = s.gear.engaged ∧ e.target = s.gear.target ∧ e.driven = drivenValues s ∧
      e.program = s.coolant.running.map Run.program ∧ e.depth = s.coolant.queue.length ∧
      e.selector = s.pendant.selector ∧ e.enable = s.pendant.enable ∧ e.feedOverride = s.pendant.feedOverride ∧
      e.spindleOverride = s.pendant.spindleOverride ∧ e.button5 = s.pendant.buttons.b5 ∧
      e.button6 = s.pendant.buttons.b6 ∧ e.button7 = s.pendant.buttons.b7 ∧ e.button8 = s.pendant.buttons.b8 ∧
      e.applied = s.comp.applied)) ∧
  [ClampState.clamped, .unclampWait, .unclamping, .unclamped, .clampWait false, .clampWait true, .clamping, .dropped,
    .fault].map ClampState.code = [0, 1, 2, 3, 4, 4, 5, 6, 7]

/-- R5, R8, R11, R36: in OFFLINE an expiry takes no frame and counts no miss; a drive frame that tracks leaves, and no
echo frame; the coolant stays at rest. -/
def Obligations.OfflineExpiryTracksSilently : Prop :=
  ∀ (inp : ExpiryInput) (s : State), s.link.state = .offline → RestLaw s →
    ∃ t d, exec (.cycleTimerExpiry inp) s = .next t ∧ t.link.state = .offline ∧ t.link.slot = s.link.slot ∧
      t.link.missCount = s.link.missCount ∧ t.link.lastSeq = s.link.lastSeq ∧ t.link.cause = s.link.cause ∧
      t.sent.echo = none ∧ t.sent.drive = some d ∧ d.enable = s.link.enable ∧ d.spindle = 0 ∧
      (∀ a, d.setpoints.get a = actualPos s a) ∧ t.store = s.store ∧
      t.coolant.running = none ∧ t.coolant.queue = [] ∧ t.coolant.requested = outputsOff

/-- R5, R12, R15, R139: the miss that reaches the limit enters OFFLINE from STANDBY, ACTIVATING and HALTED, the slot and
the halt cause kept, and LINK_LOST from RUNNING and STOPPING, where the flag is raised; only RUNNING announces LINK_STOP,
and there a grant ends. -/
def Obligations.MissLimitEndsLink : Prop :=
  ∀ (inp : ExpiryInput) (s : State), takenFrame s.link = none → s.link.missCount + 1 = missLimit s →
    (s.link.state = .standby ∨ s.link.state = .activating ∨ s.link.state = .halted →
      ∃ t, exec (.cycleTimerExpiry inp) s = .next t ∧ t.link.state = .offline ∧ t.link.slot = s.link.slot ∧
        t.link.lastSeq = none ∧ t.link.missCount = 0 ∧ t.link.enable = false ∧ t.link.cause = s.link.cause ∧
        t.link.activation = none ∧ t.sent.echo = none) ∧
    (s.link.state = .running ∨ s.link.state = .stopping → s.link.returnFresh = true → followingExcess s = false →
      stopEnded s = false →
      (linkWork none inp.claimOrder s).coolant.announced =
        (if s.link.state = .running then s.coolant.announced ++ [.linkStop] else s.coolant.announced) ∧
      ∃ t, exec (.cycleTimerExpiry inp) s = .next t ∧ t.link.state = .linkLost ∧ isRaised .linkLost t = true ∧
        t.link.enable = s.link.enable ∧ (s.link.state = .running → ∀ a, t.pendant.grant ≠ .granted a))

/-- R7, R22 to R25, R31, R141: in RUNNING a taken frame's commands, and at a miss below the limit the extrapolated ones,
enter the histories; each axis follows the base, the offset and the compensation; ABSORB sets the offset of an axis that
is not granted to 0 and is ignored on a granted one. `newest` is the command that enters the history. -/
def Obligations.MissExtrapolatesCommands : Prop :=
  let follows (s t : State) (newest : Axis → Int) : Prop :=
    ∀ a, (t.axes.get a).older = (s.axes.get a).newer ∧ (t.axes.get a).newer = newest a ∧
      ∀ p, axisParams s a = some p →
        let command := if p.rotary then newest a % 360000 else newest a
        let base := if s.seen.grant = .granted a then (s.seen.frozen.get a).getD command else command
        let k : Int := match a with
          | .y => s.seen.droop
          | .w => -s.seen.applied
          | .x | .z | .b => 0
        let sum := max (-2147483648) (min 2147483647 (base + (t.axes.get a).offset + k))
        let m := follow p (clampHold s a) (if p.rotary then sum % 360000 else sum) (s.axes.get a).out
        (t.axes.get a).out = m.out ∧ (t.axes.get a).step = m.step
  ∀ (inp : ExpiryInput) (s : State), s.link.state = .running → s.link.returnFresh = true → followingExcess s = false →
    (takenFrame s.link = none → s.link.missCount + 1 < missLimit s → missLimit s ≤ 255 →
      ∃ t, exec (.cycleTimerExpiry inp) s = .next t ∧ t.link.state = .running ∧
        t.link.missCount = s.link.missCount + 1 ∧
        follows s t fun a => sat32 ((s.axes.get a).newer + ((s.axes.get a).newer - (s.axes.get a).older))) ∧
    (∀ f : CycleFrame, s.link.slot = some ⟨f, false⟩ → f.kind = 0 →
      ∃ t, exec (.cycleTimerExpiry inp) s = .next t ∧ t.link.state = .running ∧ t.link.missCount = 0 ∧
        (follows s t fun a => (f.axes.get a).command) ∧
        ∀ a, (f.axes.get a).absorb = true →
          (s.seen.grant = .granted a → isRaised .absorbIgnored t = true) ∧
          (s.seen.grant ≠ .granted a → s.pendant.grant ≠ .granted a → (t.axes.get a).offset = 0))

/-- R10, R16, R17, R35: with drive enable ON, the third expiry in a row without a good return frame enters HALTED, and so
does a following error beyond its limit in a moving state; STOPPING and LINK_LOST end with STANDBY_REACHED where the axes,
the spindle and the clamps have come to rest, LINK_LOST in OFFLINE where the expiry takes no frame. -/
def Obligations.ChainLossHalts : Prop :=
  ∀ (inp : ExpiryInput) (s : State), s.link.enable = true →
    (∀ f : CycleFrame, s.link.state.enabled = true → s.link.slot = some ⟨f, false⟩ → f.kind = 0 →
      s.link.returnFresh = false → s.link.chainMiss = 2 →
      ∃ t d, exec (.cycleTimerExpiry inp) s = .next t ∧ t.link.state = .halted ∧ t.link.cause = .driveChainLost ∧
        isRaised .halted t = true ∧ t.link.enable = false ∧ t.sent.drive = some d ∧ d.enable = false ∧
        d.spindle = 0 ∧ t.bank.queue = [] ∧ t.bank.holder = none) ∧
    (∀ (f : CycleFrame) (a : Axis) (p : AxisParams), s.link.state.moving = true → s.link.slot = some ⟨f, false⟩ →
      f.kind = 0 → s.link.returnFresh = true → (s.link.state = .running ∨ stopEnded s = false) →
      axisParams s a = some p → p.limit < followingDistance p.rotary (s.seen.out.get a) (actualRaw s a) →
      ∃ t d, exec (.cycleTimerExpiry inp) s = .next t ∧ t.link.state = .halted ∧ t.link.cause = .followingError ∧
        isRaised .halted t = true ∧ t.link.enable = false ∧ t.sent.drive = some d ∧ d.enable = false ∧
        d.spindle = 0 ∧ t.bank.queue = [] ∧ t.bank.holder = none) ∧
    ((∀ a, s.seen.step.get a = 0) → spindleStopped s = true →
      (∀ a, clampAbsent s a = true ∨ s.seen.clampState.get a = .clamped ∨ s.seen.clampState.get a = .fault) →
      s.link.returnFresh = true →
      (∀ f : CycleFrame, s.link.state = .stopping ∨ s.link.state = .linkLost → s.link.slot = some ⟨f, false⟩ →
        f.kind = 0 →
        ∃ t d, exec (.cycleTimerExpiry inp) s = .next t ∧ t.link.state = .standby ∧ t.link.missCount = 0 ∧
          isRaised .standbyReached t = true ∧ t.link.enable = false ∧ t.sent.drive = some d ∧ d.enable = false ∧
          d.spindle = 0 ∧ ∀ a, d.setpoints.get a = actualPos s a) ∧
      (s.link.state = .linkLost → takenFrame s.link = none →
        ∃ t d, exec (.cycleTimerExpiry inp) s = .next t ∧ t.link.state = .offline ∧ t.link.slot = s.link.slot ∧
          isRaised .standbyReached t = true ∧ t.link.enable = false ∧ t.sent.drive = some d ∧ d.enable = false ∧
          t.sent.echo = none ∧ t.bank.queue = [] ∧ t.bank.holder = none))

/-- R26, R28, R30, R33: at an expiry in a moving state an axis whose clamp was not UNCLAMPED when the previous drive frame
left keeps its output; a LINEAR axis's output changes by at most its step ceiling and its distance to its envelope does
not grow; a ROTARY axis's output changes by at most its step ceiling, the shorter way round. -/
def Obligations.AxisStaysWithinItsLimits : Prop :=
  ∀ (inp : ExpiryInput) (s : State), s.link.state.moving = true →
    ∃ t d, exec (.cycleTimerExpiry inp) s = .next t ∧ t.sent.drive = some d ∧
      (∀ a, d.setpoints.get a = (t.axes.get a).out) ∧
      (t.link.state.moving = true → ∀ a p, axisParams s a = some p →
        (∀ c, a.clamp = some c → clampAbsent s c = false → s.seen.clampState.get c ≠ .unclamped →
          (t.axes.get a).out = (s.axes.get a).out ∧ (t.axes.get a).step = 0) ∧
        (p.rotary = false → p.lo ≤ p.hi → (s.axes.get a).step.natAbs ≤ p.ceiling →
          ((t.axes.get a).out - (s.axes.get a).out).natAbs ≤ p.ceiling ∧
          (t.axes.get a).step = (t.axes.get a).out - (s.axes.get a).out ∧
          (p.lo ≤ (s.axes.get a).out → p.lo ≤ (t.axes.get a).out) ∧
          ((s.axes.get a).out ≤ p.hi → (t.axes.get a).out ≤ p.hi) ∧
          ((s.axes.get a).out < p.lo → (s.axes.get a).out ≤ (t.axes.get a).out) ∧
          (p.hi < (s.axes.get a).out → (t.axes.get a).out ≤ (s.axes.get a).out)) ∧
        (p.rotary = true → p.ceiling < 180000 → (s.axes.get a).step.natAbs ≤ p.ceiling →
          0 ≤ (s.axes.get a).out → (s.axes.get a).out < 360000 →
          0 ≤ (t.axes.get a).out ∧ (t.axes.get a).out < 360000 ∧ (t.axes.get a).step.natAbs ≤ p.ceiling ∧
          (t.axes.get a).step = wrapDiff true ((t.axes.get a).out - (s.axes.get a).out)))

/-- R159, R173, R176: a SET_MASK that rides in a taken frame, in whatever link state but OFFLINE, is answered in the echo
frame of that expiry, whose attention is formed with the new mask. -/
def Obligations.ServiceRidesInEcho : Prop :=
  ∀ (inp : ExpiryInput) (f : CycleFrame) (s : State), s.link.state ≠ .offline → s.link.slot = some ⟨f, false⟩ →
    f.kind = 12 → f.body.length = 5 → byteAt f.body 4 < 8 →
    ∃ t e, exec (.cycleTimerExpiry inp) s = .next t ∧
      t.flags.mask = BitVec.ofNat 35 (flagSetNumber f.body) ∧
      t.sent.echo = some e ∧ e.seq = f.seq ∧ e.fresh = true ∧ e.answer.kind = 12 ∧ e.answer.status = .ok ∧
      e.answer.body = flagSetBytes t.flags.mask ∧
      (e.attention = true ↔ t.flags.raised &&& t.flags.mask ≠ 0)

/-! ## What the blocks compute -/

/-- R25 to R33: the follow computation of a LINEAR axis from output `p` toward target `t`, and its deceleration from
step `v`, each within the envelope and without a change of direction, and both under the clamp hold. -/
def Obligations.FollowKeepsRateAndEnvelope : Prop :=
  ∀ (a : AxisParams) (t p v : Int), a.rotary = false → a.lo ≤ a.hi →
    (follow a true t p).out = p ∧ (follow a true t p).step = 0 ∧
    ((follow a true t p).heldClamped = true ↔ t ≠ p) ∧
    (follow a false t p).step = (follow a false t p).out - p ∧ (follow a false t p).heldClamped = false ∧
    (follow a false t p).step.natAbs ≤ a.ceiling ∧
    ((follow a false t p).rateInd = true ↔ a.ceiling < (t - p).natAbs) ∧
    (a.lo ≤ p → p ≤ a.hi → a.lo ≤ (follow a false t p).out ∧ (follow a false t p).out ≤ a.hi) ∧
    (p < a.lo → p ≤ (follow a false t p).out ∧ (follow a false t p).out ≤ a.hi) ∧
    (a.hi < p → a.lo ≤ (follow a false t p).out ∧ (follow a false t p).out ≤ p) ∧
    ((t - p).natAbs ≤ a.ceiling → a.lo ≤ t → t ≤ a.hi → a.lo ≤ p → p ≤ a.hi → (follow a false t p).out = t) ∧
    (p ≤ t → 0 ≤ (follow a false t p).step) ∧ (t ≤ p → (follow a false t p).step ≤ 0) ∧
    (∀ q, (t < p - a.ceiling ∧ q = p - a.ceiling) ∨ (p + a.ceiling < t ∧ q = p + a.ceiling) →
      a.lo ≤ p → p ≤ a.hi →
      (follow a false t p).out = max a.lo (min a.hi q) ∧
      ((follow a false t p).envelopeInd = true ↔ q < a.lo ∨ a.hi < q)) ∧
    (decelerate a false p v).step.natAbs ≤ v.natAbs - a.decel ∧
    (decelerate a false p v).step = (decelerate a false p v).out - p ∧ (decelerate a false p v).rateInd = false ∧
    (v.natAbs ≤ a.decel → a.lo ≤ p → p ≤ a.hi → (decelerate a false p v).out = p) ∧
    (a.lo ≤ p → p ≤ a.hi → a.lo ≤ (decelerate a false p v).out ∧ (decelerate a false p v).out ≤ a.hi) ∧
    (p < a.lo → p ≤ (decelerate a false p v).out ∧ (decelerate a false p v).out ≤ a.hi) ∧
    (a.hi < p → a.lo ≤ (decelerate a false p v).out ∧ (decelerate a false p v).out ≤ p) ∧
    (0 ≤ v → 0 ≤ (decelerate a false p v).step) ∧ (v ≤ 0 → (decelerate a false p v).step ≤ 0) ∧
    (∀ q, (a.decel < v ∧ q = p + v - a.decel) ∨ (v < -(a.decel : Int) ∧ q = p + v + a.decel) → a.lo ≤ p → p ≤ a.hi →
      (decelerate a false p v).out = max a.lo (min a.hi q) ∧
      ((decelerate a false p v).envelopeInd = true ↔ q < a.lo ∨ a.hi < q)) ∧
    (decelerate a true p v).out = p ∧ (decelerate a true p v).step = 0 ∧
    (decelerate a true p v).envelopeInd = false ∧ (decelerate a true p v).rateInd = false ∧
    ((decelerate a true p v).heldClamped = true ↔ a.decel < v.natAbs)

/-- R27, R29, R31: a ROTARY axis takes the shorter way round at no more than its step ceiling, and the way of rising
positions where target and output lie half a turn apart. -/
def Obligations.RotaryFollowsShorterWay : Prop :=
  ∀ (a : AxisParams) (t p : Int), a.rotary = true → a.ceiling < 180000 → 0 ≤ t → t < 360000 → 0 ≤ p → p < 360000 →
    0 ≤ (follow a false t p).out ∧ (follow a false t p).out < 360000 ∧
    (follow a false t p).step.natAbs ≤ a.ceiling ∧
    (follow a false t p).out = (p + (follow a false t p).step) % 360000 ∧
    -180000 < wrapDiff true (t - p) ∧ wrapDiff true (t - p) ≤ 180000 ∧
    (p + wrapDiff true (t - p)) % 360000 = t ∧
    (follow a false t p).step = max (-(a.ceiling : Int)) (min a.ceiling (wrapDiff true (t - p))) ∧
    ((t - p = 180000 ∨ t - p = -180000) → wrapDiff true (t - p) = 180000 ∧ (follow a false t p).step = a.ceiling) ∧
    ((follow a false t p).rateInd = true ↔ a.ceiling < (wrapDiff true (t - p)).natAbs) ∧
    ((wrapDiff true (t - p)).natAbs ≤ a.ceiling → (follow a false t p).out = t)

/-- R44, R45: the droop value is the first point behind the span, the last beyond it, and within it the rounded value on
the line between its two neighbouring points, and so between them; an expiry forms it from the W output of the previous
drive frame, and it is 0 without the table. Rounding goes to the nearest integer, halves away from zero. -/
def Obligations.DroopLiesBetweenPoints : Prop :=
  (∀ (bs : List Byte) (w : Int), 0 < compSpan bs →
    (w ≤ compZero bs → droopAt bs w = droopPoint bs 0) ∧
    (compZero bs + compSpan bs ≤ w → droopAt bs w = droopPoint bs 16) ∧
    (∀ i : Nat, i < 16 → (i * compSpan bs : Int) ≤ 16 * (w - compZero bs) →
      16 * (w - compZero bs) < ((i + 1) * compSpan bs : Int) →
      droopAt bs w = droopPoint bs i + roundDiv ((droopPoint bs (i + 1) - droopPoint bs i) *
        (16 * (w - compZero bs) - i * compSpan bs)) (compSpan bs) ∧
      min (droopPoint bs i) (droopPoint bs (i + 1)) ≤ droopAt bs w ∧
      droopAt bs w ≤ max (droopPoint bs i) (droopPoint bs (i + 1)))) ∧
  (∀ (c : Turn) (s : State),
    (∀ bs, activeBytes s .compensation = some bs →
      runTask c .droop s = { s with comp := { s.comp with droop := droopAt bs s.seen.out.w } }) ∧
    (s.store.active.compensation = none → runTask c .droop s = { s with comp := { s.comp with droop := 0 } })) ∧
  (∀ (n : Int) (d : Nat), 0 < d → 2 * (roundDiv n d * d - n).natAbs ≤ d ∧
    (2 * (roundDiv n d * d - n).natAbs = d → n.natAbs < (roundDiv n d * d).natAbs))

/-- R46 to R50, R54, R55: an update leaves the applied growth within the max correction, one update fewer to make, and
raises COMP_LIMIT where the clamp changes it; the applied growth is within the max correction after every step. Each
expiry outside OFFLINE and HALTED adds its sample to the window; the sixteenth ends it, with SENSOR_FAULT alone where a
sample was faulted, else with the measurement, the threshold and continuous triggers and the update. -/
def Obligations.GrowthUpdateIsClamped : Prop :=
  (∀ (bs : List Byte) (m : Int) (s : State), s.comp.updates.pending = true →
    (growthUpdate bs m s).comp.applied.natAbs ≤ compMax bs ∧
    (growthUpdate bs m s).comp.hardFirst = false ∧
    (growthUpdate bs m s).comp.updates = s.comp.updates.spend ∧
    isRaised .compUpdated (growthUpdate bs m s) = true ∧
    (s.comp.hardFirst = true → m.natAbs ≤ compMax bs → (growthUpdate bs m s).comp.applied = m) ∧
    (s.comp.hardFirst = false → (s.comp.applied + roundDiv ((m - s.comp.applied) * compSmoothing bs) 16).natAbs ≤
        compMax bs →
      (growthUpdate bs m s).comp.applied = s.comp.applied + roundDiv ((m - s.comp.applied) * compSmoothing bs) 16) ∧
    (s.comp.hardFirst = true → compMax bs < m.natAbs →
      (growthUpdate bs m s).comp.applied = (if 0 < m then (compMax bs : Int) else -(compMax bs : Int)) ∧
      isRaised .compLimit (growthUpdate bs m s) = true)) ∧
  (∀ (bs : List Byte) (m : Int) (s : State), s.comp.updates.pending = false → growthUpdate bs m s = s) ∧
  (∀ s : State, s.store.active.compensation = none ∨ s.link.state = .offline ∨ s.link.state = .halted →
    windowWork s = s) ∧
  (∀ (bs : List Byte) (reading sum : Nat) (faulted : Bool) (s : State), activeBytes s .compensation = some bs →
    s.link.state ≠ .offline → s.link.state ≠ .halted → (reading, faulted) = readingOf s.inputs.readings.an3 →
    sum = s.comp.windowSum + reading →
    (s.comp.windowCount + 1 < 16 → windowWork s = { s with comp := { s.comp with
      windowSum := sum, windowCount := s.comp.windowCount + 1
      windowFaulted := s.comp.windowFaulted || faulted } }) ∧
    (16 ≤ s.comp.windowCount + 1 → s.comp.windowFaulted = true ∨ faulted = true → windowWork s = { s with
      comp := { s.comp with windowSum := 0, windowCount := 0, windowFaulted := false }
      flags := { s.flags with raised := s.flags.raised ||| Flag.sensorFault.bit } }) ∧
    (∀ (m : Int) (soft hard : Bool), 16 ≤ s.comp.windowCount + 1 → s.comp.windowFaulted = false → faulted = false →
      m = roundDiv (((sum : Int) - 16 * compRef bs) * compGain bs) 256 →
      (soft = true ↔ compSoft bs ≠ 255 ∧ compSoft bs < (m - s.comp.applied).natAbs) →
      (hard = true ↔ (compHard bs ≠ 255 ∧ compHard bs < (m - s.comp.applied).natAbs) ∨
        (soft = true ∧ compEnable bs 0 = true)) →
      windowWork s = growthUpdate bs m { s with comp := { s.comp with
        windowSum := 0, windowCount := 0, windowFaulted := false, lastSum := some sum, lastMeasurement := some m
        hardFirst := s.comp.hardFirst || hard
        updates := if soft = true ∨ hard = true ∨ compEnable bs 3 = true then
            (if compRestart bs = 255 then .always else .count (compRestart bs + 1))
          else s.comp.updates } })) ∧
  (∀ s t : State, GrowthLaw s → Machine.step s = .next t → GrowthLaw t)

/-- R81, R84, R132, R144, R148, R150, R151: with debounce count `n`, n + 1 samples in a row at a new level are accepted,
and no fewer; a sample at the accepted level ends the run. At an expiry every switch and button is sampled with its
group's count, 3 without the table, and a group is COMPLETE once each of its inputs has a value. The clamp sequencers
and the pendant unit take the first values once, a DROPPED clamp becoming CLAMPED or beginning its recovery wait (R78,
as in log entry 8); and a press of buttons 1 to 4 in the unit's view announces PB0 to PB3 (taken as in log entry 1). -/
def Obligations.DebounceNeedsWholeRun : Prop :=
  (∀ (n k : Nat) (v : Bool) (d : Debounced Bool), d.value ≠ some v → d.candidate ≠ some v →
    ((List.replicate (n + 1) v).foldl (fun d v => debounce n v d) d).value = some v ∧
    (k ≤ n → ((List.replicate k v).foldl (fun d v => debounce n v d) d).value = d.value)) ∧
  (∀ (n : Nat) (v : Bool) (d : Debounced Bool), d.value = some v → debounce n v d = ⟨some v, none, 0⟩) ∧
  (∀ (v : Samples) (count : Nat → Nat) (s : State) (i : Inputs),
    (∀ k, count k = (match s.store.active.inputs with
      | some img => byteAt img.bytes k
      | none => 3)) → i = (conditionerWork v s).inputs →
    (∀ a, (i.clamps.get a).clamped = debounce (count 0) (v.clamps.get a).clamped (s.inputs.clamps.get a).clamped ∧
      (i.clamps.get a).unclamped = debounce (count 0) (v.clamps.get a).unclamped (s.inputs.clamps.get a).unclamped) ∧
    (∀ f, i.forks.get f = debounce (count 1) (v.forks.get f) (s.inputs.forks.get f)) ∧
    i.buttons.toList = List.zipWith (debounce (count 2)) v.buttons.toList s.inputs.buttons.toList ∧
    (i.clampComplete = true ↔ s.inputs.clampComplete = true ∨
      ∀ a, (i.clamps.get a).clamped.value ≠ none ∧ (i.clamps.get a).unclamped.value ≠ none) ∧
    (i.forkComplete = true ↔ s.inputs.forkComplete = true ∨ ∀ f, (i.forks.get f).value ≠ none) ∧
    (i.pendantComplete = true ↔ s.inputs.pendantComplete = true ∨ (i.selector.value ≠ none ∧
      i.increment.value ≠ none ∧ i.enable.value ≠ none ∧ ∀ d ∈ i.buttons.toList, d.value ≠ none))) ∧
  (∀ (order : List ClampAxis) (s t : State), t = clampFirstWork order s →
    (s.inputs.clampComplete = false ∨ s.inputs.clampsDelivered = true → t = s) ∧
    (s.inputs.clampComplete = true → s.inputs.clampsDelivered = false →
      t.inputs = { s.inputs with clampsDelivered := true } ∧
      ∀ a, (s.clamps.get a).state = .dropped →
        (clampInForce s a = false → t.clamps.get a = s.clamps.get a) ∧
        (clampInForce s a = true → (s.inputs.clamps.get a).clamped.value = some true →
          (s.inputs.clamps.get a).unclamped.value = some false →
          t.clamps.get a = { s.clamps.get a with state := .clamped }) ∧
        (clampInForce s a = true → (s.inputs.clamps.get a).clamped.value ≠ some true ∨
            (s.inputs.clamps.get a).unclamped.value ≠ some false →
          (s.link.state = .offline ∨ s.link.state = .halted → t.clamps.get a = s.clamps.get a) ∧
          (s.link.state ≠ .offline → s.link.state ≠ .halted →
            t.clamps.get a = ⟨.clampWait true, some (dropCeiling s), 0⟩ ∨
            (t.bank.holder = some (.clamp a) ∧ t.clamps.get a = ⟨.clamping, some (clampCeiling s a), 0⟩))))) ∧
  (∀ (c : Turn) (s : State) (now : PerButton Bool) (presses : List TriggerSource),
    now = ⟨s.inputs.buttons.b1.value.getD s.pendant.buttons.b1, s.inputs.buttons.b2.value.getD s.pendant.buttons.b2,
      s.inputs.buttons.b3.value.getD s.pendant.buttons.b3, s.inputs.buttons.b4.value.getD s.pendant.buttons.b4,
      s.inputs.buttons.b5.value.getD s.pendant.buttons.b5, s.inputs.buttons.b6.value.getD s.pendant.buttons.b6,
      s.inputs.buttons.b7.value.getD s.pendant.buttons.b7, s.inputs.buttons.b8.value.getD s.pendant.buttons.b8⟩ →
    presses = (if now.b1 = true ∧ s.pendant.buttons.b1 = false then [.pb0] else []) ++
      (if now.b2 = true ∧ s.pendant.buttons.b2 = false then [.pb1] else []) ++
      (if now.b3 = true ∧ s.pendant.buttons.b3 = false then [.pb2] else []) ++
      (if now.b4 = true ∧ s.pendant.buttons.b4 = false then [.pb3] else []) →
    (s.pendant.delivered = false →
      runTask c .panel s = s ∧ runTask c .selector s = s ∧ runTask c .enableSwitch s = s) ∧
    (s.pendant.delivered = true → runTask c .panel s = { s with
      pendant := { s.pendant with
        buttons := now, increment := s.inputs.increment.value.getD s.pendant.increment }
      coolant := { s.coolant with announced := s.coolant.announced ++ presses } }) ∧
    (s.inputs.pendantComplete = false ∨ s.pendant.delivered = true → runTask c .pendantFirst s = s) ∧
    (∀ t sel inc e, s.inputs.pendantComplete = true → s.pendant.delivered = false → t = runTask c .pendantFirst s →
      s.inputs.selector.value = some sel → s.inputs.increment.value = some inc → s.inputs.enable.value = some e →
      t.pendant.delivered = true ∧ t.pendant.selector = sel ∧ t.pendant.increment = inc ∧ t.pendant.enable = e ∧
      t.pendant.buttons = now ∧ t.coolant.announced = s.coolant.announced ++ presses ∧
      (sel = s.pendant.selector → t.pendant.grant = s.pendant.grant) ∧
      (∀ a, sel = .axis a → s.pendant.selector = .off →
        (∀ q, a.clamp = some q → clampAbsent s q = true ∨ (s.clamps.get q).state ≠ .fault) →
        t.pendant.grant = .waiting a ∧ t.pendant.permitMark = false ∧ t.pendant.stillCount = 0)))

/-- R149: the positions formed from the lines of the three multi-line pendant inputs, and debounced as formed. -/
def Obligations.PendantPositionsFormed : Prop :=
  (∀ (lines : PerAxis Bool) (a : Axis), selectorPosition lines = .axis a ↔
    ∀ q, lines.get q = decide (q = a)) ∧
  (∀ ten hundred : Bool, incrementPosition ten hundred =
    if ten && !hundred then .x10 else if hundred && !ten then .x100 else .x1) ∧
  (∀ held clenched : Bool, enablePosition held clenched =
    if clenched then .clenched else if held then .held else .released) ∧
  (∀ (v : Samples) (s : State),
    (conditionerWork v s).inputs.selector =
      debounce (pendantDebounce s) (selectorPosition v.selector) s.inputs.selector ∧
    (conditionerWork v s).inputs.increment =
      debounce (pendantDebounce s) (incrementPosition v.incTen v.incHundred) s.inputs.increment ∧
    (conditionerWork v s).inputs.enable =
      debounce (pendantDebounce s) (enablePosition v.held v.clenched) s.inputs.enable)

/-- R142, R143, R155: the three scaled values of an expiry's sample, by the active input table or its defaults; and the
knobs' two samples: a band is accepted at its third sample in a row outside the accepted one, the override follows from
the pendant table, and a sample with a channel fault starts the run again and raises KNOB_FAULT. -/
def Obligations.AnalogChannelsScaled : Prop :=
  (∀ (v : Samples) (s : State),
    (conditionerWork v s).inputs.hydraulic =
      some (roundDiv ((v.analog.an0.toNat * (match activeBytes s .inputs with
        | some bs => u16At bs 3
        | none => 1000) : Nat) : Int) 4095).toNat ∧
    (conditionerWork v s).inputs.tsc =
      some (roundDiv ((v.analog.an1.toNat * (match activeBytes s .inputs with
        | some bs => u16At bs 5
        | none => 1600) : Nat) : Int) 4095).toNat ∧
    (conditionerWork v s).inputs.tankTemp =
      some ((match activeBytes s .inputs with
        | some bs => s16At bs 7
        | none => 0) + roundDiv ((v.analog.an2.toNat * (match activeBytes s .inputs with
        | some bs => u16At bs 9
        | none => 1000) : Nat) : Int) 4095)) ∧
  (∀ (v : BitVec 12) (band : Fin 16) (k : Knob), 16 ≤ v.toNat → v.toNat < 4080 → band.val = v.toNat * 16 / 4096 →
    (k.accepted = some band → knobSample (some v) k = ({ k with candidate := none, count := 0 }, none)) ∧
    (k.accepted ≠ some band → k.candidate ≠ some band →
      knobSample (some v) k = ({ k with candidate := some band, count := 1 }, none)) ∧
    (k.accepted ≠ some band → k.candidate = some band → k.count + 1 < 3 →
      knobSample (some v) k = ({ k with count := k.count + 1 }, none)) ∧
    (k.accepted ≠ some band → k.candidate = some band → 3 ≤ k.count + 1 →
      (knobSample (some v) k).1.accepted = some band ∧ (knobSample (some v) k).1.candidate = none ∧
        (knobSample (some v) k).2 = some band)) ∧
  (∀ (v : BitVec 12) (k : Knob), v.toNat < 16 ∨ 4080 ≤ v.toNat →
    knobSample (some v) k = ({ k with candidate := none, count := 0 }, none)) ∧
  (∀ (feed spindle : BitVec 12) (f sp : Knob × Option (Fin 16)) (s : State),
    s.inputs.readings.an4 = some feed → s.inputs.readings.an5 = some spindle →
    f = knobSample (some feed) s.pendant.feedKnob → sp = knobSample (some spindle) s.pendant.spindleKnob →
    knobsWork s = { s with
      pendant := { s.pendant with
        feedKnob := f.1, spindleKnob := sp.1
        feedOverride := (match activeBytes s .pendant, f.2 with
          | some bs, some k => byteAt bs (18 + k.val)
          | _, _ => s.pendant.feedOverride)
        spindleOverride := (match activeBytes s .pendant, sp.2 with
          | some bs, some k => max 50 (min 120 (byteAt bs (34 + k.val)))
          | _, _ => s.pendant.spindleOverride) }
      flags := { s.flags with raised := s.flags.raised |||
        (if feed.toNat < 16 ∨ 4080 ≤ feed.toNat ∨ spindle.toNat < 16 ∨ 4080 ≤ spindle.toNat
          then Flag.knobFault.bit else 0) } })

/-- R134 to R140: the transfer into the granted axis's offset is at most the step of an expiry, from the pending distance,
never beyond the offset limit, and touches no other axis. At an expiry in RUNNING a wait takes its permit and still count
from the frame and becomes a grant where the four conditions hold; a taken frame without the permit ends a grant; a change
of the selector begins or ends a wait and ends a grant; a change of the enable out of HELD clears the pending distance; a
command off the frozen base raises COMMAND_WHILE_GRANTED once. That a grant and its end keep the permit mark and the still
count is the model's choice (log entry 36), and so is what the mark of R140 does as its grant ends (log entry 22). -/
def Obligations.TransferKeepsLimits : Prop :=
  (∀ (bs : List Byte) (p : AxisParams) (a : Axis) (s : State), s.pendant.grant = .granted a →
    activeBytes s .pendant = some bs → axisParams s a = some p →
    (s.axes.get a).offset.natAbs ≤ offsetLimit bs →
    (((transfer s).axes.get a).offset.natAbs ≤ offsetLimit bs) ∧
    (((transfer s).axes.get a).offset - (s.axes.get a).offset).natAbs ≤ min (pendantStep bs) p.ceiling ∧
    (transfer s).pendant.distance.natAbs = s.pendant.distance.natAbs - min (pendantStep bs) p.ceiling ∧
    (s.pendant.distance = 0 → transfer s = s) ∧
    (∀ q, q ≠ a → (transfer s).axes.get q = s.axes.get q) ∧
    (isRaised .handwheelDiscard (transfer s) = true ↔ isRaised .handwheelDiscard s = true ∨
      ((transfer s).axes.get a).offset - (s.axes.get a).offset ≠ s.pendant.distance - (transfer s).pendant.distance) ∧
    (transfer s).link = s.link ∧ (transfer s).clamps = s.clamps ∧ (transfer s).gear = s.gear) ∧
  (∀ (taken held : Option CycleFrame) (a : Axis) (s u : State) (still : Nat), s.pendant.grant = .waiting a →
    still = (if (s.axes.get a).newer ≠ (s.axes.get a).older then 0
      else if taken = none then s.pendant.stillCount else min 255 (s.pendant.stillCount + 1)) →
    u = { s with pendant := { s.pendant with stillCount := still, permitMark := (match taken with
      | some f => (f.axes.get a).permit
      | none => s.pendant.permitMark) } } →
    waitWork taken held s =
      if s.seen.grant = .waiting a ∧ s.seen.permitMark = true ∧ (∃ f, held = some f ∧ (f.axes.get a).permit = true) ∧
          (∀ c, a.clamp = some c → clampAbsent s c = true ∨ s.seen.clampState.get c = .unclamped) ∧
          stillFrames s a ≤ still then
        { u with
          pendant := { u.pendant with grant := .granted a, distance := 0, commandMark := false }
          axes := s.axes.set a { s.axes.get a with
            frozen := some (if isRotary s a then (s.axes.get a).newer % 360000 else (s.axes.get a).newer) }
          flags := { s.flags with raised := s.flags.raised ||| Flag.pendantGranted.bit } }
      else u) ∧
  (∀ (f : CycleFrame) (a : Axis) (s : State), s.pendant.grant = .granted a →
    permitWithdrawn none s = s ∧ ((f.axes.get a).permit = true → permitWithdrawn (some f) s = s) ∧
    ((f.axes.get a).permit = false → permitWithdrawn (some f) s = { s with
      pendant := { s.pendant with grant := .free, distance := 0, commandMark := false }
      axes := s.axes.set a { s.axes.get a with frozen := none }
      flags := { s.flags with raised := s.flags.raised ||| Flag.pendantReleased.bit } })) ∧
  (∀ (sel : Selector) (s : State),
    (selectorChange sel s).pendant.selector = sel ∧
    (sel = .off → (selectorChange sel s).pendant.grant = .free) ∧
    (∀ a, sel = .axis a → (selectorChange sel s).pendant.permitMark = false ∧
      (selectorChange sel s).pendant.stillCount = 0 ∧
      ((∃ c, a.clamp = some c ∧ clampAbsent s c = false ∧ (s.clamps.get c).state = .fault) →
        (selectorChange sel s).pendant.grant = .free) ∧
      ((∀ c, a.clamp = some c → clampAbsent s c = true ∨ (s.clamps.get c).state ≠ .fault) →
        (selectorChange sel s).pendant.grant = .waiting a)) ∧
    (∀ q, s.pendant.grant = .granted q → (selectorChange sel s).pendant.distance = 0 ∧
      (selectorChange sel s).pendant.commandMark = false ∧
      (selectorChange sel s).flags = { s.flags with raised := s.flags.raised ||| Flag.pendantReleased.bit } ∧
      (selectorChange sel s).axes = s.axes.set q { s.axes.get q with frozen := none }) ∧
    ((∀ q, s.pendant.grant ≠ .granted q) → (selectorChange sel s).flags = s.flags ∧
      (selectorChange sel s).axes = s.axes ∧ (selectorChange sel s).pendant.distance = s.pendant.distance)) ∧
  (∀ s : State,
    (s.inputs.enable.value = none ∨ s.inputs.enable.value = some s.pendant.enable → handEnable s = s) ∧
    (∀ e, s.inputs.enable.value = some e → e ≠ s.pendant.enable → handEnable s = { s with pendant := { s.pendant with
      enable := e, distance := if s.pendant.enable = .held then 0 else s.pendant.distance } })) ∧
  (∀ s : State,
    ((∀ a, s.seen.grant ≠ .granted a) ∨ s.link.state ≠ .running → strayWork s = s) ∧
    (∀ (a : Axis) (command : Int), s.seen.grant = .granted a → s.link.state = .running →
      command = (if isRotary s a then (s.axes.get a).newer % 360000 else (s.axes.get a).newer) →
      (s.seen.frozen.get a = some command ∨ s.seen.commandMark = true ∨ s.pendant.commandMark = true →
        strayWork s = s) ∧
      (s.seen.frozen.get a ≠ some command → s.seen.commandMark = false → s.pendant.commandMark = false →
        strayWork s = { s with
          pendant := { s.pendant with commandMark := decide (s.pendant.grant = .granted a) }
          flags := { s.flags with raised := s.flags.raised ||| Flag.commandWhileGranted.bit } })))

/-- R52, R85, R86, R88, R89: the effective spindle speed and the motor speed have the values of R85 and R86, and keep
the command's direction, the range's limits and the motor ceiling; the interlock holds the output at 0 until a taken frame in
RUNNING commands 0, and a non-zero command that meets it raises SPINDLE_HELD; a spindle start and a spindle stop are
announced where the run value leaves and reaches 0; and the spindle-stopped timer rises at an expiry by the cycle
period, up to 255,000 ms. -/
def Obligations.SpindleSpeedWithinRange : Prop :=
  (∀ (bs : List Byte) (r : Range) (c : Int) (o : Nat), gearMin bs r ≤ gearMax bs r →
    (effectiveSpeed c o (gearMin bs r) (gearMax bs r) = 0 ∨
      (gearMin bs r ≤ (effectiveSpeed c o (gearMin bs r) (gearMax bs r)).natAbs ∧
       (effectiveSpeed c o (gearMin bs r) (gearMax bs r)).natAbs ≤ gearMax bs r)) ∧
    (0 ≤ c → 0 ≤ engagedOutput bs r c o) ∧ (c ≤ 0 → engagedOutput bs r c o ≤ 0) ∧
    (c = 0 → engagedOutput bs r c o = 0) ∧ (engagedOutput bs r c o).natAbs ≤ gearCeiling bs r ∧
    (∀ cut e k m : Int, cut = (if c < -2000 then -2000 else if 2000 < c then 2000 else c) →
      e = roundDiv (cut * o) 100 →
      k = (if e = 0 then 0 else if e.natAbs < gearMin bs r then e.sign * gearMin bs r
        else if gearMax bs r < e.natAbs then e.sign * gearMax bs r else e) →
      m = roundDiv (k * gearRatio bs r) 1000 →
      effectiveSpeed c o (gearMin bs r) (gearMax bs r) = k ∧
      engagedOutput bs r c o = (if m < -(gearCeiling bs r : Int) then -(gearCeiling bs r : Int)
        else if (gearCeiling bs r : Int) < m then (gearCeiling bs r : Int) else m))) ∧
  (∀ (f : CycleFrame) (held : Option CycleFrame) (bs : List Byte) (r : Range) (s : State),
    interlockWork none s = s ∧
    interlockWork (some f) s = (if s.link.state = .running ∧ f.spindle = 0
      then { s with gear := { s.gear with interlock := false } } else s) ∧
    (s.link.state = .running → s.gear.state = .engaged → s.gear.interlock = true → outputAt held s = 0) ∧
    (s.link.state = .running → s.gear.state = .engaged → s.gear.interlock = false → s.gear.engaged = some r →
      activeBytes s .gear = some bs →
      outputAt (some f) s = engagedOutput bs r f.spindle s.seen.spindleOverride) ∧
    spindleHeldWork none s = s ∧
    spindleHeldWork (some f) s =
      (if s.link.state = .running ∧ f.spindle ≠ 0 ∧ s.gear.state = .engaged ∧ s.gear.interlock = true
        then { s with flags := { s.flags with raised := s.flags.raised ||| Flag.spindleHeld.bit } } else s)) ∧
  (∀ (s : State) (run : Int),
    run = (if s.gear.state = .engaged ∨ s.gear.state = .stoppingSpindle then s.gear.output else 0) →
    (spindleAnnounceWork s).gear = { s.gear with runValue := run } ∧
    (spindleAnnounceWork s).coolant.announced = s.coolant.announced ++
      (if s.gear.runValue = 0 ∧ run ≠ 0 then [.spindleStart]
        else if s.gear.runValue ≠ 0 ∧ run = 0 then [.spindleStop] else []) ∧
    (s.gear.runValue ≠ 0 → run = 0 → (spindleAnnounceWork s).comp = { s.comp with stoppedMs := 0 }) ∧
    (∀ bs, s.gear.runValue = 0 → run ≠ 0 → activeBytes s .compensation = some bs →
      (spindleAnnounceWork s).comp =
        (if compStopMs bs ≤ s.comp.stoppedMs ∧ compEnable bs 2 = true
          then { s.comp with updates := updatesOf (compRestart bs), hardFirst := true } else s.comp))) ∧
  (∀ (p : Period) (taken : Option CycleFrame) (r : Record) (inp : ExpiryInput) (u s : State),
    runTask (turnOf p taken r inp u) .stoppedTimer s = { s with comp := { s.comp with
      stoppedMs := if s.comp.stoppedMs + p.ms ≤ 255000 then s.comp.stoppedMs + p.ms else 255000 } }) ∧
  [Period.ms1, .ms2, .ms4].map Period.ms = [1, 2, 4]

/-- R110: the six driven values. -/
def Obligations.DrivenValuesFollow : Prop :=
  ∀ s : State,
    ((s.link.state = .offline ∨ s.link.state = .halted) → drivenValues s = ⟨false, false, false, false, false, false⟩) ∧
    (s.link.state ≠ .offline → s.link.state ≠ .halted →
      ((drivenValues s).tscPump = true ↔
        s.coolant.requested.tscPump = true ∧ s.gear.state = .engaged ∧ s.coolant.tank = .inactive) ∧
      ((drivenValues s).tscDrain = true ↔ s.coolant.requested.tscDrain = true ∨
        s.gear.state = .draining ∨ s.gear.state = .valveWait ∨ s.gear.state = .shifting) ∧
      (drivenValues s).flood = s.coolant.requested.flood ∧ (drivenValues s).mist = s.coolant.requested.mist ∧
      (drivenValues s).conveyor = s.coolant.requested.conveyor ∧ (drivenValues s).lube = s.coolant.requested.lube)

/-- R67, R68: a sample speaks for LOW below the threshold and with a channel fault; one that agrees with the pressure
state clears the count, one that disagrees raises it, and the one that reaches the filter count changes the state: to LOW
with PRESSURE_LOW, the holder's transit, a clamp's or the gearbox's, aborted into FAULT and the bank given up, and to OK
with a free bank's grant. That the aborted shift keeps its settle count and wiggle phase is the model's choice (log
entry 40). -/
def Obligations.PressureLossAbortsTransit : Prop :=
  ∀ (bs : List Byte) (s : State) (low : Bool), activeBytes s .clamp = some bs →
    low = ((readingOf s.inputs.readings.an0).2 || decide (s.inputs.hydraulic.getD 0 < pressureThreshold bs)) →
    (s.bank.pressureOk = !low → pressureWork s = { s with bank := { s.bank with disagree := 0 } }) ∧
    (s.bank.pressureOk = low → s.bank.disagree + 1 < pressureFilter bs →
      pressureWork s = { s with bank := { s.bank with disagree := s.bank.disagree + 1 } }) ∧
    (s.bank.pressureOk = true → low = true → pressureFilter bs ≤ s.bank.disagree + 1 →
      (pressureWork s).bank.pressureOk = false ∧ (pressureWork s).bank.disagree = 0 ∧
      (pressureWork s).bank.holder = none ∧ isRaised .pressureLow (pressureWork s) = true ∧
      (∀ a, s.bank.holder = some (.clamp a) →
        (pressureWork s).bank.queue = s.bank.queue.erase (.clamp a) ∧
        (pressureWork s).clamps = s.clamps.set a ⟨.fault, none, 0⟩ ∧ (pressureWork s).gear = s.gear ∧
        isRaised .clampFault (pressureWork s) = true) ∧
      (s.bank.holder = some .gearbox →
        (pressureWork s).bank.queue = s.bank.queue ∧ (pressureWork s).clamps = s.clamps ∧
        (pressureWork s).gear = { s.gear with
          state := .fault, output := 0, next := none, target := none, engaged := none, drainCeiling := none,
          shiftCeiling := none, wiggle := none } ∧
        isRaised .gearFault (pressureWork s) = true) ∧
      (s.bank.holder = none →
        (pressureWork s).bank.queue = s.bank.queue ∧ (pressureWork s).clamps = s.clamps ∧
        (pressureWork s).gear = s.gear)) ∧
    (s.bank.pressureOk = false → low = false → pressureFilter bs ≤ s.bank.disagree + 1 →
      (pressureWork s).bank.pressureOk = true ∧ (pressureWork s).bank.disagree = 0 ∧
      (pressureWork s).flags = s.flags ∧
      (s.bank.holder ≠ none ∨ s.bank.queue = [] → (pressureWork s).bank.holder = s.bank.holder ∧
        (pressureWork s).bank.queue = s.bank.queue ∧ (pressureWork s).clamps = s.clamps) ∧
      (∀ c rest, s.bank.holder = none → s.bank.queue = c :: rest → s.link.state ≠ .offline →
        s.link.state ≠ .halted → (pressureWork s).bank.holder = some c ∧ (pressureWork s).bank.queue = rest))

/-- R51, R92, R97, R98, R101, R118: STOPPING_SPINDLE ends where the output formed is 0 and the spindle stopped; a low
TSC sample sends DRAINING into VALVE_WAIT; a confirming sample counts, and the one that reaches the confirm settle
completes the change, with GEAR_END taken at once and the range in the slot begun anew, and a HARD trigger of the growth
where the range is another than before and the GEAR_END enable is on; UNKNOWN enters the range that the forks show, but
not at the expiry whose fork change has ended ENGAGED. That the settle count and the wiggle phase stand outside SHIFTING
as they are is the model's choice (log entry 40). -/
def Obligations.ShiftCompletes : Prop :=
  ∀ (bs : List Byte) (s : State), activeBytes s .gear = some bs →
    (∀ held, s.link.state = .running → s.gear.state = .stoppingSpindle →
      (spindleOutputWork held s).gear.output =
        (if s.gear.output.natAbs ≤ spindleDecel bs then 0
          else if 0 < s.gear.output then s.gear.output - spindleDecel bs else s.gear.output + spindleDecel bs) ∧
      (s.gear.output.natAbs ≤ spindleDecel bs → (actualSpeed s).natAbs ≤ zeroBand bs →
        (spindleOutputWork held s).gear.state = .draining ∧
        (spindleOutputWork held s).gear.drainCeiling = some (drainCeilingMs bs)) ∧
      (spindleDecel bs < s.gear.output.natAbs ∨ zeroBand bs < (actualSpeed s).natAbs →
        (spindleOutputWork held s).gear.state = .stoppingSpindle)) ∧
    (s.gear.state = .draining →
      ((readingOf s.inputs.readings.an1).2 = true ∨ drainThreshold bs ≤ s.inputs.tsc.getD 0 → gearStageWork s = s) ∧
      (∀ c, (readingOf s.inputs.readings.an1).2 = false → s.inputs.tsc.getD 0 < drainThreshold bs →
        s.bank.holder = some (.clamp c) → .gearbox ∉ s.bank.queue →
        gearStageWork s = { s with
          gear := { s.gear with state := .valveWait, drainCeiling := none }
          bank := { s.bank with queue := s.bank.queue ++ [.gearbox] } })) ∧
    (∀ r, s.gear.state = .shifting → s.gear.target = some r →
      (shownRange s ≠ some r → gearStageWork s = { s with gear := { s.gear with settle := 0 } }) ∧
      (shownRange s = some r → s.gear.settle + 1 < gearSettle bs →
        gearStageWork s = { s with gear := { s.gear with settle := s.gear.settle + 1 } }) ∧
      (shownRange s = some r → gearSettle bs ≤ s.gear.settle + 1 → s.bank.holder = some .gearbox →
        s.bank.queue = [] → SettledLaw s →
        (gearStageWork s).gear.engaged = some r ∧ (gearStageWork s).gear.next = none ∧
        (gearStageWork s).gear.output = 0 ∧ (gearStageWork s).gear.interlock = true ∧
        (gearStageWork s).gear.shiftCeiling = none ∧ (gearStageWork s).gear.wiggle = none ∧
        (gearStageWork s).bank = { s.bank with holder := none } ∧ isRaised .gearDone (gearStageWork s) = true ∧
        (s.gear.next = none →
          (gearStageWork s).gear.state = .engaged ∧ (gearStageWork s).gear.target = none) ∧
        (∀ q, s.gear.next = some q → q ≠ r →
          (gearStageWork s).gear.state = .stoppingSpindle ∧ (gearStageWork s).gear.target = some q) ∧
        (∀ cb, activeBytes s .compensation = some cb → s.gear.engaged ≠ some r → compEnable cb 1 = true →
          (gearStageWork s).comp = { s.comp with
            hardFirst := true
            updates := if compRestart cb = 255 then .always else .count (compRestart cb + 1) }) ∧
        (s.gear.engaged = some r ∨ (∀ cb, activeBytes s .compensation = some cb → compEnable cb 1 = false) →
          (gearStageWork s).comp = s.comp) ∧
        ((∀ tb, activeBytes s .triggers = some tb → triggerEntry tb .gearEnd = none) →
          (gearStageWork s).coolant = { s.coolant with
            withheld := s.coolant.requested.tscPump && decide (s.coolant.tank ≠ .inactive)
            announced := if s.gear.next = none ∨ s.gear.next = some r then [] else [.gearBegin] }) ∧
        (∀ tb p run, activeBytes s .triggers = some tb → triggerEntry tb .gearEnd = some p → programSteps s p ≠ 0 →
          s.link.state ≠ .offline → s.link.state ≠ .halted → s.coolant.running = some run → run.program ≠ p →
          p ∉ s.coolant.queue → s.coolant.queue.length < 4 →
          (gearStageWork s).coolant.queue = s.coolant.queue ++ [p]))) ∧
    (s.gear.state = .unknown →
      (s.gear.forkLoss = true ∨ shownRange s = none → gearStageWork s = s) ∧
      (∀ r, s.gear.forkLoss = false → shownRange s = some r → gearStageWork s =
        { s with gear := { s.gear with state := .engaged, engaged := some r, interlock := true } })) ∧
    (∀ f r, s.gear.state = .engaged → s.gear.engaged = some r → shownRange s = some r →
      showsPattern bs f r = false →
      forksChanged f s = { s with
        gear := { s.gear with state := .unknown, engaged := none, output := 0, forks := f, forkLoss := true }
        flags := { s.flags with raised := s.flags.raised ||| Flag.gearFault.bit } })

/-! ## The valve bank, the ceilings and the timers -/

/-- R65: the grant to a clamp at the head of the queue, and to the gearbox. -/
def Obligations.GrantStartsTransit : Prop :=
  ∀ (rest : List Claimant) (s : State), SettledLaw s → s.bank.holder = none → s.bank.pressureOk = true →
    s.link.state ≠ .offline → s.link.state ≠ .halted →
    (∀ a, s.bank.queue = .clamp a :: rest → (s.clamps.get a).state = .unclampWait →
      exec .valveBankGrant s = .next { s with
        bank := { s.bank with queue := rest, holder := some (.clamp a) }
        clamps := s.clamps.set a ⟨.unclamping, some (unclampCeiling s a), 0⟩ }) ∧
    (∀ a recovery, s.bank.queue = .clamp a :: rest → (s.clamps.get a).state = .clampWait recovery →
      exec .valveBankGrant s = .next { s with
        bank := { s.bank with queue := rest, holder := some (.clamp a) }
        clamps := s.clamps.set a ⟨.clamping, some (clampCeiling s a), 0⟩ }) ∧
    (∀ bs r, s.bank.queue = .gearbox :: rest → s.gear.state = .valveWait → activeBytes s .gear = some bs →
      s.gear.target = some r →
      exec .valveBankGrant s = .next { s with
        bank := { s.bank with queue := rest, holder := some .gearbox }
        gear := { s.gear with
          state := .shifting, settle := 0, shiftCeiling := some (shiftCeilingMs bs r),
          wiggle := some (wiggleHalfMs bs r), phasePositive := true,
          output := if s.link.state = .running then (wiggleSpeed bs r : Int) else 0 } })

/-- R70 to R76, R78, R79: a clamp's ceiling expires in the state it bounds, with nothing else queued and no wait or grant
on the axis; and a clamp's ordinary path at an expiry while another claimant holds the bank or the transit is its own:
claim, withdrawal, confirm, still count, reclamp, and FAULT where a confirm is lost, which ends a wait or grant. That the
loss decides over a renewed want in CLAMP_WAIT is read from R71 and R74 (DEDUCED, log entry 10), and that the wait or
grant so ended keeps its permit mark and still count is the model's choice (log entry 36). -/
def Obligations.ClampCeilingsEndInFault : Prop :=
  (∀ (a : ClampAxis) (n : Nat) (s : State), SettledLaw s → (s.clamps.get a).ceiling = some n →
    s.pendant.grant ≠ .waiting a.axis → s.pendant.grant ≠ .granted a.axis →
    ((s.clamps.get a).state = .unclamping → s.bank.holder = some (.clamp a) → s.bank.queue = [] →
      exec (.unclampCeilingExpiry a) s = .next { s with
        clamps := s.clamps.set a ⟨.fault, none, 0⟩, bank := { s.bank with holder := none }
        flags := { s.flags with raised := s.flags.raised ||| Flag.clampFault.bit } }) ∧
    ((s.clamps.get a).state = .clamping → s.bank.holder = some (.clamp a) → s.bank.queue = [] →
      exec (.clampCeilingExpiry a) s = .next { s with
        clamps := s.clamps.set a ⟨.fault, none, 0⟩, bank := { s.bank with holder := none }
        flags := { s.flags with raised := s.flags.raised ||| Flag.clampFault.bit } }) ∧
    ((s.clamps.get a).state = .clampWait true → s.bank.holder ≠ some (.clamp a) →
      exec (.dropCeilingExpiry a) s = .next { s with
        clamps := s.clamps.set a ⟨.fault, none, 0⟩
        bank := { s.bank with queue := s.bank.queue.erase (.clamp a) }
        flags := { s.flags with raised := s.flags.raised ||| Flag.clampFault.bit } })) ∧
  (∀ (a : ClampAxis) (wanted : Bool) (other : Claimant) (s : State), s.bank.holder = some other → other ≠ .clamp a →
    ((s.clamps.get a).state = .clamped → s.seen.reading.get a = .clampedConfirm → .clamp a ∉ s.bank.queue →
      clampInForceWork wanted a s = (if wanted then { s with
        clamps := s.clamps.set a ⟨.unclampWait, none, 0⟩
        bank := { s.bank with queue := s.bank.queue ++ [.clamp a] } } else s)) ∧
    ((s.clamps.get a).state = .unclampWait →
      clampInForceWork wanted a s = (if wanted then s else { s with
        clamps := s.clamps.set a ⟨.clamped, none, 0⟩
        bank := { s.bank with queue := s.bank.queue.erase (.clamp a) } })) ∧
    ((s.clamps.get a).state = .unclamped → s.seen.reading.get a = .unclampedConfirm → .clamp a ∉ s.bank.queue →
      clampInForceWork wanted a s =
        (if wanted = true ∨ s.seen.step.get a.axis ≠ 0 then
          { s with clamps := s.clamps.set a { s.clamps.get a with settle := 0 } }
        else if (s.clamps.get a).settle + 1 < stillFrames s a.axis then
          { s with clamps := s.clamps.set a { s.clamps.get a with settle := (s.clamps.get a).settle + 1 } }
        else { s with
          clamps := s.clamps.set a ⟨.clampWait false, none, 0⟩
          bank := { s.bank with queue := s.bank.queue ++ [.clamp a] } })) ∧
    ((s.clamps.get a).state = .clampWait false → s.seen.reading.get a = .unclampedConfirm →
      clampInForceWork wanted a s = (if wanted then { s with
        clamps := s.clamps.set a ⟨.unclamped, none, 0⟩
        bank := { s.bank with queue := s.bank.queue.erase (.clamp a) } } else s)) ∧
    (((s.clamps.get a).state = .clamped ∧ s.seen.reading.get a ≠ .clampedConfirm) ∨
      (((s.clamps.get a).state = .unclamped ∨ (s.clamps.get a).state = .clampWait false) ∧
        s.seen.reading.get a ≠ .unclampedConfirm) →
      clampInForceWork wanted a s = { s with
        clamps := s.clamps.set a ⟨.fault, none, 0⟩
        bank := { s.bank with queue := s.bank.queue.erase (.clamp a) }
        flags := { s.flags with raised := s.flags.raised ||| Flag.clampFault.bit |||
          (if s.pendant.grant = .granted a.axis then Flag.pendantReleased.bit else 0) }
        pendant := (if s.pendant.grant = .granted a.axis then
            { s.pendant with grant := .free, distance := 0, commandMark := false }
          else if s.pendant.grant = .waiting a.axis then { s.pendant with grant := .free } else s.pendant)
        axes := (if s.pendant.grant = .granted a.axis then
            s.axes.set a.axis { s.axes.get a.axis with frozen := none } else s.axes) })) ∧
  (∀ (a : ClampAxis) (wanted : Bool) (bs : List Byte) (start done : ClampState) (want : SwitchReading) (s : State),
    activeBytes s .clamp = some bs → s.bank.holder = some (.clamp a) → s.bank.queue = [] →
    (start, want, done) = (.unclamping, .unclampedConfirm, .unclamped) ∨
      (start, want, done) = (.clamping, .clampedConfirm, .clamped) →
    (s.clamps.get a).state = start →
    clampInForceWork wanted a s =
      (if s.seen.reading.get a ≠ want then
        { s with clamps := s.clamps.set a { s.clamps.get a with settle := 0 } }
      else if (s.clamps.get a).settle + 1 < confirmSettle bs a then
        { s with clamps := s.clamps.set a { s.clamps.get a with settle := (s.clamps.get a).settle + 1 } }
      else { s with
        clamps := s.clamps.set a ⟨done, none, 0⟩, bank := { s.bank with holder := none }
        flags := { s.flags with raised := s.flags.raised ||| Flag.clampDone.bit } })) ∧
  (∀ (held : Option CycleFrame) (a : ClampAxis) (s : State),
    (clampInForce s a = true → clampWork held a s = clampInForceWork (wantedUnclamped held a s) a s) ∧
    (clampAbsent s a = true → clampWork held a s = s) ∧
    (wantedUnclamped held a s = true ↔ s.link.state = .running ∧
      ((∃ f, held = some f ∧ (f.axes.get a.axis).unclamp = true) ∨
       (s.seen.grant = .waiting a.axis ∧ s.seen.permitMark = true) ∨ s.seen.grant = .granted a.axis)))

/-- R94 to R96, R98, R100, R102, R103: the drain ceiling sends the gearbox into VALVE_WAIT with a claim at the tail; the
shift ceiling ends SHIFTING in FAULT and gives up the bank; the wiggle half-period turns the sign of the wiggle and starts
again; what a range request does in each gear state; and STOPPING and LINK_LOST abandon a change that has not reached
SHIFTING. That a shift which ends in FAULT keeps its settle count and wiggle phase, and that nothing changes them outside
SHIFTING, is the model's choice (log entry 40). -/
def Obligations.GearTimersExpire : Prop :=
  (∀ (n : Nat) (s : State), SettledLaw s →
    (s.gear.state = .draining → s.gear.drainCeiling = some n → .gearbox ∉ s.bank.queue →
      (∃ c, s.bank.holder = some (.clamp c)) →
      exec .drainCeilingExpiry s = .next { s with
        gear := { s.gear with state := .valveWait, drainCeiling := none }
        bank := { s.bank with queue := s.bank.queue ++ [.gearbox] } }) ∧
    (s.gear.state = .shifting → s.gear.shiftCeiling = some n → s.bank.holder = some .gearbox →
      s.bank.queue = [] →
      exec .shiftCeilingExpiry s = .next { s with
        gear := { s.gear with state := .fault, output := 0, next := none, target := none, engaged := none,
                              drainCeiling := none, shiftCeiling := none, wiggle := none }
        bank := { s.bank with holder := none }
        flags := { s.flags with raised := s.flags.raised ||| Flag.gearFault.bit } }) ∧
    (∀ bs r, s.gear.state = .shifting → s.gear.wiggle = some n → activeBytes s .gear = some bs →
      s.gear.target = some r → s.link.state = .running →
      exec .wiggleTimerExpiry s = .next { s with gear := { s.gear with
        phasePositive := !s.gear.phasePositive, wiggle := some (wiggleHalfMs bs r)
        output := if s.gear.phasePositive then -(wiggleSpeed bs r : Int) else (wiggleSpeed bs r : Int) } })) ∧
  (∀ (f : CycleFrame) (s u : State), u = { s with gear := { s.gear with lastRequest := rangeOfNat f.range.toNat } } →
    (f.range = 0 ∨ 4 < f.range.toNat → rangeOfNat f.range.toNat = none ∧ rangeRequestWork f s = u) ∧
    (∀ r, rangeOfNat f.range.toNat = some r → s.gear.lastRequest = some r ∨ s.link.state ≠ .running →
      rangeRequestWork f s = u) ∧
    (∀ r, rangeOfNat f.range.toNat = some r → s.gear.lastRequest ≠ some r → s.link.state = .running →
      (s.gear.state = .engaged → s.gear.engaged = some r → rangeRequestWork f s =
        { u with flags := { s.flags with raised := s.flags.raised ||| Flag.gearDone.bit } }) ∧
      ((s.gear.state = .engaged ∧ s.gear.engaged ≠ some r) ∨ s.gear.state = .unknown → rangeRequestWork f s =
        { u with gear := { u.gear with state := .stoppingSpindle, target := some r }
                 coolant := { s.coolant with announced := s.coolant.announced ++ [.gearBegin] } }) ∧
      (s.gear.state = .stoppingSpindle ∨ s.gear.state = .draining ∨ s.gear.state = .valveWait →
        rangeRequestWork f s = { u with gear := { u.gear with target := some r } }) ∧
      (s.gear.state = .shifting → rangeRequestWork f s =
        { u with gear := { u.gear with next := if s.gear.target = some r then none else some r } }) ∧
      (s.gear.state = .fault → rangeRequestWork f s =
        { u with flags := { s.flags with raised := s.flags.raised ||| Flag.gearRequestRefused.bit } }))) ∧
  (∀ s : State, (s.link.state ≠ .stopping → s.link.state ≠ .linkLost → gearLeaveWork s = s) ∧
    (s.link.state = .stopping ∨ s.link.state = .linkLost →
      (s.gear.state.changing = false ∨ s.gear.state = .shifting →
        gearLeaveWork s = { s with gear := { s.gear with next := none } }) ∧
      (s.gear.state = .stoppingSpindle ∨ s.gear.state = .draining ∨ s.gear.state = .valveWait →
        gearLeaveWork s = { s with
          gear := { s.gear with
            next := none, target := none, drainCeiling := none, shiftCeiling := none, wiggle := none
            engaged := shownRange s
            state := if shownRange s = none then .unknown else .engaged
            output := if shownRange s = none then 0 else s.gear.output
            interlock := if shownRange s = none then s.gear.interlock else true }
          bank := { s.bank with queue := s.bank.queue.erase .gearbox } })))

/-- R113 to R118, R123 to R125: the wait ceiling ends a program abnormally, the pause's end its last step normally; the
oldest of the queue is removed and started where none runs; the lube interval starts again at its expiry. At an expiry a
running wait is tested on what the previous drive frame left, the travel of four axes makes LUBE_DUE, and the tank's
sample makes the warning. -/
def Obligations.CoolantEventsAct : Prop :=
  (∀ (p : Fin 8) (i n : Nat) (bs : List Byte) (s : State), SettledLaw s →
    (s.coolant.queue = [] → s.coolant.running = some ⟨p, i, .wait n⟩ →
      exec .waitCeilingExpiry s = .next { s with
        coolant := { s.coolant with running := none }
        flags := { s.flags with raised := s.flags.raised ||| Flag.coolantFault.bit } }) ∧
    (s.coolant.queue = [] → s.coolant.running = some ⟨p, i, .pause n⟩ → present s .programs = true →
      i = programSteps s p →
      exec .pauseEnd s = .next { s with
        coolant := { s.coolant with running := none }
        flags := { s.flags with raised := s.flags.raised ||| Flag.coolantDone.bit } }) ∧
    (∀ rest, withholding s = false → s.coolant.running = none → s.coolant.queue = p :: rest →
      activeBytes s .programs = some bs → 1 ≤ programSteps s p → stepWait bs p 1 = .none → stepPause bs p 1 ≠ 0 →
      exec .queuedProgramStart s = .next { s with coolant := { s.coolant with
        queue := rest, requested := patterned bs p 1 s.coolant.requested
        running := some ⟨p, 1, .pause (stepPause bs p 1)⟩ } }) ∧
    (s.coolant.lube = .running n → activeBytes s .triggers = some bs → lubeInterval bs ≠ 0 →
      s.link.state ≠ .offline → s.link.state ≠ .halted → triggerEntry bs .lubeDue = none →
      exec .lubeIntervalExpiry s = .next { s with coolant := { s.coolant with lube := .running (lubeInterval bs) } })) ∧
  (∀ (p : Fin 8) (i n : Nat) (bs : List Byte) (holds : Bool) (s : State), activeBytes s .programs = some bs →
    s.coolant.running = some ⟨p, i, .wait n⟩ →
    holds = (match stepWait bs p i with
      | .none => true
      | .atSpeed => s.seen.spindleAtSpeed
      | .stopped => s.seen.spindleStopped
      | .pressureLow => (match activeBytes s .gear with
        | some g => !s.seen.tsc.faulted && decide (s.seen.tsc.value < drainThreshold g)
        | none => false)
      | .pressureHigh => (match activeBytes s .triggers with
        | some g => s.seen.tsc.faulted || decide (buildThreshold g ≤ s.seen.tsc.value)
        | none => s.seen.tsc.faulted)) →
    (holds = false → coolantWaitWork s = s) ∧
    (holds = true → stepPause bs p i ≠ 0 → coolantWaitWork s =
      { s with coolant := { s.coolant with running := some ⟨p, i, .pause (stepPause bs p i)⟩ } }) ∧
    (holds = true → stepPause bs p i = 0 → i = programSteps s p → s.coolant.queue = [] → coolantWaitWork s =
      { s with coolant := { s.coolant with running := none }
               flags := { s.flags with raised := s.flags.raised ||| Flag.coolantDone.bit } })) ∧
  (∀ (bs : List Byte) (travel : Nat) (s : State), activeBytes s .triggers = some bs →
    travel = min (2 * lubeDistance bs) (s.coolant.travel + s.seen.step.x.natAbs + s.seen.step.y.natAbs +
      s.seen.step.z.natAbs + s.seen.step.w.natAbs) →
    (lubeDistance bs = 0 ∨ s.link.state.moving = false → travelWork s = s) ∧
    (lubeDistance bs ≠ 0 → s.link.state.moving = true → travel < lubeDistance bs →
      travelWork s = { s with coolant := { s.coolant with travel := travel } }) ∧
    (lubeDistance bs ≠ 0 → s.link.state.moving = true → lubeDistance bs ≤ travel →
      travelWork s = { s with coolant := { s.coolant with
        travel := travel - lubeDistance bs
        lube := if lubeInterval bs = 0 then .stopped else .running (lubeInterval bs)
        announced := s.coolant.announced ++ [.lubeDue] } })) ∧
  (∀ (bs : List Byte) (w : TankWarning) (s : State), activeBytes s .triggers = some bs →
    w = (if (readingOf s.inputs.readings.an2).2 = true ∨ tankThreshold bs ≤ s.inputs.tankTemp.getD 0 then .active
      else if s.inputs.tankTemp.getD 0 ≤ tankThreshold bs - tankHysteresis bs then .inactive
      else if s.coolant.tank = .active then .active else .inactive) →
    tankWork s = if w = .active ∧ s.coolant.tank ≠ .active then
        { s with coolant := { s.coolant with tank := w, announced := s.coolant.announced ++ [.tankWarn] }
                 flags := { s.flags with raised := s.flags.raised ||| Flag.tankWarn.bit } }
      else { s with coolant := { s.coolant with tank := w } })

/-! ## Activation, E-stop and handwheel -/

/-- R14: the activation ceiling ends ACTIVATING in STANDBY with drive enable OFF. -/
def Obligations.ActivationCeilingFails : Prop :=
  ∀ (n : Nat) (s : State), SettledLaw s → s.link.state = .activating → s.link.activation = some n →
    (∀ a, (s.clamps.get a).state ≠ .dropped) →
    ∃ t, exec .activationCeilingExpiry s = .next t ∧ t.link.state = .standby ∧ t.link.enable = false ∧
      t.link.activation = none ∧ t.link.chainMiss = 0 ∧
      t.flags = { s.flags with raised := s.flags.raised ||| Flag.activateFault.bit } ∧
      (∀ a, (t.axes.get a).offset = 0 ∧ (t.axes.get a).frozen = none ∧ (t.axes.get a).step = 0 ∧
        (t.axes.get a).out = (s.axes.get a).out ∧ (t.axes.get a).newer = (s.axes.get a).newer) ∧
      t.clamps = s.clamps ∧ t.bank = s.bank ∧ t.gear = s.gear ∧ t.comp = s.comp ∧ t.pendant = s.pendant ∧
      t.inputs = s.inputs ∧ t.store = s.store ∧ t.sent = s.sent

/-- R17, R38, R77, R104, R112, R139: an E-stop opening halts the part from every state but OFFLINE and HALTED, where
only the level changes; a closing changes only the level. -/
def Obligations.EstopOpeningHalts : Prop :=
  ∀ s : State, SettledLaw s →
    ((s.link.state = .offline ∨ s.link.state = .halted) →
      exec .estopOpening s = .next { s with inputs := { s.inputs with estopOpen := true } }) ∧
    (s.link.state ≠ .offline → s.link.state ≠ .halted →
      ∃ t, exec .estopOpening s = .next t ∧ t.link.state = .halted ∧ t.link.cause = .estop ∧
        t.link.enable = false ∧ t.link.activation = none ∧ t.link.slot = s.link.slot ∧
        t.inputs = { s.inputs with estopOpen := true } ∧ isRaised .halted t = true ∧
        (∀ a, (t.axes.get a).offset = 0 ∧ (t.axes.get a).frozen = none ∧ (t.axes.get a).step = 0) ∧
        (∀ a, (t.clamps.get a).state = droppedState (s.clamps.get a).state ∧ (t.clamps.get a).ceiling = none) ∧
        t.bank.queue = [] ∧ t.bank.holder = none ∧ t.gear.output = 0 ∧
        t.coolant.running = none ∧ t.coolant.queue = [] ∧ t.coolant.requested = outputsOff ∧
        t.comp.windowCount = 0 ∧ (∀ a, t.pendant.grant ≠ .granted a) ∧ t.store = s.store) ∧
    exec .estopClosing s = .next { s with inputs := { s.inputs with estopOpen := false } }

/-- R133, R134: a change of one phase is an edge, forward or backward by the pairs' order and inverted by REVERSED; an
edge that does not complete a detent is counted; one that does leaves the accumulator at 0 and adds the increment's
distance, within the pending limit, while an axis is granted and the enable HELD, and is discarded otherwise; both phases
changed raise PHASE_ERROR. Without the table a detent is four edges, NORMAL, and discarded. -/
def Obligations.HandwheelCountsEdges : Prop :=
  ∀ (a b forward : Bool) (s u : State), SettledLaw s →
    u = { s with pendant := { s.pendant with phaseA := a, phaseB := b } } →
    forward = (if a = s.pendant.phaseA then decide (a = b) else decide (a ≠ b)) →
    (a = s.pendant.phaseA → b = s.pendant.phaseB → exec (.handwheelEdge a b) s = .next s) ∧
    (a ≠ s.pendant.phaseA → b ≠ s.pendant.phaseB → exec (.handwheelEdge a b) s = .next
      { u with flags := { s.flags with raised := s.flags.raised ||| Flag.phaseError.bit } }) ∧
    (∀ (bs : List Byte) (sum : Int), activeBytes s .pendant = some bs →
      (a = s.pendant.phaseA ↔ b ≠ s.pendant.phaseB) →
      sum = (if forward = wheelReversed bs then s.pendant.edges - 1 else s.pendant.edges + 1) →
      (sum.natAbs < edgesPerDetent bs →
        exec (.handwheelEdge a b) s = .next { u with pendant := { u.pendant with edges := sum } }) ∧
      (edgesPerDetent bs ≤ sum.natAbs → s.pendant.enable ≠ .held ∨ (∀ q, s.pendant.grant ≠ .granted q) →
        exec (.handwheelEdge a b) s = .next { u with pendant := { u.pendant with edges := 0 } }) ∧
      (∀ (q : Axis) (d : Int), edgesPerDetent bs ≤ sum.natAbs → s.pendant.enable = .held →
        s.pendant.grant = .granted q →
        d = s.pendant.distance + (if 0 ≤ sum then (incrementDistance bs s.pendant.increment : Int)
          else -(incrementDistance bs s.pendant.increment : Int)) →
        (d.natAbs ≤ pendingLimit bs →
          exec (.handwheelEdge a b) s = .next { u with pendant := { u.pendant with edges := 0, distance := d } }) ∧
        (pendingLimit bs < d.natAbs →
          exec (.handwheelEdge a b) s = .next { u with
            pendant := { u.pendant with edges := 0,
                                        distance := if 0 < d then (pendingLimit bs : Int) else -(pendingLimit bs : Int) }
            flags := { s.flags with raised := s.flags.raised ||| Flag.handwheelDiscard.bit } }))) ∧
    (∀ sum : Int, activeBytes s .pendant = none → (a = s.pendant.phaseA ↔ b ≠ s.pendant.phaseB) →
      sum = (if forward then s.pendant.edges + 1 else s.pendant.edges - 1) →
      exec (.handwheelEdge a b) s = .next { u with pendant := { u.pendant with
        edges := if sum.natAbs < 4 then sum else 0 } })

/-! ## Table store -/

/-- R159: no service is taken in OFFLINE, and a body of the wrong length is answered BAD_PARAM
with no other effect, and a record of unknown kind is answered UNKNOWN_KIND. -/
def Obligations.ServicesJudgeLinkAndLength : Prop :=
  ∀ (b : List Byte) (o : List ClampAxis) (n : Fin 237) (s : State), SettledLaw s →
    (s.link.state = .offline → ∀ c ∈ [Instr.readInfo b, .writeSegment b, .readSegment b, .commit b o, .store b,
        .start b, .stop b, .recover b o, .restart b, .readFlags b, .clearFlags b, .setMask b, .coolantTrigger b,
        .coolantStop b, .compTrigger b, .growthZero b, .clearFault b, .readState b, .unknownKind n b],
      exec c s = .next s) ∧
    (s.link.state ≠ .offline → ∀ c ∈ [(ServiceKind.readInfo, Instr.readInfo b), (.writeSegment, .writeSegment b),
        (.readSegment, .readSegment b), (.commit, .commit b o), (.store, .store b), (.start, .start b),
        (.stop, .stop b), (.recover, .recover b o), (.restart, .restart b), (.readFlags, .readFlags b),
        (.setMask, .setMask b), (.coolantTrigger, .coolantTrigger b), (.clearFlags, .clearFlags b),
        (.coolantStop, .coolantStop b), (.compTrigger, .compTrigger b), (.growthZero, .growthZero b),
        (.clearFault, .clearFault b), (.readState, .readState b)],
      bodyLengthOk c.1 b = false → exec c.2 s = .next { s with sent := { s.sent with
        answer := ⟨c.1.code, .badParam, []⟩ } }) ∧
    (s.link.state ≠ .offline → exec (.unknownKind n b) s = .next { s with sent := { s.sent with
      answer := ⟨BitVec.ofNat 8 (19 + n.val), .unknownKind, []⟩ } })

/-- R160, R163, R169, R174: what the reading services answer; they change nothing but the answer. The four records of
READ_STATE hold their fields as 11.5.1 lays them out. The two timer fields of a stopped timer are free (log entry 13) and
nothing is said of them; the unused bits of the COOLANT record's outputs are 0 (log entry 38), a tank temperature that was
never sampled reads 0 (log entry 5), and the permit mark and still count outside WAITING are log entry 36. -/
def Obligations.ReadingServicesAnswer : Prop :=
  ∀ s : State, SettledLaw s → s.link.state ≠ .offline →
    exec (.readInfo []) s = .next { s with sent := { s.sent with answer := ⟨1, .ok,
      ([0x4E, 0x04, 0x18, 0x03] : List Byte) ++ allTables.flatMap (fun t => match s.store.active.get t with
        | some i => (1 : Byte) :: be16 i.signature.toNat
        | none => ([0, 0, 0] : List Byte)) ++ be8 s.store.state.code⟩ } } ∧
    exec (.readFlags []) s = .next { s with sent := { s.sent with answer := ⟨10, .ok,
      flagSetBytes s.flags.raised ++ flagSetBytes s.flags.mask⟩ } } ∧
    (∀ (t : TableId) (off n : Nat), 1 ≤ n → n ≤ 44 → off + n ≤ tableSizes.get t →
      exec (.readSegment (be8 t.index ++ [0] ++ be16 off ++ be8 n)) s = .next { s with sent := { s.sent with
        answer := ⟨3, .ok, be8 t.index ++ [0] ++ be16 off ++ ((s.store.staging.get t).drop off).take n⟩ } } ∧
      (∀ img, s.store.active.get t = some img →
        exec (.readSegment (be8 t.index ++ [1] ++ be16 off ++ be8 n)) s = .next { s with sent := { s.sent with
          answer := ⟨3, .ok, be8 t.index ++ [1] ++ be16 off ++ (img.bytes.drop off).take n⟩ } }) ∧
      (s.store.active.get t = none →
        exec (.readSegment (be8 t.index ++ [1] ++ be16 off ++ be8 n)) s = .next { s with sent := { s.sent with
          answer := ⟨3, .tableAbsent, []⟩ } })) ∧
    exec (.readState [0]) s = .next { s with sent := { s.sent with answer := ⟨18, .ok, bankRecord s⟩ } } ∧
    exec (.readState [1]) s = .next { s with sent := { s.sent with answer := ⟨18, .ok, coolantRecord s⟩ } } ∧
    exec (.readState [2]) s = .next { s with sent := { s.sent with answer := ⟨18, .ok, growthRecord s⟩ } } ∧
    exec (.readState [3]) s = .next { s with sent := { s.sent with answer := ⟨18, .ok, pendantRecord s⟩ } } ∧
    (∀ v : Byte, 4 ≤ v.toNat → exec (.readState [v]) s = .next { s with sent := { s.sent with
      answer := ⟨18, .badParam, []⟩ } }) ∧
    (s.bank.queue.length ≤ 5 → s.bank.disagree < 256 →
      let w := bankRecord s
      let claimant (c : Option Claimant) : Nat := match c with
        | none => 0
        | some (.clamp .x) => 1
        | some (.clamp .y) => 2
        | some (.clamp .z) => 3
        | some (.clamp .b) => 4
        | some .gearbox => 5
      w.length = 9 ∧ byteAt w 0 = claimant s.bank.holder ∧ byteAt w 1 = s.bank.queue.length ∧
      (∀ i, i < 5 → byteAt w (2 + i) = claimant s.bank.queue[i]?) ∧
      byteAt w 7 = (if s.bank.pressureOk then 1 else 0) ∧ byteAt w 8 = s.bank.disagree) ∧
    (s.coolant.queue.length ≤ 4 → s.coolant.travel < 4294967296 →
      -32768 ≤ s.inputs.tankTemp.getD 0 → s.inputs.tankTemp.getD 0 ≤ 32767 →
      let w := coolantRecord s
      let program (p : Option (Fin 8)) : Nat := match p with
        | none => 255
        | some p => p.val
      let bit (b : Bool) (k : Nat) : Nat := if b then 2 ^ k else 0
      let r := s.coolant.requested
      w.length = 24 ∧ byteAt w 0 = program (s.coolant.running.map Run.program) ∧
      (s.coolant.running = none → byteAt w 1 = 0 ∧ byteAt w 2 = 0 ∧ u16At w 5 = 0) ∧
      (∀ p i n, i < 256 → n < 65536 → s.coolant.running = some ⟨p, i, .wait n⟩ →
        byteAt w 1 = i ∧ byteAt w 2 = 1 ∧ u16At w 3 = n ∧ u16At w 5 = 0) ∧
      (∀ p i n, i < 256 → n < 65536 → s.coolant.running = some ⟨p, i, .pause n⟩ →
        byteAt w 1 = i ∧ byteAt w 2 = 2 ∧ u16At w 5 = n) ∧
      byteAt w 7 = s.coolant.queue.length ∧ (∀ i, i < 4 → byteAt w (8 + i) = program s.coolant.queue[i]?) ∧
      byteAt w 12 = bit r.flood 0 + bit r.tscPump 1 + bit r.tscDrain 2 + bit r.mist 3 + bit r.conveyor 4 + bit r.lube 5 ∧
      byteAt w 13 = (if s.coolant.withheld then 1 else 0) ∧ u32At w 14 = s.coolant.travel ∧
      (s.coolant.lube = .stopped → byteAt w 18 = 0) ∧
      (∀ n, n < 65536 → (s.coolant.lube = .running n → byteAt w 18 = 1 ∧ u16At w 19 = n) ∧
        (s.coolant.lube = .held n → byteAt w 18 = 2 ∧ u16At w 19 = n)) ∧
      s16At w 21 = s.inputs.tankTemp.getD 0 ∧
      byteAt w 23 = (match s.coolant.tank with
        | .unset => 0
        | .inactive => 1
        | .active => 2)) ∧
    (-32768 ≤ s.comp.applied → s.comp.applied ≤ 32767 → -2147483648 ≤ s.comp.lastMeasurement.getD 0 →
      s.comp.lastMeasurement.getD 0 ≤ 2147483647 → s.comp.windowCount < 256 → s.comp.stoppedMs < 4294967296 →
      let w := growthRecord s
      w.length = 16 ∧ s16At w 0 = s.comp.applied ∧ byteAt w 2 = (if s.comp.lastMeasurement = none then 0 else 1) ∧
      s32At w 3 = s.comp.lastMeasurement.getD 0 ∧ (s.comp.updates = .always → u16At w 7 = 65535) ∧
      (∀ n, n < 65536 → s.comp.updates = .count n → u16At w 7 = n) ∧
      byteAt w 9 = (if s.comp.hardFirst then 1 else 0) ∧ byteAt w 10 = s.comp.windowCount ∧
      byteAt w 11 = (if s.comp.windowFaulted then 1 else 0) ∧ u32At w 12 = s.comp.stoppedMs) ∧
    (s.pendant.stillCount < 256 → -2147483648 ≤ s.pendant.distance → s.pendant.distance ≤ 2147483647 →
      -128 ≤ s.pendant.edges → s.pendant.edges ≤ 127 → s.pendant.feedKnob.count < 256 →
      s.pendant.spindleKnob.count < 256 →
      let w := pendantRecord s
      let band (k : Option (Fin 16)) : Nat := match k with
        | none => 255
        | some k => k.val
      w.length = 16 ∧ (s.pendant.grant = .free → byteAt w 0 = 0 ∧ byteAt w 1 = 0) ∧
      (∀ a, (s.pendant.grant = .waiting a → byteAt w 0 = 1 ∧ byteAt w 1 = a.index + 1) ∧
        (s.pendant.grant = .granted a → byteAt w 0 = 2 ∧ byteAt w 1 = a.index + 1)) ∧
      byteAt w 2 = (if s.pendant.permitMark then 1 else 0) ∧ byteAt w 3 = s.pendant.stillCount ∧
      byteAt w 4 = (if s.pendant.commandMark then 1 else 0) ∧ s32At w 5 = s.pendant.distance ∧
      signed 8 (byteAt w 9) = s.pendant.edges ∧
      byteAt w 10 = band s.pendant.feedKnob.accepted ∧ byteAt w 11 = band s.pendant.feedKnob.candidate ∧
      byteAt w 12 = s.pendant.feedKnob.count ∧ byteAt w 13 = band s.pendant.spindleKnob.accepted ∧
      byteAt w 14 = band s.pendant.spindleKnob.candidate ∧ byteAt w 15 = s.pendant.spindleKnob.count)

/-- R162: WRITE_SEGMENT in its order of checks; a write that passes replaces the staging bytes and nothing else. -/
def Obligations.WriteSegmentWrites : Prop :=
  ∀ (id : Byte) (off : Nat) (data : List Byte) (s : State), SettledLaw s → s.link.state ≠ .offline →
    1 ≤ data.length → data.length ≤ 44 → off < 65536 →
    exec (.writeSegment (id :: be16 off ++ data)) s =
      .next (if s.store.state = .writing then
          { s with sent := { s.sent with answer := ⟨2, .busy, []⟩ } }
        else if s.link.state ≠ .standby then
          { s with sent := { s.sent with answer := ⟨2, .wrongState, []⟩ } }
        else match tableOfId id.toNat with
          | none => { s with sent := { s.sent with answer := ⟨2, .badParam, []⟩ } }
          | some t =>
            if off + data.length ≤ tableSizes.get t then
              { s with
                store := { s.store with staging := (s.store.staging.set t
                  ((s.store.staging.get t).take off ++ data ++ (s.store.staging.get t).drop (off + data.length))) }
                sent := { s.sent with answer := ⟨2, .ok, []⟩ } }
            else { s with sent := { s.sent with answer := ⟨2, .badParam, []⟩ } })

/-- R42, R60, R82, R106, R127, R129, R146, R156, R164: what a COMMIT is refused for, in its order, with neither copy
changed; and the owner's checks of each table, of which the first that fails names the offset of its field. -/
def Obligations.CommitRefusalOrder : Prop :=
  (∀ (t : TableId) (sig : BitVec 16) (o : List ClampAxis) (s : State), SettledLaw s → s.link.state ≠ .offline →
    (∀ id : Byte, s.store.state = .writing →
      exec (.commit (id :: be16 sig.toNat) o) s =
        .next { s with sent := { s.sent with answer := ⟨4, .busy, []⟩ } }) ∧
    (∀ id : Byte, s.store.state ≠ .writing → s.link.state ≠ .standby →
      exec (.commit (id :: be16 sig.toNat) o) s =
        .next { s with sent := { s.sent with answer := ⟨4, .wrongState, []⟩ } }) ∧
    (∀ id : Byte, s.store.state ≠ .writing → s.link.state = .standby → 7 < id.toNat →
      exec (.commit (id :: be16 sig.toNat) o) s =
        .next { s with sent := { s.sent with answer := ⟨4, .badParam, []⟩ } }) ∧
    (s.store.state ≠ .writing → s.link.state = .standby → crc16 (s.store.staging.get t) ≠ sig →
      exec (.commit (be8 t.index ++ be16 sig.toNat) o) s = .next { s with sent := { s.sent with
        answer := ⟨4, .badSignature, be8 t.index ++ be16 (crc16 (s.store.staging.get t)).toNat⟩ } }) ∧
    (∀ off, s.store.state ≠ .writing → s.link.state = .standby → crc16 (s.store.staging.get t) = sig →
      tableFailure t (s.store.staging.get t) = some off →
      exec (.commit (be8 t.index ++ be16 sig.toNat) o) s = .next { s with sent := { s.sent with
        answer := ⟨4, .badTable, be8 t.index ++ be16 off⟩ } })) ∧
  (∀ (t : TableId) (bs : List Byte),
    let field (lo hi n off : Nat) : Bool × Nat := (decide (lo ≤ n ∧ n ≤ hi), off)
    let one (lo hi off : Nat) := field lo hi (byteAt bs off) off
    let two (lo hi off : Nat) := field lo hi (u16At bs off) off
    let four (lo hi off : Nat) := field lo hi (u32At bs off) off
    tableFailure t bs = ((match t with
      | .envelope => one 1 7 0 :: [1, 19, 37, 55, 73].flatMap fun o =>
        [(decide (byteAt bs (o + 17) = 0 ∨ (byteAt bs (o + 17) = 1 ∧ o = 73)), o + 17),
         (decide (byteAt bs (o + 17) = 1 ∨ s32At bs o ≤ s32At bs (o + 4)), o + 4), two 1 65535 (o + 8),
         two 1 4095 (o + 10), (decide (u16At bs (o + 10) ≤ u16At bs (o + 8)), o + 10), four 1 1000000 (o + 12),
         one 1 255 (o + 16)]
      | .compensation => [four 16 4000000 38, two 0 4095 42, one 1 255 44, one 0 16 45, two 0 2000 49, one 0 15 51,
         one 1 255 52]
      | .gear => ([0, 13, 26, 39].flatMap fun o =>
        [two 0 2000 o, two 1 2000 (o + 2), (decide (u16At bs o ≤ u16At bs (o + 2)), o + 2), two 250 40000 (o + 4),
         two 1 6000 (o + 6), two 1 300 (o + 8), one 1 50 (o + 10),
         (decide ((byteAt bs (o + 11) % 16 = 1 ∨ byteAt bs (o + 11) % 16 = 2) ∧
           (byteAt bs (o + 11) / 16 = 1 ∨ byteAt bs (o + 11) / 16 = 2)), o + 11), one 1 100 (o + 12)]) ++
        ([0, 13, 26, 39].map fun o =>
          ([0, 13, 26, 39].all fun q => decide (q < o → byteAt bs (q + 11) ≠ byteAt bs (o + 11)), o + 11)) ++
        [one 1 200 52, one 1 50 53, one 1 255 54, one 1 15 55, one 1 50 56, one 1 100 57]
      | .clamp => ([0, 4, 8, 12].flatMap fun o => [one 0 1 o,
         (decide (byteAt bs o = 0 ∨ (1 ≤ byteAt bs (o + 1) ∧ byteAt bs (o + 1) ≤ 100)), o + 1),
         (decide (byteAt bs o = 0 ∨ (1 ≤ byteAt bs (o + 2) ∧ byteAt bs (o + 2) ≤ 100)), o + 2),
         (decide (byteAt bs o = 0 ∨ (1 ≤ byteAt bs (o + 3) ∧ byteAt bs (o + 3) ≤ 15)), o + 3)]) ++
        [one 0 7 16, one 1 64 17, one 1 100 18]
      | .programs => (List.range 8).flatMap fun p => one 0 6 (37 * p) ::
          ((List.range (min 6 (byteAt bs (37 * p)))).map fun i => 37 * p + 1 + 6 * i).flatMap fun o =>
            [(decide (∀ k < 6, u16At bs o / 4 ^ k % 4 ≠ 3), o), one 0 4 (o + 2),
             (decide (byteAt bs (o + 2) = 0 ∨ (1 ≤ byteAt bs (o + 3) ∧ byteAt bs (o + 3) ≤ 255)), o + 3),
             two 0 6000 (o + 4)]
      | .triggers => ((List.range 16).map fun k => (decide (byteAt bs k ≤ 7 ∨ byteAt bs k = 255), k)) ++
        [four 0 100000000 16, one 30 60 22, one 1 10 23, one 1 100 24]
      | .pendant => [(decide (byteAt bs 0 = 1 ∨ byteAt bs 0 = 2 ∨ byteAt bs 0 = 4), 0), one 0 1 1, two 1 1000 2,
         two 1 1000 4, two 1 1000 6, two 1 65535 8, four 0 1000000 10, four 0 2000000 14] ++
        (List.range 16).map fun k => one 0 150 (18 + k)
      | .inputs => [one 0 15 0, one 0 15 1, one 0 15 2, two 100 6000 3, two 100 6000 5,
         (decide (-500 ≤ s16At bs 7 ∧ s16At bs 7 ≤ 500), 7), two 1 2000 9] : List (Bool × Nat)).find? fun c => !c.1).map Prod.snd)

/-- R61, R83, R107, R128, R130, R146, R165: a COMMIT that passes makes the staging copy the active one, with the effects
of its owner, and leaves every other table and block as it was. The readings of a clamp's switches at a COMMIT are those
of the previous drive frame (log entry 32), and a clamp is kept or recovers as in log entry 8. A shift that a COMMIT of the
gear table ends keeps its settle count and wiggle phase (log entry 40). -/
def Obligations.CommitActivatesStagingCopy : Prop :=
  ∀ (t : TableId) (o : List ClampAxis) (s : State), SettledLaw s → s.link.state = .standby →
    s.store.state ≠ .writing → tableFailure t (s.store.staging.get t) = none →
    ∃ u, exec (.commit (be8 t.index ++ be16 (crc16 (s.store.staging.get t)).toNat) o) s = .next u ∧
      u.store = { s.store with
        active := s.store.active.set t (some ⟨s.store.staging.get t, crc16 (s.store.staging.get t)⟩) } ∧
      (∀ q, q ≠ t → u.store.active.get q = s.store.active.get q) ∧ u.link = s.link ∧ u.axes = s.axes ∧
      u.inputs = s.inputs ∧ u.seen = s.seen ∧
      u.sent = { s.sent with answer :=
        ⟨4, .ok, be8 t.index ++ be16 (crc16 (s.store.staging.get t)).toNat⟩ } ∧
      (t = .compensation → u.comp = { s.comp with
        applied := 0, windowSum := 0, windowCount := 0, windowFaulted := false, hardFirst := true
        lastMeasurement := none, updates := updatesOf (compRestart (s.store.staging.get t))
        droop := droopAt (s.store.staging.get t) s.seen.out.w }) ∧
      (t = .programs → u.coolant = { s.coolant with running := none, queue := [] }) ∧
      (t = .triggers → u.coolant = { s.coolant with
        travel := min (2 * lubeDistance (s.store.staging.get t)) s.coolant.travel
        lube := if lubeInterval (s.store.staging.get t) = 0 then .stopped
          else .running (lubeInterval (s.store.staging.get t)) }) ∧
      (t = .pendant → u.pendant = { s.pendant with
        edges := 0
        feedOverride := (match s.pendant.feedKnob.accepted with
          | some k => feedBand (s.store.staging.get t) k
          | none => s.pendant.feedOverride)
        spindleOverride := (match s.pendant.spindleKnob.accepted with
          | some k => spindleBand (s.store.staging.get t) k
          | none => s.pendant.spindleOverride) }) ∧
      (t = .gear →
        (s.gear.state = .engaged ∨ s.gear.state = .unknown → u.gear =
          (if shownRange u = none then { s.gear with state := .unknown, engaged := none, output := 0 }
            else if s.gear.state = .engaged ∧ s.gear.engaged = shownRange u then s.gear
            else { s.gear with state := .engaged, engaged := shownRange u, interlock := true })) ∧
        (s.gear.state = .shifting → u.gear = { s.gear with
            target := none, next := none, output := 0, drainCeiling := none, shiftCeiling := none, wiggle := none
            engaged := shownRange u
            state := if shownRange u = none then .unknown else .engaged
            interlock := if shownRange u = none then s.gear.interlock else true }) ∧
        (s.gear.state = .shifting → s.bank.holder = some .gearbox → s.bank.queue = [] →
          u.bank = { s.bank with holder := none } ∧ u.clamps = s.clamps) ∧
        (s.gear.state = .fault → u.gear = s.gear) ∧
        (s.gear.state ≠ .shifting → u.clamps = s.clamps ∧ u.bank = s.bank) ∧
        (s.coolant.withheld = true ∨ s.coolant.requested.tscPump = false ∨
            (u.gear.state = .engaged ∧ s.coolant.tank = .inactive) →
          u.coolant = { s.coolant with withheld := demandNow u } ∧ u.flags = s.flags) ∧
        (s.coolant.withheld = false → s.coolant.requested.tscPump = true →
            ¬ (u.gear.state = .engaged ∧ s.coolant.tank = .inactive) →
          isRaised .tscWithheld u = true)) ∧
      (t = .clamp → BankLaw s → AbsentLaw s →
        u.bank.disagree = 0 ∧ u.bank.pressureOk = s.bank.pressureOk ∧
        ∀ a, (clampAbsent u a = true → .clamp a ∉ u.bank.queue ∧ u.bank.holder ≠ some (.clamp a)) ∧
          (clampInForce s a = true → clampInForce u a = true → (s.clamps.get a).state ≠ .dropped →
            (s.clamps.get a).state.waits = false → u.clamps.get a = s.clamps.get a) ∧
          (clampInForce s a = true → clampInForce u a = true → (s.clamps.get a).state.waits = true →
            (u.clamps.get a = s.clamps.get a ∧ .clamp a ∈ u.bank.queue) ∨ u.bank.holder = some (.clamp a)) ∧
          (clampAbsent s a = true → clampInForce u a = true → s.seen.reading.get a = .clampedConfirm →
            u.clamps.get a = ⟨.clamped, none, 0⟩) ∧
          (s.store.active.clamp = none → clampInForce u a = true →
            (s.clamps.get a).state = .clamped ∨ (s.clamps.get a).state = .fault → u.clamps.get a = s.clamps.get a) ∧
          ((clampAbsent s a = true ∧ s.seen.reading.get a ≠ .clampedConfirm) ∨
              (s.store.active.clamp = none ∧ (s.clamps.get a).state = .dropped) →
            clampInForce u a = true → s.inputs.clampsDelivered = true →
            ((u.clamps.get a).state = .clampWait true ∧ .clamp a ∈ u.bank.queue) ∨
            ((u.clamps.get a).state = .clamping ∧ u.bank.holder = some (.clamp a)))) ∧
      (t ≠ .compensation → u.comp = s.comp) ∧ (t ≠ .pendant → u.pendant = s.pendant) ∧
      (t ≠ .gear → t ≠ .clamp → u.gear = s.gear ∧ u.clamps = s.clamps ∧ u.bank = s.bank) ∧
      (t ≠ .gear → u.flags = s.flags) ∧ (t ≠ .gear → t ≠ .programs → t ≠ .triggers → u.coolant = s.coolant)

/-- R166, R167: STORE takes its snapshot, or is refused; the three ends of a write. That the mark becomes incomplete as
the write begins, and that a write which fails leaves the stored tables as they were, is the model's reading (DEDUCED, log
entry 23). -/
def Obligations.StoreWritesSnapshot : Prop :=
  ∀ s : State, SettledLaw s →
    (s.link.state ≠ .offline → exec (.store []) s =
      .next (if s.store.state = .writing then { s with sent := { s.sent with answer := ⟨5, .busy, []⟩ } }
        else if s.link.state ≠ .standby then { s with sent := { s.sent with answer := ⟨5, .wrongState, []⟩ } }
        else { s with
          store := { s.store with state := .writing, snapshot := some s.store.active,
                                  nv := { s.store.nv with complete := false } }
          sent := { s.sent with answer := ⟨5, .accepted, []⟩ } })) ∧
    (∀ snap, s.store.state = .writing → s.store.snapshot = some snap →
      exec .storeVerified s = .next { s with
        store := { s.store with state := .valid, nv := ⟨true, snap⟩, snapshot := none }
        flags := { s.flags with raised := s.flags.raised ||| Flag.storeDone.bit } } ∧
      exec .storeMismatch s = .next { s with
        store := { s.store with state := .invalid, snapshot := none }
        flags := { s.flags with raised := s.flags.raised ||| Flag.storeFault.bit } } ∧
      exec .storeCeilingExpiry s = .next { s with
        store := { s.store with state := .invalid, snapshot := none }
        flags := { s.flags with raised := s.flags.raised ||| Flag.storeFault.bit } })

/-! ## Services of the link controller -/

/-- R13: START's checks in their order, and the entry into ACTIVATING. -/
def Obligations.StartEntersActivating : Prop :=
  ∀ (v : Byte) (s : State), SettledLaw s → s.link.state ≠ .offline →
    (s.store.state = .writing →
      exec (.start [v]) s = .next { s with sent := { s.sent with answer := ⟨6, .busy, []⟩ } }) ∧
    (s.store.state ≠ .writing → s.link.state ≠ .standby →
      exec (.start [v]) s = .next { s with sent := { s.sent with answer := ⟨6, .wrongState, []⟩ } }) ∧
    (s.store.state ≠ .writing → s.link.state = .standby → v ≠ 1 → v ≠ 2 → v ≠ 4 →
      exec (.start [v]) s = .next { s with sent := { s.sent with answer := ⟨6, .badParam, []⟩ } }) ∧
    (∀ p : Period, s.store.state ≠ .writing → s.link.state = .standby → v.toNat = p.ms →
      (∃ t, s.store.active.get t = none) →
      exec (.start [v]) s = .next { s with sent := { s.sent with answer := ⟨6, .tableAbsent, []⟩ } }) ∧
    (∀ p : Period, s.store.state ≠ .writing → s.link.state = .standby → v.toNat = p.ms →
      (∀ t, (s.store.active.get t).isSome = true) →
      exec (.start [v]) s = .next { s with
        link := { s.link with state := .activating, period := p, enable := true, enableSent := false, chainMiss := 0,
                              cause := .none, activation := some 2000 }
        axes := PerAxis.of fun a => { s.axes.get a with
          offset := 0, frozen := none, step := 0, envelopeInd := false, rateInd := false, heldClamped := false }
        sent := { s.sent with answer := ⟨6, .accepted, []⟩ } })

/-- R15, R34, R139: a STOP in RUNNING enters STOPPING, ends the grant and leaves the axes as they stood but for the
frozen base; elsewhere it is refused. -/
def Obligations.StopEntersStopping : Prop :=
  ∀ s : State, SettledLaw s → s.link.state ≠ .offline →
    (s.link.state ≠ .running →
      exec (.stop []) s = .next { s with sent := { s.sent with answer := ⟨7, .wrongState, []⟩ } }) ∧
    (s.link.state = .running → ∃ t, exec (.stop []) s = .next t ∧
      t.link = { s.link with state := .stopping } ∧ t.sent.answer = ⟨7, .accepted, []⟩ ∧
      (∀ a, t.pendant.grant ≠ .granted a) ∧
      (∀ a, (t.axes.get a).out = (s.axes.get a).out ∧ (t.axes.get a).step = (s.axes.get a).step ∧
        (t.axes.get a).offset = (s.axes.get a).offset ∧ (t.axes.get a).older = (s.axes.get a).older ∧
        (t.axes.get a).newer = (s.axes.get a).newer) ∧
      (∀ a, s.pendant.grant = .granted a → (t.axes.get a).frozen = none ∧ t.pendant.distance = 0 ∧
        isRaised .pendantReleased t = true) ∧
      t.gear.next = none ∧ t.clamps = s.clamps ∧ t.inputs = s.inputs ∧ t.comp = s.comp ∧ t.store = s.store)

/-- R18, R78: RECOVER leaves HALTED with the E-stop closed, and is refused otherwise. Every dropped clamp of a present
record then begins its recovery, one of them with the bank where it is free and good, and every other clamp stays as it
was; while the clamp group has delivered no values a dropped clamp stays so (log entry 8). -/
def Obligations.RecoverLeavesHalted : Prop :=
  ∀ (o : List ClampAxis) (s : State), SettledLaw s → s.link.state ≠ .offline →
    ((s.link.state ≠ .halted ∨ s.inputs.estopOpen = true) →
      exec (.recover [] o) s = .next { s with sent := { s.sent with answer := ⟨8, .wrongState, []⟩ } }) ∧
    (s.link.state = .halted → s.inputs.estopOpen = false → (∀ a, (s.clamps.get a).state ≠ .dropped) →
      exec (.recover [] o) s = .next { s with
        link := { s.link with state := .standby, enable := false, enableSent := false, activation := none,
                              chainMiss := 0, cause := .none }
        axes := PerAxis.of fun a => { s.axes.get a with
          offset := 0, frozen := none, step := 0, envelopeInd := false, rateInd := false, heldClamped := false }
        coolant := { s.coolant with lube := s.coolant.lube.resume }
        sent := { s.sent with answer := ⟨8, .ok, []⟩ } }) ∧
    (s.link.state = .halted → s.inputs.estopOpen = false → RestLaw s →
      ∃ t, exec (.recover [] o) s = .next t ∧ t.sent.answer = ⟨8, .ok, []⟩ ∧
        t.link = { s.link with state := .standby, enable := false, enableSent := false, activation := none,
                               chainMiss := 0, cause := .none } ∧
        (∀ a, t.axes.get a = { s.axes.get a with
          offset := 0, frozen := none, step := 0, envelopeInd := false, rateInd := false, heldClamped := false }) ∧
        t.coolant = { s.coolant with lube := s.coolant.lube.resume } ∧
        t.gear = s.gear ∧ t.pendant = s.pendant ∧ t.inputs = s.inputs ∧ t.store = s.store ∧ t.flags = s.flags ∧
        t.bank.pressureOk = s.bank.pressureOk ∧
        (∀ a, (s.clamps.get a).state = .dropped → clampInForce s a = true → s.inputs.clampsDelivered = true →
          (t.clamps.get a = ⟨.clampWait true, some (dropCeiling s), 0⟩ ∧ .clamp a ∈ t.bank.queue) ∨
          (t.clamps.get a = ⟨.clamping, some (clampCeiling s a), 0⟩ ∧ t.bank.holder = some (.clamp a) ∧
            s.bank.pressureOk = true)) ∧
        (∀ a, (s.clamps.get a).state ≠ .dropped ∨ clampInForce s a = false ∨ s.inputs.clampsDelivered = false →
          t.clamps.get a = s.clamps.get a) ∧
        (s.bank.pressureOk = true → t.bank.queue ≠ [] → t.bank.holder ≠ none))

/-- R19, R20, R43, R62, R84, R108, R131, R147, R158, R171, R177: RESTART re-initialises the part as the blocks' reset tables
say and keeps what they keep. It is a command of its own here (log entry 5), the droop value, the clamps and the gear state
are formed anew as it takes effect (log entry 27), a PENDING clamp group gives no reading, and without the clamp and
hydraulic table the clamps stay as they stood, less what OFFLINE drops (log entry 8). That the phase pair last seen stands
for that of the first sample is the model's choice (log entry 41). -/
def Obligations.RestartKeepsTables : Prop :=
  ∀ s : State, SettledLaw s → s.link.state ≠ .offline →
    (s.store.state = .writing →
      exec (.restart []) s = .next { s with sent := { s.sent with answer := ⟨9, .busy, []⟩ } }) ∧
    (s.store.state ≠ .writing → s.link.state ≠ .standby → s.link.state ≠ .halted →
      exec (.restart []) s = .next { s with sent := { s.sent with answer := ⟨9, .wrongState, []⟩ } }) ∧
    (s.store.state ≠ .writing → s.link.state = .standby ∨ s.link.state = .halted →
      ∃ t, exec (.restart []) s = .next t ∧
        t.link = { State.reset.link with period := s.link.period, returns := s.link.returns } ∧
        (∀ a, t.axes.get a = ⟨actualPos s a, 0, 0, 0, none, 0, false, false, false⟩) ∧
        t.comp = { State.reset.comp with droop := (match s.store.active.compensation with
          | some img => droopAt img.bytes s.seen.out.w
          | none => 0) } ∧
        t.bank = State.reset.bank ∧
        (∀ a, t.clamps.get a = ⟨
          if s.store.active.clamp = none then droppedState (s.clamps.get a).state
          else if clampAbsent s a = false ∧ s.inputs.clampComplete = true ∧
            (s.inputs.clamps.get a).clamped.value = some true ∧ (s.inputs.clamps.get a).unclamped.value = some false
          then .clamped else .dropped, none, 0⟩) ∧
        t.gear = { State.reset.gear with
          forksDelivered := s.inputs.forkComplete
          forks := if s.inputs.forkComplete = true then forkValues s else State.reset.gear.forks
          engaged := shownRange t
          state := if shownRange t = none then .unknown else .engaged } ∧
        t.coolant = { State.reset.coolant with lube := (match s.store.active.triggers with
          | some img => if lubeInterval img.bytes = 0 then .stopped else .held (lubeInterval img.bytes)
          | none => .stopped) } ∧
        t.pendant = { State.reset.pendant with phaseA := s.pendant.phaseA, phaseB := s.pendant.phaseB } ∧
        t.inputs = s.inputs ∧ t.store = { s.store with staging := State.reset.store.staging, snapshot := none } ∧
        t.flags = s.flags ∧ t.seen = s.seen ∧ t.sent.answer = ⟨9, .ok, []⟩)

/-! ## Services of the other blocks -/

/-- R175, R176: CLEAR_FLAGS and SET_MASK. An expiry that takes a passing CLEAR_FLAGS gives the raised set in its answer as
it stands after the expiry's work and after the events that fall with it and are taken second, each as its own command;
link state and drive frame are the expiry's own (as in log entry 42). A write's failure that falls with a clear of
STORE_FAULT leaves the flag raised and in the answer where it is taken second, and lowered where it is taken first. -/
def Obligations.FlagServicesAct : Prop :=
  (∀ (b : List Byte) (s : State), SettledLaw s → s.link.state ≠ .offline → b.length = 5 →
    exec (.clearFlags b) s =
      .next (if byteAt b 4 < 8 ∧ flagSetNumber b ≠ 0 then
          { s with
            flags := { s.flags with raised := s.flags.raised &&& ~~~ BitVec.ofNat 35 (flagSetNumber b) }
            sent := { s.sent with answer :=
              ⟨11, .ok, flagSetBytes (s.flags.raised &&& ~~~ BitVec.ofNat 35 (flagSetNumber b))⟩ } }
        else { s with sent := { s.sent with answer := ⟨11, .badParam, []⟩ } }) ∧
    exec (.setMask b) s =
      .next (if byteAt b 4 < 8 then
          { s with
            flags := { s.flags with mask := BitVec.ofNat 35 (flagSetNumber b) }
            sent := { s.sent with answer := ⟨12, .ok, flagSetBytes (BitVec.ofNat 35 (flagSetNumber b))⟩ } }
        else { s with sent := { s.sent with answer := ⟨12, .badParam, []⟩ } })) ∧
  (∀ (e : Between) (s : State), exec e.command s = .next (betweenTurn s e)) ∧
  (∀ (inp : ExpiryInput) (f : CycleFrame) (s : State), s.link.state ≠ .offline → s.link.slot = some ⟨f, false⟩ →
    f.kind = 11 → f.body.length = 5 → byteAt f.body 4 < 8 → flagSetNumber f.body ≠ 0 →
    ∃ t u v e, exec (.cycleTimerExpiry { inp with afterClear := [] }) s = .next u ∧
      v = inp.afterClear.foldl betweenTurn u ∧ exec (.cycleTimerExpiry inp) s = .next t ∧
      t = { v with sent := t.sent } ∧ t.sent.drive = u.sent.drive ∧
      t.sent.answer = ⟨11, .ok, flagSetBytes t.flags.raised⟩ ∧
      t.sent.echo = some e ∧ e.seq = f.seq ∧ e.fresh = true ∧ e.link = u.link.state ∧ e.cause = u.link.cause ∧
      e.answer = t.sent.answer ∧ (e.attention = true ↔ t.flags.raised &&& t.flags.mask ≠ 0)) ∧
  (∀ (inp : ExpiryInput) (f : CycleFrame) (s w : State), s.link.state ≠ .offline → s.link.slot = some ⟨f, false⟩ →
    f.kind = 11 → f.body.length = 5 → byteAt f.body 4 < 8 → (flagSetNumber f.body).testBit Flag.storeFault.num = true →
    s.store.state = .writing → exec .storeMismatch s = .next w →
    (∃ t, exec (.cycleTimerExpiry { inp with afterClear := [.storeMismatch] }) s = .next t ∧
      isRaised .storeFault t = true) ∧
    (∃ t, exec (.cycleTimerExpiry { inp with afterClear := [] }) w = .next t ∧ isRaised .storeFault t = false))

/-- R119 to R122: COOLANT_STOP stops everything at the sequencer; COOLANT_TRIGGER's checks in their order and its five
outcomes; a rising COOLANT-STOP bit stops as the service does where the sequencer works, and the rising request bits are
announced in their order. An announced source is taken with the outcome of its table entry; of two that fall together the
given order's first is taken first (log entry 1), of two request bits always the lower. -/
def Obligations.CoolantServicesAct : Prop :=
  (∀ s : State, SettledLaw s → s.link.state ≠ .offline →
    exec (.coolantStop []) s = .next { s with
      coolant := { s.coolant with running := none, queue := [], requested := outputsOff, withheld := false }
      sent := { s.sent with answer := ⟨14, .ok, []⟩ } } ∧
    (∀ v : Byte, s.link.state = .halted →
      exec (.coolantTrigger [v]) s = .next { s with sent := { s.sent with answer := ⟨13, .wrongState, []⟩ } }) ∧
    (∀ v : Byte, s.link.state ≠ .halted → s.store.active.programs = none →
      exec (.coolantTrigger [v]) s = .next { s with sent := { s.sent with answer := ⟨13, .tableAbsent, []⟩ } }) ∧
    (∀ v : Byte, s.link.state ≠ .halted → s.store.active.programs ≠ none → 8 ≤ v.toNat →
      exec (.coolantTrigger [v]) s = .next { s with sent := { s.sent with answer := ⟨13, .badParam, []⟩ } }) ∧
    (∀ (p : Fin 8) (bs : List Byte), s.link.state ≠ .halted → activeBytes s .programs = some bs →
      (programSteps s p = 0 →
        exec (.coolantTrigger (be8 p.val)) s = .next { s with sent := { s.sent with answer := ⟨13, .ok, [4]⟩ } }) ∧
      (programSteps s p ≠ 0 → s.coolant.running = none → s.coolant.queue = [] → withholding s = false →
        stepWait bs p 1 = .none → stepPause bs p 1 ≠ 0 →
        exec (.coolantTrigger (be8 p.val)) s = .next { s with
          coolant := { s.coolant with requested := patterned bs p 1 s.coolant.requested
                                      running := some ⟨p, 1, .pause (stepPause bs p 1)⟩ }
          sent := { s.sent with answer := ⟨13, .ok, [0]⟩ } }) ∧
      (∀ r, programSteps s p ≠ 0 → s.coolant.running = some r →
        (r.program = p ∨ p ∈ s.coolant.queue →
          exec (.coolantTrigger (be8 p.val)) s = .next { s with
            flags := { s.flags with raised := s.flags.raised ||| Flag.triggerMerged.bit }
            sent := { s.sent with answer := ⟨13, .ok, [2]⟩ } }) ∧
        (r.program ≠ p → p ∉ s.coolant.queue → s.coolant.queue.length < 4 →
          exec (.coolantTrigger (be8 p.val)) s = .next { s with
            coolant := { s.coolant with queue := s.coolant.queue ++ [p] }
            sent := { s.sent with answer := ⟨13, .ok, [1]⟩ } }) ∧
        (r.program ≠ p → p ∉ s.coolant.queue → 4 ≤ s.coolant.queue.length →
          exec (.coolantTrigger (be8 p.val)) s = .next { s with
            flags := { s.flags with raised := s.flags.raised ||| Flag.triggerDropped.bit }
            sent := { s.sent with answer := ⟨13, .ok, [3]⟩ } })))) ∧
  (∀ (f : CycleFrame) (s : State),
    stopBitWork f s = (if f.coolant.stop = true ∧ s.coolant.baseline.stop = false ∧ s.link.state ≠ .offline ∧
        s.link.state ≠ .halted then
      { s with coolant := { s.coolant with running := none, queue := [], requested := outputsOff, withheld := false } }
      else s) ∧
    requestsWork f s = { s with coolant := { s.coolant with
      baseline := f.coolant
      announced := s.coolant.announced ++
        (if f.coolant.req0 = true ∧ s.coolant.baseline.req0 = false then [.req0] else []) ++
        (if f.coolant.req1 = true ∧ s.coolant.baseline.req1 = false then [.req1] else []) ++
        (if f.coolant.req2 = true ∧ s.coolant.baseline.req2 = false then [.req2] else []) ++
        (if f.coolant.req3 = true ∧ s.coolant.baseline.req3 = false then [.req3] else []) } }) ∧
  (∀ (order : List TriggerSource) (src : TriggerSource) (s u : State), s.coolant.announced = [src] →
    s.coolant.withheld = demandNow s → u = { s with coolant := { s.coolant with announced := [] } } →
    (s.link.state = .offline ∨ s.link.state = .halted ∨ s.store.active.triggers = none → settleTriggers order s = u) ∧
    (∀ tb, activeBytes s .triggers = some tb → s.link.state ≠ .offline → s.link.state ≠ .halted →
      (triggerEntry tb src = none → settleTriggers order s = u) ∧
      (∀ p, triggerEntry tb src = some p → programSteps s p = 0 → settleTriggers order s = u) ∧
      (∀ p r, triggerEntry tb src = some p → programSteps s p ≠ 0 → s.coolant.running = some r →
        (r.program = p ∨ p ∈ s.coolant.queue → settleTriggers order s =
          { u with flags := { s.flags with raised := s.flags.raised ||| Flag.triggerMerged.bit } }) ∧
        (r.program ≠ p → p ∉ s.coolant.queue → s.coolant.queue.length < 4 → settleTriggers order s =
          { u with coolant := { u.coolant with queue := s.coolant.queue ++ [p] } }) ∧
        (r.program ≠ p → p ∉ s.coolant.queue → 4 ≤ s.coolant.queue.length → settleTriggers order s =
          { u with flags := { s.flags with raised := s.flags.raised ||| Flag.triggerDropped.bit } })) ∧
      (∀ p bs, triggerEntry tb src = some p → programSteps s p ≠ 0 → s.coolant.running = none → s.coolant.queue = [] →
        withholding s = false → activeBytes s .programs = some bs → stepWait bs p 1 = .none → stepPause bs p 1 ≠ 0 →
        settleTriggers order s = { u with coolant := { u.coolant with
          requested := patterned bs p 1 s.coolant.requested
          running := some ⟨p, 1, .pause (stepPause bs p 1)⟩ } }))) ∧
  (∀ (order : List TriggerSource) (one two : TriggerSource) (p q : Fin 8) (r : Run) (tb : List Byte) (s : State),
    s.coolant.announced = [one, two] → s.coolant.withheld = demandNow s → activeBytes s .triggers = some tb →
    s.link.state ≠ .offline → s.link.state ≠ .halted → one ≠ two → triggerEntry tb one = some p →
    triggerEntry tb two = some q → p ≠ q → programSteps s p ≠ 0 → programSteps s q ≠ 0 → s.coolant.running = some r →
    r.program ≠ p → r.program ≠ q → s.coolant.queue = [] →
    ((isRequest one = true ∧ isRequest two = true) ∨ order.find? (fun x => x = one ∨ x = two) ≠ some two →
      (settleTriggers order s).coolant.queue = [p, q]) ∧
    (isRequest one = false ∨ isRequest two = false → order.find? (fun x => x = one ∨ x = two) = some two →
      (settleTriggers order s).coolant.queue = [q, p]))

/-- R48, R57, R58: COMP_TRIGGER sets the updates to be made, and a HARD one the hard-first mark; GROWTH_ZERO sets the
ref field of the active compensation table to the last window's mean. -/
def Obligations.GrowthServicesAct : Prop :=
  ∀ (v : Byte) (s : State), SettledLaw s → s.link.state ≠ .offline →
    (s.store.active.compensation = none →
      exec (.compTrigger [v]) s = .next { s with sent := { s.sent with answer := ⟨15, .tableAbsent, []⟩ } }) ∧
    (∀ img, s.store.active.compensation = some img →
      exec (.compTrigger [v]) s = .next (if v.toNat ≤ 1 then
          { s with
            comp := { s.comp with
              updates := if compRestart img.bytes = 255 then .always else .count (compRestart img.bytes + 1)
              hardFirst := s.comp.hardFirst || decide (v = 1) }
            sent := { s.sent with answer := ⟨15, .ok, []⟩ } }
        else { s with sent := { s.sent with answer := ⟨15, .badParam, []⟩ } })) ∧
    ((s.link.state ≠ .standby ∧ s.link.state ≠ .running) →
      exec (.growthZero []) s = .next { s with sent := { s.sent with answer := ⟨16, .wrongState, []⟩ } }) ∧
    ((s.link.state = .standby ∨ s.link.state = .running) → s.store.active.compensation = none →
      exec (.growthZero []) s = .next { s with sent := { s.sent with answer := ⟨16, .tableAbsent, []⟩ } }) ∧
    ((s.link.state = .standby ∨ s.link.state = .running) → s.store.active.compensation ≠ none →
      s.comp.lastSum = none →
      exec (.growthZero []) s = .next { s with sent := { s.sent with answer := ⟨16, .wrongState, []⟩ } }) ∧
    (∀ img sum, (s.link.state = .standby ∨ s.link.state = .running) → s.store.active.compensation = some img →
      s.comp.lastSum = some sum → img.bytes.length = 53 → sum ≤ 16 * 4095 →
      ∃ t bs, exec (.growthZero []) s = .next t ∧
        t.store = { s.store with active := { s.store.active with compensation := some ⟨bs, crc16 bs⟩ } } ∧
        bs.length = 53 ∧ compRef bs = (roundDiv sum 16).toNat ∧ (∀ i, i ≠ 42 → i ≠ 43 → bs[i]? = img.bytes[i]?) ∧
        t.sent.answer = ⟨16, .ok, be16 (compRef bs) ++ be16 (crc16 bs).toNat⟩ ∧
        t.comp = s.comp ∧ t.link = s.link ∧ t.axes = s.axes ∧ t.flags = s.flags ∧ t.coolant = s.coolant)

/-- R80, R105, R170: CLEAR_FAULT's checks in their order and what it makes of a faulted clamp and gearbox. That the gearbox
then still has the settle count and wiggle phase of its last shift is the model's choice (log entry 40). -/
def Obligations.ClearFaultReevaluates : Prop :=
  ∀ s : State, SettledLaw s → s.link.state ≠ .offline →
    (∀ v : Byte, 5 ≤ v.toNat →
      exec (.clearFault [v]) s = .next { s with sent := { s.sent with answer := ⟨17, .badParam, []⟩ } }) ∧
    (∀ a : ClampAxis, s.store.active.clamp = none →
      exec (.clearFault (be8 a.index)) s = .next { s with sent := { s.sent with answer := ⟨17, .tableAbsent, []⟩ } }) ∧
    (∀ a : ClampAxis, clampAbsent s a = true →
      exec (.clearFault (be8 a.index)) s = .next { s with sent := { s.sent with answer := ⟨17, .badParam, []⟩ } }) ∧
    (∀ a : ClampAxis, clampInForce s a = true → (s.clamps.get a).state ≠ .fault →
      exec (.clearFault (be8 a.index)) s = .next { s with sent := { s.sent with answer := ⟨17, .wrongState, []⟩ } }) ∧
    (∀ (a : ClampAxis) (st : ClampState), clampInForce s a = true → (s.clamps.get a).state = .fault →
      st = (match s.seen.reading.get a with
        | .clampedConfirm => .clamped
        | .unclampedConfirm => if s.link.state = .halted then .dropped else .unclamped
        | .neither => .fault) →
      exec (.clearFault (be8 a.index)) s = .next { s with
        clamps := s.clamps.set a ⟨st, none, 0⟩
        sent := { s.sent with answer := ⟨17, .ok, be8 st.code⟩ } }) ∧
    (s.store.active.gear = none →
      exec (.clearFault [4]) s = .next { s with sent := { s.sent with answer := ⟨17, .tableAbsent, []⟩ } }) ∧
    (s.store.active.gear ≠ none → s.gear.state ≠ .fault →
      exec (.clearFault [4]) s = .next { s with sent := { s.sent with answer := ⟨17, .wrongState, []⟩ } }) ∧
    (s.store.active.gear ≠ none → s.gear.state = .fault → shownRange s = none →
      exec (.clearFault [4]) s = .next { s with
        gear := { s.gear with state := .unknown, engaged := none, output := 0 }
        sent := { s.sent with answer := ⟨17, .ok, [1, 0]⟩ } }) ∧
    (∀ r, s.store.active.gear ≠ none → s.gear.state = .fault → shownRange s = some r →
      s.coolant.tank ≠ .inactive ∨ s.coolant.requested.tscPump = false →
      exec (.clearFault [4]) s = .next { s with
        gear := { s.gear with state := .engaged, engaged := some r, interlock := true }
        sent := { s.sent with answer := ⟨17, .ok, 0 :: be8 (rangeCode (some r))⟩ } })

/-- 11.5: a flag set reads back from its five bytes. -/
def Obligations.FlagSetRoundTrip : Prop :=
  ∀ set : BitVec 35, (flagSetBytes set).length = 5 ∧ flagSetOf (flagSetBytes set) = some set ∧
    ∀ f : Flag, (set.getLsbD f.num = true ↔
      ((flagSetBytes set).getD (f.num / 8) 0).getLsbD (f.num % 8) = true)
end

