-- ==== Sys2Proof/Laws/State.lean ====
section
/-! SUPPORT. What each named update of the state leaves as it was: one lemma per field per update, true by `rfl`. -/

namespace Sys2Proof.Machine


/-! ## `raise` -/

@[simp] theorem raise_link (f : Flag) (s : State) : (raise f s).link = s.link := rfl
@[simp] theorem raise_axes (f : Flag) (s : State) : (raise f s).axes = s.axes := rfl
@[simp] theorem raise_comp (f : Flag) (s : State) : (raise f s).comp = s.comp := rfl
@[simp] theorem raise_clamps (f : Flag) (s : State) : (raise f s).clamps = s.clamps := rfl
@[simp] theorem raise_bank (f : Flag) (s : State) : (raise f s).bank = s.bank := rfl
@[simp] theorem raise_gear (f : Flag) (s : State) : (raise f s).gear = s.gear := rfl
@[simp] theorem raise_coolant (f : Flag) (s : State) : (raise f s).coolant = s.coolant := rfl
@[simp] theorem raise_pendant (f : Flag) (s : State) : (raise f s).pendant = s.pendant := rfl
@[simp] theorem raise_inputs (f : Flag) (s : State) : (raise f s).inputs = s.inputs := rfl
@[simp] theorem raise_store (f : Flag) (s : State) : (raise f s).store = s.store := rfl
@[simp] theorem raise_seen (f : Flag) (s : State) : (raise f s).seen = s.seen := rfl
@[simp] theorem raise_sent (f : Flag) (s : State) : (raise f s).sent = s.sent := rfl
@[simp] theorem raise_pending (f : Flag) (s : State) : (raise f s).pending = s.pending := rfl

/-! ## `lowerFlags` -/

@[simp] theorem lowerFlags_link (set : BitVec 35) (s : State) : (lowerFlags set s).link = s.link := rfl
@[simp] theorem lowerFlags_axes (set : BitVec 35) (s : State) : (lowerFlags set s).axes = s.axes := rfl
@[simp] theorem lowerFlags_comp (set : BitVec 35) (s : State) : (lowerFlags set s).comp = s.comp := rfl
@[simp] theorem lowerFlags_clamps (set : BitVec 35) (s : State) : (lowerFlags set s).clamps = s.clamps := rfl
@[simp] theorem lowerFlags_bank (set : BitVec 35) (s : State) : (lowerFlags set s).bank = s.bank := rfl
@[simp] theorem lowerFlags_gear (set : BitVec 35) (s : State) : (lowerFlags set s).gear = s.gear := rfl
@[simp] theorem lowerFlags_coolant (set : BitVec 35) (s : State) : (lowerFlags set s).coolant = s.coolant := rfl
@[simp] theorem lowerFlags_pendant (set : BitVec 35) (s : State) : (lowerFlags set s).pendant = s.pendant := rfl
@[simp] theorem lowerFlags_inputs (set : BitVec 35) (s : State) : (lowerFlags set s).inputs = s.inputs := rfl
@[simp] theorem lowerFlags_store (set : BitVec 35) (s : State) : (lowerFlags set s).store = s.store := rfl
@[simp] theorem lowerFlags_seen (set : BitVec 35) (s : State) : (lowerFlags set s).seen = s.seen := rfl
@[simp] theorem lowerFlags_sent (set : BitVec 35) (s : State) : (lowerFlags set s).sent = s.sent := rfl
@[simp] theorem lowerFlags_pending (set : BitVec 35) (s : State) : (lowerFlags set s).pending = s.pending := rfl

/-! ## `replaceMask` -/

@[simp] theorem replaceMask_link (set : BitVec 35) (s : State) : (replaceMask set s).link = s.link := rfl
@[simp] theorem replaceMask_axes (set : BitVec 35) (s : State) : (replaceMask set s).axes = s.axes := rfl
@[simp] theorem replaceMask_comp (set : BitVec 35) (s : State) : (replaceMask set s).comp = s.comp := rfl
@[simp] theorem replaceMask_clamps (set : BitVec 35) (s : State) : (replaceMask set s).clamps = s.clamps := rfl
@[simp] theorem replaceMask_bank (set : BitVec 35) (s : State) : (replaceMask set s).bank = s.bank := rfl
@[simp] theorem replaceMask_gear (set : BitVec 35) (s : State) : (replaceMask set s).gear = s.gear := rfl
@[simp] theorem replaceMask_coolant (set : BitVec 35) (s : State) : (replaceMask set s).coolant = s.coolant := rfl
@[simp] theorem replaceMask_pendant (set : BitVec 35) (s : State) : (replaceMask set s).pendant = s.pendant := rfl
@[simp] theorem replaceMask_inputs (set : BitVec 35) (s : State) : (replaceMask set s).inputs = s.inputs := rfl
@[simp] theorem replaceMask_store (set : BitVec 35) (s : State) : (replaceMask set s).store = s.store := rfl
@[simp] theorem replaceMask_seen (set : BitVec 35) (s : State) : (replaceMask set s).seen = s.seen := rfl
@[simp] theorem replaceMask_sent (set : BitVec 35) (s : State) : (replaceMask set s).sent = s.sent := rfl
@[simp] theorem replaceMask_pending (set : BitVec 35) (s : State) : (replaceMask set s).pending = s.pending := rfl

/-! ## `answer` -/

@[simp] theorem answer_link (k : ServiceKind) (st : Status) (body : List Byte) (s : State) : (answer k st body s).link = s.link := rfl
@[simp] theorem answer_axes (k : ServiceKind) (st : Status) (body : List Byte) (s : State) : (answer k st body s).axes = s.axes := rfl
@[simp] theorem answer_comp (k : ServiceKind) (st : Status) (body : List Byte) (s : State) : (answer k st body s).comp = s.comp := rfl
@[simp] theorem answer_clamps (k : ServiceKind) (st : Status) (body : List Byte) (s : State) : (answer k st body s).clamps = s.clamps := rfl
@[simp] theorem answer_bank (k : ServiceKind) (st : Status) (body : List Byte) (s : State) : (answer k st body s).bank = s.bank := rfl
@[simp] theorem answer_gear (k : ServiceKind) (st : Status) (body : List Byte) (s : State) : (answer k st body s).gear = s.gear := rfl
@[simp] theorem answer_coolant (k : ServiceKind) (st : Status) (body : List Byte) (s : State) : (answer k st body s).coolant = s.coolant := rfl
@[simp] theorem answer_pendant (k : ServiceKind) (st : Status) (body : List Byte) (s : State) : (answer k st body s).pendant = s.pendant := rfl
@[simp] theorem answer_inputs (k : ServiceKind) (st : Status) (body : List Byte) (s : State) : (answer k st body s).inputs = s.inputs := rfl
@[simp] theorem answer_store (k : ServiceKind) (st : Status) (body : List Byte) (s : State) : (answer k st body s).store = s.store := rfl
@[simp] theorem answer_flags (k : ServiceKind) (st : Status) (body : List Byte) (s : State) : (answer k st body s).flags = s.flags := rfl
@[simp] theorem answer_seen (k : ServiceKind) (st : Status) (body : List Byte) (s : State) : (answer k st body s).seen = s.seen := rfl
@[simp] theorem answer_pending (k : ServiceKind) (st : Status) (body : List Byte) (s : State) : (answer k st body s).pending = s.pending := rfl

/-! ## `refuse` -/

@[simp] theorem refuse_link (k : ServiceKind) (st : Status) (s : State) : (refuse k st s).link = s.link := rfl
@[simp] theorem refuse_axes (k : ServiceKind) (st : Status) (s : State) : (refuse k st s).axes = s.axes := rfl
@[simp] theorem refuse_comp (k : ServiceKind) (st : Status) (s : State) : (refuse k st s).comp = s.comp := rfl
@[simp] theorem refuse_clamps (k : ServiceKind) (st : Status) (s : State) : (refuse k st s).clamps = s.clamps := rfl
@[simp] theorem refuse_bank (k : ServiceKind) (st : Status) (s : State) : (refuse k st s).bank = s.bank := rfl
@[simp] theorem refuse_gear (k : ServiceKind) (st : Status) (s : State) : (refuse k st s).gear = s.gear := rfl
@[simp] theorem refuse_coolant (k : ServiceKind) (st : Status) (s : State) : (refuse k st s).coolant = s.coolant := rfl
@[simp] theorem refuse_pendant (k : ServiceKind) (st : Status) (s : State) : (refuse k st s).pendant = s.pendant := rfl
@[simp] theorem refuse_inputs (k : ServiceKind) (st : Status) (s : State) : (refuse k st s).inputs = s.inputs := rfl
@[simp] theorem refuse_store (k : ServiceKind) (st : Status) (s : State) : (refuse k st s).store = s.store := rfl
@[simp] theorem refuse_flags (k : ServiceKind) (st : Status) (s : State) : (refuse k st s).flags = s.flags := rfl
@[simp] theorem refuse_seen (k : ServiceKind) (st : Status) (s : State) : (refuse k st s).seen = s.seen := rfl
@[simp] theorem refuse_pending (k : ServiceKind) (st : Status) (s : State) : (refuse k st s).pending = s.pending := rfl

/-! ## `answerUnknown` -/

@[simp] theorem answerUnknown_link (kind : Byte) (s : State) : (answerUnknown kind s).link = s.link := rfl
@[simp] theorem answerUnknown_axes (kind : Byte) (s : State) : (answerUnknown kind s).axes = s.axes := rfl
@[simp] theorem answerUnknown_comp (kind : Byte) (s : State) : (answerUnknown kind s).comp = s.comp := rfl
@[simp] theorem answerUnknown_clamps (kind : Byte) (s : State) : (answerUnknown kind s).clamps = s.clamps := rfl
@[simp] theorem answerUnknown_bank (kind : Byte) (s : State) : (answerUnknown kind s).bank = s.bank := rfl
@[simp] theorem answerUnknown_gear (kind : Byte) (s : State) : (answerUnknown kind s).gear = s.gear := rfl
@[simp] theorem answerUnknown_coolant (kind : Byte) (s : State) : (answerUnknown kind s).coolant = s.coolant := rfl
@[simp] theorem answerUnknown_pendant (kind : Byte) (s : State) : (answerUnknown kind s).pendant = s.pendant := rfl
@[simp] theorem answerUnknown_inputs (kind : Byte) (s : State) : (answerUnknown kind s).inputs = s.inputs := rfl
@[simp] theorem answerUnknown_store (kind : Byte) (s : State) : (answerUnknown kind s).store = s.store := rfl
@[simp] theorem answerUnknown_flags (kind : Byte) (s : State) : (answerUnknown kind s).flags = s.flags := rfl
@[simp] theorem answerUnknown_seen (kind : Byte) (s : State) : (answerUnknown kind s).seen = s.seen := rfl
@[simp] theorem answerUnknown_pending (kind : Byte) (s : State) : (answerUnknown kind s).pending = s.pending := rfl

/-! ## `announce` -/

@[simp] theorem announce_link (src : TriggerSource) (s : State) : (announce src s).link = s.link := rfl
@[simp] theorem announce_axes (src : TriggerSource) (s : State) : (announce src s).axes = s.axes := rfl
@[simp] theorem announce_comp (src : TriggerSource) (s : State) : (announce src s).comp = s.comp := rfl
@[simp] theorem announce_clamps (src : TriggerSource) (s : State) : (announce src s).clamps = s.clamps := rfl
@[simp] theorem announce_bank (src : TriggerSource) (s : State) : (announce src s).bank = s.bank := rfl
@[simp] theorem announce_gear (src : TriggerSource) (s : State) : (announce src s).gear = s.gear := rfl
@[simp] theorem announce_pendant (src : TriggerSource) (s : State) : (announce src s).pendant = s.pendant := rfl
@[simp] theorem announce_inputs (src : TriggerSource) (s : State) : (announce src s).inputs = s.inputs := rfl
@[simp] theorem announce_store (src : TriggerSource) (s : State) : (announce src s).store = s.store := rfl
@[simp] theorem announce_flags (src : TriggerSource) (s : State) : (announce src s).flags = s.flags := rfl
@[simp] theorem announce_seen (src : TriggerSource) (s : State) : (announce src s).seen = s.seen := rfl
@[simp] theorem announce_sent (src : TriggerSource) (s : State) : (announce src s).sent = s.sent := rfl
@[simp] theorem announce_pending (src : TriggerSource) (s : State) : (announce src s).pending = s.pending := rfl

/-! ## `setClamp` -/

@[simp] theorem setClamp_link (a : ClampAxis) (st : ClampState) (c : Option Nat) (s : State) : (setClamp a st c s).link = s.link := rfl
@[simp] theorem setClamp_axes (a : ClampAxis) (st : ClampState) (c : Option Nat) (s : State) : (setClamp a st c s).axes = s.axes := rfl
@[simp] theorem setClamp_comp (a : ClampAxis) (st : ClampState) (c : Option Nat) (s : State) : (setClamp a st c s).comp = s.comp := rfl
@[simp] theorem setClamp_bank (a : ClampAxis) (st : ClampState) (c : Option Nat) (s : State) : (setClamp a st c s).bank = s.bank := rfl
@[simp] theorem setClamp_gear (a : ClampAxis) (st : ClampState) (c : Option Nat) (s : State) : (setClamp a st c s).gear = s.gear := rfl
@[simp] theorem setClamp_coolant (a : ClampAxis) (st : ClampState) (c : Option Nat) (s : State) : (setClamp a st c s).coolant = s.coolant := rfl
@[simp] theorem setClamp_pendant (a : ClampAxis) (st : ClampState) (c : Option Nat) (s : State) : (setClamp a st c s).pendant = s.pendant := rfl
@[simp] theorem setClamp_inputs (a : ClampAxis) (st : ClampState) (c : Option Nat) (s : State) : (setClamp a st c s).inputs = s.inputs := rfl
@[simp] theorem setClamp_store (a : ClampAxis) (st : ClampState) (c : Option Nat) (s : State) : (setClamp a st c s).store = s.store := rfl
@[simp] theorem setClamp_flags (a : ClampAxis) (st : ClampState) (c : Option Nat) (s : State) : (setClamp a st c s).flags = s.flags := rfl
@[simp] theorem setClamp_seen (a : ClampAxis) (st : ClampState) (c : Option Nat) (s : State) : (setClamp a st c s).seen = s.seen := rfl
@[simp] theorem setClamp_sent (a : ClampAxis) (st : ClampState) (c : Option Nat) (s : State) : (setClamp a st c s).sent = s.sent := rfl
@[simp] theorem setClamp_pending (a : ClampAxis) (st : ClampState) (c : Option Nat) (s : State) : (setClamp a st c s).pending = s.pending := rfl

/-! ## `setSettle` -/

@[simp] theorem setSettle_link (a : ClampAxis) (n : Nat) (s : State) : (setSettle a n s).link = s.link := rfl
@[simp] theorem setSettle_axes (a : ClampAxis) (n : Nat) (s : State) : (setSettle a n s).axes = s.axes := rfl
@[simp] theorem setSettle_comp (a : ClampAxis) (n : Nat) (s : State) : (setSettle a n s).comp = s.comp := rfl
@[simp] theorem setSettle_bank (a : ClampAxis) (n : Nat) (s : State) : (setSettle a n s).bank = s.bank := rfl
@[simp] theorem setSettle_gear (a : ClampAxis) (n : Nat) (s : State) : (setSettle a n s).gear = s.gear := rfl
@[simp] theorem setSettle_coolant (a : ClampAxis) (n : Nat) (s : State) : (setSettle a n s).coolant = s.coolant := rfl
@[simp] theorem setSettle_pendant (a : ClampAxis) (n : Nat) (s : State) : (setSettle a n s).pendant = s.pendant := rfl
@[simp] theorem setSettle_inputs (a : ClampAxis) (n : Nat) (s : State) : (setSettle a n s).inputs = s.inputs := rfl
@[simp] theorem setSettle_store (a : ClampAxis) (n : Nat) (s : State) : (setSettle a n s).store = s.store := rfl
@[simp] theorem setSettle_flags (a : ClampAxis) (n : Nat) (s : State) : (setSettle a n s).flags = s.flags := rfl
@[simp] theorem setSettle_seen (a : ClampAxis) (n : Nat) (s : State) : (setSettle a n s).seen = s.seen := rfl
@[simp] theorem setSettle_sent (a : ClampAxis) (n : Nat) (s : State) : (setSettle a n s).sent = s.sent := rfl
@[simp] theorem setSettle_pending (a : ClampAxis) (n : Nat) (s : State) : (setSettle a n s).pending = s.pending := rfl

/-! ## `withdraw` -/

@[simp] theorem withdraw_link (c : Claimant) (s : State) : (withdraw c s).link = s.link := rfl
@[simp] theorem withdraw_axes (c : Claimant) (s : State) : (withdraw c s).axes = s.axes := rfl
@[simp] theorem withdraw_comp (c : Claimant) (s : State) : (withdraw c s).comp = s.comp := rfl
@[simp] theorem withdraw_clamps (c : Claimant) (s : State) : (withdraw c s).clamps = s.clamps := rfl
@[simp] theorem withdraw_gear (c : Claimant) (s : State) : (withdraw c s).gear = s.gear := rfl
@[simp] theorem withdraw_coolant (c : Claimant) (s : State) : (withdraw c s).coolant = s.coolant := rfl
@[simp] theorem withdraw_pendant (c : Claimant) (s : State) : (withdraw c s).pendant = s.pendant := rfl
@[simp] theorem withdraw_inputs (c : Claimant) (s : State) : (withdraw c s).inputs = s.inputs := rfl
@[simp] theorem withdraw_store (c : Claimant) (s : State) : (withdraw c s).store = s.store := rfl
@[simp] theorem withdraw_flags (c : Claimant) (s : State) : (withdraw c s).flags = s.flags := rfl
@[simp] theorem withdraw_seen (c : Claimant) (s : State) : (withdraw c s).seen = s.seen := rfl
@[simp] theorem withdraw_sent (c : Claimant) (s : State) : (withdraw c s).sent = s.sent := rfl
@[simp] theorem withdraw_pending (c : Claimant) (s : State) : (withdraw c s).pending = s.pending := rfl

/-! ## `enterEngaged` -/

@[simp] theorem enterEngaged_link (r : Range) (s : State) : (enterEngaged r s).link = s.link := rfl
@[simp] theorem enterEngaged_axes (r : Range) (s : State) : (enterEngaged r s).axes = s.axes := rfl
@[simp] theorem enterEngaged_comp (r : Range) (s : State) : (enterEngaged r s).comp = s.comp := rfl
@[simp] theorem enterEngaged_clamps (r : Range) (s : State) : (enterEngaged r s).clamps = s.clamps := rfl
@[simp] theorem enterEngaged_bank (r : Range) (s : State) : (enterEngaged r s).bank = s.bank := rfl
@[simp] theorem enterEngaged_coolant (r : Range) (s : State) : (enterEngaged r s).coolant = s.coolant := rfl
@[simp] theorem enterEngaged_pendant (r : Range) (s : State) : (enterEngaged r s).pendant = s.pendant := rfl
@[simp] theorem enterEngaged_inputs (r : Range) (s : State) : (enterEngaged r s).inputs = s.inputs := rfl
@[simp] theorem enterEngaged_store (r : Range) (s : State) : (enterEngaged r s).store = s.store := rfl
@[simp] theorem enterEngaged_flags (r : Range) (s : State) : (enterEngaged r s).flags = s.flags := rfl
@[simp] theorem enterEngaged_seen (r : Range) (s : State) : (enterEngaged r s).seen = s.seen := rfl
@[simp] theorem enterEngaged_sent (r : Range) (s : State) : (enterEngaged r s).sent = s.sent := rfl
@[simp] theorem enterEngaged_pending (r : Range) (s : State) : (enterEngaged r s).pending = s.pending := rfl

/-! ## `enterUnknown` -/

@[simp] theorem enterUnknown_link (s : State) : (enterUnknown s).link = s.link := rfl
@[simp] theorem enterUnknown_axes (s : State) : (enterUnknown s).axes = s.axes := rfl
@[simp] theorem enterUnknown_comp (s : State) : (enterUnknown s).comp = s.comp := rfl
@[simp] theorem enterUnknown_clamps (s : State) : (enterUnknown s).clamps = s.clamps := rfl
@[simp] theorem enterUnknown_bank (s : State) : (enterUnknown s).bank = s.bank := rfl
@[simp] theorem enterUnknown_coolant (s : State) : (enterUnknown s).coolant = s.coolant := rfl
@[simp] theorem enterUnknown_pendant (s : State) : (enterUnknown s).pendant = s.pendant := rfl
@[simp] theorem enterUnknown_inputs (s : State) : (enterUnknown s).inputs = s.inputs := rfl
@[simp] theorem enterUnknown_store (s : State) : (enterUnknown s).store = s.store := rfl
@[simp] theorem enterUnknown_flags (s : State) : (enterUnknown s).flags = s.flags := rfl
@[simp] theorem enterUnknown_seen (s : State) : (enterUnknown s).seen = s.seen := rfl
@[simp] theorem enterUnknown_sent (s : State) : (enterUnknown s).sent = s.sent := rfl
@[simp] theorem enterUnknown_pending (s : State) : (enterUnknown s).pending = s.pending := rfl

/-! ## `clearAxes` -/

@[simp] theorem clearAxes_link (s : State) : (clearAxes s).link = s.link := rfl
@[simp] theorem clearAxes_comp (s : State) : (clearAxes s).comp = s.comp := rfl
@[simp] theorem clearAxes_clamps (s : State) : (clearAxes s).clamps = s.clamps := rfl
@[simp] theorem clearAxes_bank (s : State) : (clearAxes s).bank = s.bank := rfl
@[simp] theorem clearAxes_gear (s : State) : (clearAxes s).gear = s.gear := rfl
@[simp] theorem clearAxes_coolant (s : State) : (clearAxes s).coolant = s.coolant := rfl
@[simp] theorem clearAxes_pendant (s : State) : (clearAxes s).pendant = s.pendant := rfl
@[simp] theorem clearAxes_inputs (s : State) : (clearAxes s).inputs = s.inputs := rfl
@[simp] theorem clearAxes_store (s : State) : (clearAxes s).store = s.store := rfl
@[simp] theorem clearAxes_flags (s : State) : (clearAxes s).flags = s.flags := rfl
@[simp] theorem clearAxes_seen (s : State) : (clearAxes s).seen = s.seen := rfl
@[simp] theorem clearAxes_sent (s : State) : (clearAxes s).sent = s.sent := rfl
@[simp] theorem clearAxes_pending (s : State) : (clearAxes s).pending = s.pending := rfl

/-! ## `discardWindow` -/

@[simp] theorem discardWindow_link (s : State) : (discardWindow s).link = s.link := rfl
@[simp] theorem discardWindow_axes (s : State) : (discardWindow s).axes = s.axes := rfl
@[simp] theorem discardWindow_clamps (s : State) : (discardWindow s).clamps = s.clamps := rfl
@[simp] theorem discardWindow_bank (s : State) : (discardWindow s).bank = s.bank := rfl
@[simp] theorem discardWindow_gear (s : State) : (discardWindow s).gear = s.gear := rfl
@[simp] theorem discardWindow_coolant (s : State) : (discardWindow s).coolant = s.coolant := rfl
@[simp] theorem discardWindow_pendant (s : State) : (discardWindow s).pendant = s.pendant := rfl
@[simp] theorem discardWindow_inputs (s : State) : (discardWindow s).inputs = s.inputs := rfl
@[simp] theorem discardWindow_store (s : State) : (discardWindow s).store = s.store := rfl
@[simp] theorem discardWindow_flags (s : State) : (discardWindow s).flags = s.flags := rfl
@[simp] theorem discardWindow_seen (s : State) : (discardWindow s).seen = s.seen := rfl
@[simp] theorem discardWindow_sent (s : State) : (discardWindow s).sent = s.sent := rfl
@[simp] theorem discardWindow_pending (s : State) : (discardWindow s).pending = s.pending := rfl

/-! ## `stopCoolant` -/

@[simp] theorem stopCoolant_link (s : State) : (stopCoolant s).link = s.link := rfl
@[simp] theorem stopCoolant_axes (s : State) : (stopCoolant s).axes = s.axes := rfl
@[simp] theorem stopCoolant_comp (s : State) : (stopCoolant s).comp = s.comp := rfl
@[simp] theorem stopCoolant_clamps (s : State) : (stopCoolant s).clamps = s.clamps := rfl
@[simp] theorem stopCoolant_bank (s : State) : (stopCoolant s).bank = s.bank := rfl
@[simp] theorem stopCoolant_gear (s : State) : (stopCoolant s).gear = s.gear := rfl
@[simp] theorem stopCoolant_pendant (s : State) : (stopCoolant s).pendant = s.pendant := rfl
@[simp] theorem stopCoolant_inputs (s : State) : (stopCoolant s).inputs = s.inputs := rfl
@[simp] theorem stopCoolant_store (s : State) : (stopCoolant s).store = s.store := rfl
@[simp] theorem stopCoolant_flags (s : State) : (stopCoolant s).flags = s.flags := rfl
@[simp] theorem stopCoolant_seen (s : State) : (stopCoolant s).seen = s.seen := rfl
@[simp] theorem stopCoolant_sent (s : State) : (stopCoolant s).sent = s.sent := rfl
@[simp] theorem stopCoolant_pending (s : State) : (stopCoolant s).pending = s.pending := rfl

/-! ## `coolantRest` -/

@[simp] theorem coolantRest_link (s : State) : (coolantRest s).link = s.link := rfl
@[simp] theorem coolantRest_axes (s : State) : (coolantRest s).axes = s.axes := rfl
@[simp] theorem coolantRest_comp (s : State) : (coolantRest s).comp = s.comp := rfl
@[simp] theorem coolantRest_clamps (s : State) : (coolantRest s).clamps = s.clamps := rfl
@[simp] theorem coolantRest_bank (s : State) : (coolantRest s).bank = s.bank := rfl
@[simp] theorem coolantRest_gear (s : State) : (coolantRest s).gear = s.gear := rfl
@[simp] theorem coolantRest_pendant (s : State) : (coolantRest s).pendant = s.pendant := rfl
@[simp] theorem coolantRest_inputs (s : State) : (coolantRest s).inputs = s.inputs := rfl
@[simp] theorem coolantRest_store (s : State) : (coolantRest s).store = s.store := rfl
@[simp] theorem coolantRest_flags (s : State) : (coolantRest s).flags = s.flags := rfl
@[simp] theorem coolantRest_seen (s : State) : (coolantRest s).seen = s.seen := rfl
@[simp] theorem coolantRest_sent (s : State) : (coolantRest s).sent = s.sent := rfl
@[simp] theorem coolantRest_pending (s : State) : (coolantRest s).pending = s.pending := rfl

/-! ## `coolantResume` -/

@[simp] theorem coolantResume_link (s : State) : (coolantResume s).link = s.link := rfl
@[simp] theorem coolantResume_axes (s : State) : (coolantResume s).axes = s.axes := rfl
@[simp] theorem coolantResume_comp (s : State) : (coolantResume s).comp = s.comp := rfl
@[simp] theorem coolantResume_clamps (s : State) : (coolantResume s).clamps = s.clamps := rfl
@[simp] theorem coolantResume_bank (s : State) : (coolantResume s).bank = s.bank := rfl
@[simp] theorem coolantResume_gear (s : State) : (coolantResume s).gear = s.gear := rfl
@[simp] theorem coolantResume_pendant (s : State) : (coolantResume s).pendant = s.pendant := rfl
@[simp] theorem coolantResume_inputs (s : State) : (coolantResume s).inputs = s.inputs := rfl
@[simp] theorem coolantResume_store (s : State) : (coolantResume s).store = s.store := rfl
@[simp] theorem coolantResume_flags (s : State) : (coolantResume s).flags = s.flags := rfl
@[simp] theorem coolantResume_seen (s : State) : (coolantResume s).seen = s.seen := rfl
@[simp] theorem coolantResume_sent (s : State) : (coolantResume s).sent = s.sent := rfl
@[simp] theorem coolantResume_pending (s : State) : (coolantResume s).pending = s.pending := rfl

/-! ## `startLube` -/

@[simp] theorem startLube_link (s : State) : (startLube s).link = s.link := rfl
@[simp] theorem startLube_axes (s : State) : (startLube s).axes = s.axes := rfl
@[simp] theorem startLube_comp (s : State) : (startLube s).comp = s.comp := rfl
@[simp] theorem startLube_clamps (s : State) : (startLube s).clamps = s.clamps := rfl
@[simp] theorem startLube_bank (s : State) : (startLube s).bank = s.bank := rfl
@[simp] theorem startLube_gear (s : State) : (startLube s).gear = s.gear := rfl
@[simp] theorem startLube_pendant (s : State) : (startLube s).pendant = s.pendant := rfl
@[simp] theorem startLube_inputs (s : State) : (startLube s).inputs = s.inputs := rfl
@[simp] theorem startLube_store (s : State) : (startLube s).store = s.store := rfl
@[simp] theorem startLube_flags (s : State) : (startLube s).flags = s.flags := rfl
@[simp] theorem startLube_seen (s : State) : (startLube s).seen = s.seen := rfl
@[simp] theorem startLube_sent (s : State) : (startLube s).sent = s.sent := rfl
@[simp] theorem startLube_pending (s : State) : (startLube s).pending = s.pending := rfl

/-! ## `dropClamps` -/

@[simp] theorem dropClamps_link (s : State) : (dropClamps s).link = s.link := rfl
@[simp] theorem dropClamps_axes (s : State) : (dropClamps s).axes = s.axes := rfl
@[simp] theorem dropClamps_comp (s : State) : (dropClamps s).comp = s.comp := rfl
@[simp] theorem dropClamps_gear (s : State) : (dropClamps s).gear = s.gear := rfl
@[simp] theorem dropClamps_coolant (s : State) : (dropClamps s).coolant = s.coolant := rfl
@[simp] theorem dropClamps_pendant (s : State) : (dropClamps s).pendant = s.pendant := rfl
@[simp] theorem dropClamps_inputs (s : State) : (dropClamps s).inputs = s.inputs := rfl
@[simp] theorem dropClamps_store (s : State) : (dropClamps s).store = s.store := rfl
@[simp] theorem dropClamps_flags (s : State) : (dropClamps s).flags = s.flags := rfl
@[simp] theorem dropClamps_seen (s : State) : (dropClamps s).seen = s.seen := rfl
@[simp] theorem dropClamps_sent (s : State) : (dropClamps s).sent = s.sent := rfl
@[simp] theorem dropClamps_pending (s : State) : (dropClamps s).pending = s.pending := rfl

/-! ## `setActive` -/

@[simp] theorem setActive_link (t : TableId) (img : Image) (s : State) : (setActive t img s).link = s.link := rfl
@[simp] theorem setActive_axes (t : TableId) (img : Image) (s : State) : (setActive t img s).axes = s.axes := rfl
@[simp] theorem setActive_comp (t : TableId) (img : Image) (s : State) : (setActive t img s).comp = s.comp := rfl
@[simp] theorem setActive_clamps (t : TableId) (img : Image) (s : State) : (setActive t img s).clamps = s.clamps := rfl
@[simp] theorem setActive_bank (t : TableId) (img : Image) (s : State) : (setActive t img s).bank = s.bank := rfl
@[simp] theorem setActive_gear (t : TableId) (img : Image) (s : State) : (setActive t img s).gear = s.gear := rfl
@[simp] theorem setActive_coolant (t : TableId) (img : Image) (s : State) : (setActive t img s).coolant = s.coolant := rfl
@[simp] theorem setActive_pendant (t : TableId) (img : Image) (s : State) : (setActive t img s).pendant = s.pendant := rfl
@[simp] theorem setActive_inputs (t : TableId) (img : Image) (s : State) : (setActive t img s).inputs = s.inputs := rfl
@[simp] theorem setActive_flags (t : TableId) (img : Image) (s : State) : (setActive t img s).flags = s.flags := rfl
@[simp] theorem setActive_seen (t : TableId) (img : Image) (s : State) : (setActive t img s).seen = s.seen := rfl
@[simp] theorem setActive_sent (t : TableId) (img : Image) (s : State) : (setActive t img s).sent = s.sent := rfl
@[simp] theorem setActive_pending (t : TableId) (img : Image) (s : State) : (setActive t img s).pending = s.pending := rfl

/-! ## `beginStore` -/

@[simp] theorem beginStore_link (s : State) : (beginStore s).link = s.link := rfl
@[simp] theorem beginStore_axes (s : State) : (beginStore s).axes = s.axes := rfl
@[simp] theorem beginStore_comp (s : State) : (beginStore s).comp = s.comp := rfl
@[simp] theorem beginStore_clamps (s : State) : (beginStore s).clamps = s.clamps := rfl
@[simp] theorem beginStore_bank (s : State) : (beginStore s).bank = s.bank := rfl
@[simp] theorem beginStore_gear (s : State) : (beginStore s).gear = s.gear := rfl
@[simp] theorem beginStore_coolant (s : State) : (beginStore s).coolant = s.coolant := rfl
@[simp] theorem beginStore_pendant (s : State) : (beginStore s).pendant = s.pendant := rfl
@[simp] theorem beginStore_inputs (s : State) : (beginStore s).inputs = s.inputs := rfl
@[simp] theorem beginStore_flags (s : State) : (beginStore s).flags = s.flags := rfl
@[simp] theorem beginStore_seen (s : State) : (beginStore s).seen = s.seen := rfl
@[simp] theorem beginStore_sent (s : State) : (beginStore s).sent = s.sent := rfl
@[simp] theorem beginStore_pending (s : State) : (beginStore s).pending = s.pending := rfl

/-! ## `conditionerWork` -/

@[simp] theorem conditionerWork_link (v : Samples) (s : State) : (conditionerWork v s).link = s.link := rfl
@[simp] theorem conditionerWork_axes (v : Samples) (s : State) : (conditionerWork v s).axes = s.axes := rfl
@[simp] theorem conditionerWork_comp (v : Samples) (s : State) : (conditionerWork v s).comp = s.comp := rfl
@[simp] theorem conditionerWork_clamps (v : Samples) (s : State) : (conditionerWork v s).clamps = s.clamps := rfl
@[simp] theorem conditionerWork_bank (v : Samples) (s : State) : (conditionerWork v s).bank = s.bank := rfl
@[simp] theorem conditionerWork_gear (v : Samples) (s : State) : (conditionerWork v s).gear = s.gear := rfl
@[simp] theorem conditionerWork_coolant (v : Samples) (s : State) : (conditionerWork v s).coolant = s.coolant := rfl
@[simp] theorem conditionerWork_pendant (v : Samples) (s : State) : (conditionerWork v s).pendant = s.pendant := rfl
@[simp] theorem conditionerWork_store (v : Samples) (s : State) : (conditionerWork v s).store = s.store := rfl
@[simp] theorem conditionerWork_flags (v : Samples) (s : State) : (conditionerWork v s).flags = s.flags := rfl
@[simp] theorem conditionerWork_seen (v : Samples) (s : State) : (conditionerWork v s).seen = s.seen := rfl
@[simp] theorem conditionerWork_sent (v : Samples) (s : State) : (conditionerWork v s).sent = s.sent := rfl
@[simp] theorem conditionerWork_pending (v : Samples) (s : State) : (conditionerWork v s).pending = s.pending := rfl

/-! ## `droopWork` -/

@[simp] theorem droopWork_link (s : State) : (droopWork s).link = s.link := rfl
@[simp] theorem droopWork_axes (s : State) : (droopWork s).axes = s.axes := rfl
@[simp] theorem droopWork_clamps (s : State) : (droopWork s).clamps = s.clamps := rfl
@[simp] theorem droopWork_bank (s : State) : (droopWork s).bank = s.bank := rfl
@[simp] theorem droopWork_gear (s : State) : (droopWork s).gear = s.gear := rfl
@[simp] theorem droopWork_coolant (s : State) : (droopWork s).coolant = s.coolant := rfl
@[simp] theorem droopWork_pendant (s : State) : (droopWork s).pendant = s.pendant := rfl
@[simp] theorem droopWork_inputs (s : State) : (droopWork s).inputs = s.inputs := rfl
@[simp] theorem droopWork_store (s : State) : (droopWork s).store = s.store := rfl
@[simp] theorem droopWork_flags (s : State) : (droopWork s).flags = s.flags := rfl
@[simp] theorem droopWork_seen (s : State) : (droopWork s).seen = s.seen := rfl
@[simp] theorem droopWork_sent (s : State) : (droopWork s).sent = s.sent := rfl
@[simp] theorem droopWork_pending (s : State) : (droopWork s).pending = s.pending := rfl

/-! ## `stoppedTimerWork` -/

@[simp] theorem stoppedTimerWork_link (ms : Nat) (s : State) : (stoppedTimerWork ms s).link = s.link := rfl
@[simp] theorem stoppedTimerWork_axes (ms : Nat) (s : State) : (stoppedTimerWork ms s).axes = s.axes := rfl
@[simp] theorem stoppedTimerWork_clamps (ms : Nat) (s : State) : (stoppedTimerWork ms s).clamps = s.clamps := rfl
@[simp] theorem stoppedTimerWork_bank (ms : Nat) (s : State) : (stoppedTimerWork ms s).bank = s.bank := rfl
@[simp] theorem stoppedTimerWork_gear (ms : Nat) (s : State) : (stoppedTimerWork ms s).gear = s.gear := rfl
@[simp] theorem stoppedTimerWork_coolant (ms : Nat) (s : State) : (stoppedTimerWork ms s).coolant = s.coolant := rfl
@[simp] theorem stoppedTimerWork_pendant (ms : Nat) (s : State) : (stoppedTimerWork ms s).pendant = s.pendant := rfl
@[simp] theorem stoppedTimerWork_inputs (ms : Nat) (s : State) : (stoppedTimerWork ms s).inputs = s.inputs := rfl
@[simp] theorem stoppedTimerWork_store (ms : Nat) (s : State) : (stoppedTimerWork ms s).store = s.store := rfl
@[simp] theorem stoppedTimerWork_flags (ms : Nat) (s : State) : (stoppedTimerWork ms s).flags = s.flags := rfl
@[simp] theorem stoppedTimerWork_seen (ms : Nat) (s : State) : (stoppedTimerWork ms s).seen = s.seen := rfl
@[simp] theorem stoppedTimerWork_sent (ms : Nat) (s : State) : (stoppedTimerWork ms s).sent = s.sent := rfl
@[simp] theorem stoppedTimerWork_pending (ms : Nat) (s : State) : (stoppedTimerWork ms s).pending = s.pending := rfl

/-! ## `startAxes` -/

@[simp] theorem startAxes_link (s : State) : (startAxes s).link = s.link := rfl
@[simp] theorem startAxes_comp (s : State) : (startAxes s).comp = s.comp := rfl
@[simp] theorem startAxes_clamps (s : State) : (startAxes s).clamps = s.clamps := rfl
@[simp] theorem startAxes_bank (s : State) : (startAxes s).bank = s.bank := rfl
@[simp] theorem startAxes_gear (s : State) : (startAxes s).gear = s.gear := rfl
@[simp] theorem startAxes_coolant (s : State) : (startAxes s).coolant = s.coolant := rfl
@[simp] theorem startAxes_pendant (s : State) : (startAxes s).pendant = s.pendant := rfl
@[simp] theorem startAxes_inputs (s : State) : (startAxes s).inputs = s.inputs := rfl
@[simp] theorem startAxes_store (s : State) : (startAxes s).store = s.store := rfl
@[simp] theorem startAxes_flags (s : State) : (startAxes s).flags = s.flags := rfl
@[simp] theorem startAxes_seen (s : State) : (startAxes s).seen = s.seen := rfl
@[simp] theorem startAxes_sent (s : State) : (startAxes s).sent = s.sent := rfl
@[simp] theorem startAxes_pending (s : State) : (startAxes s).pending = s.pending := rfl

/-! ## `pushCommands` -/

@[simp] theorem pushCommands_link (f : Option CycleFrame) (s : State) : (pushCommands f s).link = s.link := rfl
@[simp] theorem pushCommands_comp (f : Option CycleFrame) (s : State) : (pushCommands f s).comp = s.comp := rfl
@[simp] theorem pushCommands_clamps (f : Option CycleFrame) (s : State) : (pushCommands f s).clamps = s.clamps := rfl
@[simp] theorem pushCommands_bank (f : Option CycleFrame) (s : State) : (pushCommands f s).bank = s.bank := rfl
@[simp] theorem pushCommands_gear (f : Option CycleFrame) (s : State) : (pushCommands f s).gear = s.gear := rfl
@[simp] theorem pushCommands_coolant (f : Option CycleFrame) (s : State) : (pushCommands f s).coolant = s.coolant := rfl
@[simp] theorem pushCommands_pendant (f : Option CycleFrame) (s : State) : (pushCommands f s).pendant = s.pendant := rfl
@[simp] theorem pushCommands_inputs (f : Option CycleFrame) (s : State) : (pushCommands f s).inputs = s.inputs := rfl
@[simp] theorem pushCommands_store (f : Option CycleFrame) (s : State) : (pushCommands f s).store = s.store := rfl
@[simp] theorem pushCommands_flags (f : Option CycleFrame) (s : State) : (pushCommands f s).flags = s.flags := rfl
@[simp] theorem pushCommands_seen (f : Option CycleFrame) (s : State) : (pushCommands f s).seen = s.seen := rfl
@[simp] theorem pushCommands_sent (f : Option CycleFrame) (s : State) : (pushCommands f s).sent = s.sent := rfl
@[simp] theorem pushCommands_pending (f : Option CycleFrame) (s : State) : (pushCommands f s).pending = s.pending := rfl

/-! ## `passTime` -/

@[simp] theorem passTime_axes (c : ClockSpan) (s : State) : (passTime c s).axes = s.axes := rfl
@[simp] theorem passTime_comp (c : ClockSpan) (s : State) : (passTime c s).comp = s.comp := rfl
@[simp] theorem passTime_bank (c : ClockSpan) (s : State) : (passTime c s).bank = s.bank := rfl
@[simp] theorem passTime_pendant (c : ClockSpan) (s : State) : (passTime c s).pendant = s.pendant := rfl
@[simp] theorem passTime_inputs (c : ClockSpan) (s : State) : (passTime c s).inputs = s.inputs := rfl
@[simp] theorem passTime_store (c : ClockSpan) (s : State) : (passTime c s).store = s.store := rfl
@[simp] theorem passTime_flags (c : ClockSpan) (s : State) : (passTime c s).flags = s.flags := rfl
@[simp] theorem passTime_seen (c : ClockSpan) (s : State) : (passTime c s).seen = s.seen := rfl
@[simp] theorem passTime_sent (c : ClockSpan) (s : State) : (passTime c s).sent = s.sent := rfl
@[simp] theorem passTime_pending (c : ClockSpan) (s : State) : (passTime c s).pending = s.pending := rfl

/-! ## `framesLeave` -/

@[simp] theorem framesLeave_axes (rb : Bool) (f : Option CycleFrame) (s : State) : (framesLeave rb f s).axes = s.axes := rfl
@[simp] theorem framesLeave_comp (rb : Bool) (f : Option CycleFrame) (s : State) : (framesLeave rb f s).comp = s.comp := rfl
@[simp] theorem framesLeave_clamps (rb : Bool) (f : Option CycleFrame) (s : State) : (framesLeave rb f s).clamps = s.clamps := rfl
@[simp] theorem framesLeave_bank (rb : Bool) (f : Option CycleFrame) (s : State) : (framesLeave rb f s).bank = s.bank := rfl
@[simp] theorem framesLeave_gear (rb : Bool) (f : Option CycleFrame) (s : State) : (framesLeave rb f s).gear = s.gear := rfl
@[simp] theorem framesLeave_coolant (rb : Bool) (f : Option CycleFrame) (s : State) : (framesLeave rb f s).coolant = s.coolant := rfl
@[simp] theorem framesLeave_pendant (rb : Bool) (f : Option CycleFrame) (s : State) : (framesLeave rb f s).pendant = s.pendant := rfl
@[simp] theorem framesLeave_inputs (rb : Bool) (f : Option CycleFrame) (s : State) : (framesLeave rb f s).inputs = s.inputs := rfl
@[simp] theorem framesLeave_store (rb : Bool) (f : Option CycleFrame) (s : State) : (framesLeave rb f s).store = s.store := rfl
@[simp] theorem framesLeave_flags (rb : Bool) (f : Option CycleFrame) (s : State) : (framesLeave rb f s).flags = s.flags := rfl
@[simp] theorem framesLeave_pending (rb : Bool) (f : Option CycleFrame) (s : State) : (framesLeave rb f s).pending = s.pending := rfl

/-! ## `State.withPending` -/

@[simp] theorem withPending_link (s : State) (q : List Instr) : (s.withPending q).link = s.link := rfl
@[simp] theorem withPending_axes (s : State) (q : List Instr) : (s.withPending q).axes = s.axes := rfl
@[simp] theorem withPending_comp (s : State) (q : List Instr) : (s.withPending q).comp = s.comp := rfl
@[simp] theorem withPending_clamps (s : State) (q : List Instr) : (s.withPending q).clamps = s.clamps := rfl
@[simp] theorem withPending_bank (s : State) (q : List Instr) : (s.withPending q).bank = s.bank := rfl
@[simp] theorem withPending_gear (s : State) (q : List Instr) : (s.withPending q).gear = s.gear := rfl
@[simp] theorem withPending_coolant (s : State) (q : List Instr) : (s.withPending q).coolant = s.coolant := rfl
@[simp] theorem withPending_pendant (s : State) (q : List Instr) : (s.withPending q).pendant = s.pendant := rfl
@[simp] theorem withPending_inputs (s : State) (q : List Instr) : (s.withPending q).inputs = s.inputs := rfl
@[simp] theorem withPending_store (s : State) (q : List Instr) : (s.withPending q).store = s.store := rfl
@[simp] theorem withPending_flags (s : State) (q : List Instr) : (s.withPending q).flags = s.flags := rfl
@[simp] theorem withPending_seen (s : State) (q : List Instr) : (s.withPending q).seen = s.seen := rfl
@[simp] theorem withPending_sent (s : State) (q : List Instr) : (s.withPending q).sent = s.sent := rfl
@[simp] theorem withPending_pending (s : State) (q : List Instr) : (s.withPending q).pending = q := rfl

/-! ## What the updates write -/

@[simp] theorem raise_raised (f : Flag) (s : State) : (raise f s).flags.raised = s.flags.raised ||| f.bit := rfl
@[simp] theorem raise_mask (f : Flag) (s : State) : (raise f s).flags.mask = s.flags.mask := rfl
@[simp] theorem announce_announced (src : TriggerSource) (s : State) :
    (announce src s).coolant.announced = s.coolant.announced ++ [src] := rfl
@[simp] theorem answer_answer (k : ServiceKind) (st : Status) (body : List Byte) (s : State) :
    (answer k st body s).sent.answer = ⟨k.code, st, body⟩ := rfl
@[simp] theorem setClamp_clamps (a : ClampAxis) (st : ClampState) (c : Option Nat) (s : State) :
    (setClamp a st c s).clamps = s.clamps.set a ⟨st, c, 0⟩ := rfl
@[simp] theorem withdraw_queue (c : Claimant) (s : State) : (withdraw c s).bank.queue = s.bank.queue.erase c := rfl
@[simp] theorem withdraw_holder (c : Claimant) (s : State) : (withdraw c s).bank.holder = s.bank.holder := rfl
@[simp] theorem framesLeave_seen (rb : Bool) (f : Option CycleFrame) (s : State) : (framesLeave rb f s).seen = seenNow s := rfl

/-! ## One value per axis, clamp and table -/


end Sys2Proof.Machine

namespace Sys2Proof

variable {α : Type}

@[simp] theorem PerAxis.get_set_self (v : PerAxis α) (a : Axis) (u : α) : (v.set a u).get a = u := by cases a <;> rfl
theorem PerAxis.get_set_ne (v : PerAxis α) {a c : Axis} (u : α) (h : c ≠ a) : (v.set a u).get c = v.get c := by
  cases a <;> cases c <;> first | rfl | exact absurd rfl h
@[simp] theorem PerAxis.get_of (f : Axis → α) (a : Axis) : (PerAxis.of f).get a = f a := by cases a <;> rfl
@[simp] theorem PerClamp.get_set_self (v : PerClamp α) (a : ClampAxis) (u : α) : (v.set a u).get a = u := by
  cases a <;> rfl
theorem PerClamp.get_set_ne (v : PerClamp α) {a c : ClampAxis} (u : α) (h : c ≠ a) :
    (v.set a u).get c = v.get c := by
  cases a <;> cases c <;> first | rfl | exact absurd rfl h
@[simp] theorem PerClamp.get_of (f : ClampAxis → α) (a : ClampAxis) : (PerClamp.of f).get a = f a := by
  cases a <;> rfl
@[simp] theorem Machine.PerTable.get_set_self (v : Machine.PerTable α) (t : Machine.TableId) (u : α) :
    (v.set t u).get t = u := by cases t <;> rfl
theorem Machine.PerTable.get_set_ne (v : Machine.PerTable α) {t q : Machine.TableId} (u : α) (h : q ≠ t) :
    (v.set t u).get q = v.get q := by
  cases t <;> cases q <;> first | rfl | exact absurd rfl h

end Sys2Proof
end

