-- ==== Sys2Proof/Laws/Bank.lean ====
section
/-! SUPPORT. The operations of the valve bank: what each can do, and that they reach the clamps, the bank and the gearbox
alone. -/

namespace Sys2Proof.Machine

/-- `t` differs from `s` in the clamp sequencers, the bank and the gearbox alone. -/
structure BankOnly (s t : State) : Prop where
  link : t.link = s.link
  axes : t.axes = s.axes
  comp : t.comp = s.comp
  coolant : t.coolant = s.coolant
  pendant : t.pendant = s.pendant
  inputs : t.inputs = s.inputs
  store : t.store = s.store
  flags : t.flags = s.flags
  seen : t.seen = s.seen
  sent : t.sent = s.sent
  pending : t.pending = s.pending

theorem BankOnly.refl (s : State) : BankOnly s s := ⟨rfl, rfl, rfl, rfl, rfl, rfl, rfl, rfl, rfl, rfl, rfl⟩

theorem BankOnly.trans {s t u : State} (h : BankOnly s t) (k : BankOnly t u) : BankOnly s u :=
  ⟨k.link.trans h.link, k.axes.trans h.axes, k.comp.trans h.comp, k.coolant.trans h.coolant,
   k.pendant.trans h.pendant, k.inputs.trans h.inputs, k.store.trans h.store, k.flags.trans h.flags,
   k.seen.trans h.seen, k.sent.trans h.sent, k.pending.trans h.pending⟩

/-! ## What each operation can do -/

/-- A grant is made to the head of the queue where the arbiter is ready, and nothing happens otherwise. -/
theorem tryGrant_cases (s : State) :
    ((grantReady s = false ∨ s.bank.queue = []) ∧ tryGrant s = s) ∨
    (∃ c rest, grantReady s = true ∧ s.bank.queue = c :: rest ∧
      tryGrant s = beginTransit c { s with bank := { s.bank with queue := rest, holder := some c } }) := by
  unfold tryGrant
  by_cases h : grantReady s = true
  · rw [if_pos h]
    cases hq : s.bank.queue with
    | nil => exact .inl ⟨.inr rfl, rfl⟩
    | cons c rest => exact .inr ⟨c, rest, h, rfl, rfl⟩
  · rw [if_neg h]
    exact .inl ⟨.inl (by simpa using h), rfl⟩

/-- The arbiter is ready only while the bank is free. -/
theorem holder_of_grantReady {s : State} (h : grantReady s = true) : s.bank.holder = none := by
  simp only [grantReady, Bool.and_eq_true, decide_eq_true_eq] at h
  exact h.1.1

/-- A held bank grants nothing. -/
theorem tryGrant_of_holder {s : State} {c : Claimant} (h : s.bank.holder = some c) : tryGrant s = s := by
  rcases tryGrant_cases s with ⟨-, e⟩ | ⟨_, _, r, -, -⟩
  · exact e
  · rw [holder_of_grantReady r] at h; cases h

/-- An empty queue is granted nothing. -/
theorem tryGrant_of_nil {s : State} (h : s.bank.queue = []) : tryGrant s = s := by
  rcases tryGrant_cases s with ⟨-, e⟩ | ⟨_, _, -, q, -⟩
  · exact e
  · rw [h] at q; cases q

/-- A claimant joins the tail and the arbiter tests its conditions; a claimant that already claims does not. -/
theorem claim_cases (c : Claimant) (s : State) :
    ((c ∈ s.bank.queue ∨ s.bank.holder = some c) ∧ claim c s = s) ∨
    (c ∉ s.bank.queue ∧ s.bank.holder ≠ some c ∧
      claim c s = tryGrant { s with bank := { s.bank with queue := s.bank.queue ++ [c] } }) := by
  unfold claim
  by_cases h : c ∈ s.bank.queue ∨ s.bank.holder = some c
  · exact .inl ⟨h, if_pos h⟩
  · exact .inr ⟨fun q => h (.inl q), fun q => h (.inr q), if_neg h⟩

/-- The holder gives the bank up and the arbiter tests its conditions; another claimant's release does nothing. -/
theorem release_cases (c : Claimant) (s : State) :
    (s.bank.holder ≠ some c ∧ release c s = s) ∨
    (s.bank.holder = some c ∧ release c s = tryGrant { s with bank := { s.bank with holder := none } }) := by
  unfold release
  by_cases h : s.bank.holder = some c
  · exact .inr ⟨h, if_pos h⟩
  · exact .inl ⟨h, if_neg h⟩

/-- A recovery is a claim with the drop ceiling started, or nothing. -/
theorem recoverClamp_cases (s : State) (a : ClampAxis) :
    (recoverable s a = false ∧ recoverClamp s a = s) ∨
    (recoverable s a = true ∧
      recoverClamp s a = claim (.clamp a) (setClamp a (.clampWait true) (some (dropCeiling s)) s)) := by
  unfold recoverClamp
  by_cases h : recoverable s a = true
  · exact .inr ⟨h, if_pos h⟩
  · exact .inl ⟨by simpa using h, if_neg h⟩

/-! ## Frames -/

theorem setClamp_bankOnly (a : ClampAxis) (st : ClampState) (c : Option Nat) (s : State) :
    BankOnly s (setClamp a st c s) := ⟨rfl, rfl, rfl, rfl, rfl, rfl, rfl, rfl, rfl, rfl, rfl⟩

theorem setSettle_bankOnly (a : ClampAxis) (n : Nat) (s : State) : BankOnly s (setSettle a n s) :=
  ⟨rfl, rfl, rfl, rfl, rfl, rfl, rfl, rfl, rfl, rfl, rfl⟩

theorem withdraw_bankOnly (c : Claimant) (s : State) : BankOnly s (withdraw c s) :=
  ⟨rfl, rfl, rfl, rfl, rfl, rfl, rfl, rfl, rfl, rfl, rfl⟩

theorem dropClamps_bankOnly (s : State) : BankOnly s (dropClamps s) :=
  ⟨rfl, rfl, rfl, rfl, rfl, rfl, rfl, rfl, rfl, rfl, rfl⟩

theorem beginClampTransit_bankOnly (a : ClampAxis) (s : State) : BankOnly s (beginClampTransit a s) := by
  unfold beginClampTransit
  split <;> first | exact setClamp_bankOnly _ _ _ s | exact .refl s

theorem beginShift_bankOnly (s : State) : BankOnly s (beginShift s) := by
  unfold beginShift
  split
  · exact ⟨rfl, rfl, rfl, rfl, rfl, rfl, rfl, rfl, rfl, rfl, rfl⟩
  · exact .refl s

theorem beginTransit_bankOnly (c : Claimant) (s : State) : BankOnly s (beginTransit c s) := by
  cases c with
  | clamp a => exact beginClampTransit_bankOnly a s
  | gearbox => exact beginShift_bankOnly s

theorem tryGrant_bankOnly (s : State) : BankOnly s (tryGrant s) := by
  rcases tryGrant_cases s with ⟨-, e⟩ | ⟨c, rest, -, -, e⟩
  · rw [e]; exact .refl s
  · rw [e]
    exact BankOnly.trans (t := { s with bank := { s.bank with queue := rest, holder := some c } })
      ⟨rfl, rfl, rfl, rfl, rfl, rfl, rfl, rfl, rfl, rfl, rfl⟩ (beginTransit_bankOnly c _)

theorem claim_bankOnly (c : Claimant) (s : State) : BankOnly s (claim c s) := by
  rcases claim_cases c s with ⟨-, e⟩ | ⟨-, -, e⟩
  · rw [e]; exact .refl s
  · rw [e]
    exact BankOnly.trans (t := { s with bank := { s.bank with queue := s.bank.queue ++ [c] } })
      ⟨rfl, rfl, rfl, rfl, rfl, rfl, rfl, rfl, rfl, rfl, rfl⟩ (tryGrant_bankOnly _)

theorem release_bankOnly (c : Claimant) (s : State) : BankOnly s (release c s) := by
  rcases release_cases c s with ⟨-, e⟩ | ⟨-, e⟩
  · rw [e]; exact .refl s
  · rw [e]
    exact BankOnly.trans (t := { s with bank := { s.bank with holder := none } })
      ⟨rfl, rfl, rfl, rfl, rfl, rfl, rfl, rfl, rfl, rfl, rfl⟩ (tryGrant_bankOnly _)

theorem recoverClamp_bankOnly (s : State) (a : ClampAxis) : BankOnly s (recoverClamp s a) := by
  rcases recoverClamp_cases s a with ⟨-, e⟩ | ⟨-, e⟩
  · rw [e]; exact .refl s
  · rw [e]; exact (setClamp_bankOnly _ _ _ s).trans (claim_bankOnly _ _)

/-- A fold of operations that stay within the bank stays within it. -/
theorem foldl_bankOnly {α : Type} {f : State → α → State} (h : ∀ s a, BankOnly s (f s a)) (l : List α) (s : State) :
    BankOnly s (l.foldl f s) := by
  induction l generalizing s with
  | nil => exact .refl s
  | cons a l ih => exact (h s a).trans (ih (f s a))

theorem recoverDropped_bankOnly (order : List ClampAxis) (s : State) : BankOnly s (recoverDropped order s) :=
  foldl_bankOnly recoverClamp_bankOnly _ s

theorem enterEngaged_bankOnly (r : Range) (s : State) : BankOnly s (enterEngaged r s) :=
  ⟨rfl, rfl, rfl, rfl, rfl, rfl, rfl, rfl, rfl, rfl, rfl⟩

theorem enterUnknown_bankOnly (s : State) : BankOnly s (enterUnknown s) :=
  ⟨rfl, rfl, rfl, rfl, rfl, rfl, rfl, rfl, rfl, rfl, rfl⟩

/-- A re-evaluation ends in ENGAGED of the range that the forks show, or in UNKNOWN. -/
theorem reevaluate_cases (s : State) :
    (∃ r, shownRange s = some r ∧ reevaluate s = enterEngaged r s) ∨
    (shownRange s = none ∧ reevaluate s = enterUnknown s) := by
  unfold reevaluate
  cases h : shownRange s with
  | some r => exact .inl ⟨r, rfl, rfl⟩
  | none => exact .inr ⟨rfl, rfl⟩

theorem reevaluate_bankOnly (s : State) : BankOnly s (reevaluate s) := by
  rcases reevaluate_cases s with ⟨r, -, e⟩ | ⟨-, e⟩
  · rw [e]; exact enterEngaged_bankOnly r s
  · rw [e]; exact enterUnknown_bankOnly s

theorem reevaluateKeeping_bankOnly (s : State) : BankOnly s (reevaluateKeeping s) := by
  unfold reevaluateKeeping
  split
  · split
    · exact .refl s
    · exact enterEngaged_bankOnly _ s
  · exact enterUnknown_bankOnly s

theorem gearHalt_bankOnly (s : State) : BankOnly s (gearHalt s) := by
  unfold gearHalt
  have g (t : State) (g' : Gearbox) : BankOnly t { t with gear := g' } :=
    ⟨rfl, rfl, rfl, rfl, rfl, rfl, rfl, rfl, rfl, rfl, rfl⟩
  dsimp only
  split
  all_goals first
    | exact (g s _).trans (reevaluate_bankOnly _)
    | exact g s _

theorem abandonChange_bankOnly (s : State) : BankOnly s (abandonChange s) :=
  BankOnly.trans (t := { s with gear := { stopGearTimers s.gear with target := none, next := none, output := 0 } })
    ⟨rfl, rfl, rfl, rfl, rfl, rfl, rfl, rfl, rfl, rfl, rfl⟩
    ((withdraw_bankOnly _ _).trans ((reevaluate_bankOnly _).trans (release_bankOnly _ _)))

theorem gearCommitted_bankOnly (s : State) : BankOnly s (gearCommitted s) := by
  unfold gearCommitted
  split
  · exact abandonChange_bankOnly s
  all_goals first
    | exact reevaluateKeeping_bankOnly s
    | exact .refl s

end Sys2Proof.Machine
end

