-- ==== Sys2Proof/Laws/Settle.lean ====
section
/-! SUPPORT. The end of a command at the coolant sequencer: what `settleDemand`, `takeTrigger` and `settleTriggers` can
do, and that they do nothing to a settled state. -/

namespace Sys2Proof.Machine

/-- Withheld demand depends on the requested values, the gear state and the tank warning alone. -/
theorem demandNow_congr {s t : State} (hr : t.coolant.requested = s.coolant.requested)
    (hg : t.gear.state = s.gear.state) (ht : t.coolant.tank = s.coolant.tank) : demandNow t = demandNow s := by
  simp [demandNow, withholding, hr, hg, ht]

/-- A state whose withheld demand is right is left as it is. -/
theorem settleDemand_eq_self {s : State} (h : s.coolant.withheld = demandNow s) : settleDemand s = s := by
  have e : { s with coolant := { s.coolant with withheld := demandNow s } } = s := by rw [← h]
  have o : (demandNow s && !s.coolant.withheld) = false := by rw [h]; simp
  unfold settleDemand
  simp only [o, e]
  simp

/-- With nothing announced there is no trigger to take. -/
@[simp] theorem nextTrigger_nil (order : List TriggerSource) : nextTrigger order [] = none := by
  have : order.find? (· ∈ ([] : List TriggerSource)) = none := List.find?_eq_none.mpr (by simp)
  simp only [nextTrigger, this, List.head?_nil]

/-- A settled state is left as it is. -/
theorem settleTriggers_eq_self (order : List TriggerSource) {s : State} (h : SettledLaw s) :
    settleTriggers order s = s := by
  unfold settleTriggers
  simp only [settleDemand_eq_self h.2, h.1, List.length_nil]
  unfold drainTriggers
  simp only [h.1, nextTrigger_nil]

/-- A change outside what the coolant sequencer judges leaves a settled state settled. -/
theorem SettledLaw.of_same {s t : State} (h : SettledLaw s) (hc : t.coolant = s.coolant)
    (hg : t.gear.state = s.gear.state) : SettledLaw t :=
  ⟨by rw [hc]; exact h.1, by rw [demandNow_congr (by rw [hc]) hg (by rw [hc]), hc]; exact h.2⟩

/-- `t` differs from `s` in the coolant sequencer and the flags alone. -/
structure CoolantOnly (s t : State) : Prop where
  link : t.link = s.link
  axes : t.axes = s.axes
  comp : t.comp = s.comp
  clamps : t.clamps = s.clamps
  bank : t.bank = s.bank
  gear : t.gear = s.gear
  pendant : t.pendant = s.pendant
  inputs : t.inputs = s.inputs
  store : t.store = s.store
  seen : t.seen = s.seen
  sent : t.sent = s.sent
  pending : t.pending = s.pending

theorem CoolantOnly.refl (s : State) : CoolantOnly s s := ⟨rfl, rfl, rfl, rfl, rfl, rfl, rfl, rfl, rfl, rfl, rfl, rfl⟩

theorem CoolantOnly.trans {s t u : State} (h : CoolantOnly s t) (k : CoolantOnly t u) : CoolantOnly s u :=
  ⟨k.link.trans h.link, k.axes.trans h.axes, k.comp.trans h.comp, k.clamps.trans h.clamps, k.bank.trans h.bank,
   k.gear.trans h.gear, k.pendant.trans h.pendant, k.inputs.trans h.inputs, k.store.trans h.store,
   k.seen.trans h.seen, k.sent.trans h.sent, k.pending.trans h.pending⟩

/-- An update of the sequencer's own record. -/
theorem CoolantOnly.update (s : State) (c : Coolant) : CoolantOnly s { s with coolant := c } :=
  ⟨rfl, rfl, rfl, rfl, rfl, rfl, rfl, rfl, rfl, rfl, rfl, rfl⟩

theorem CoolantOnly.raise (f : Flag) (s : State) : CoolantOnly s (raise f s) :=
  ⟨rfl, rfl, rfl, rfl, rfl, rfl, rfl, rfl, rfl, rfl, rfl, rfl⟩

theorem settleDemand_coolantOnly (s : State) : CoolantOnly s (settleDemand s) := by
  unfold settleDemand announce
  dsimp only
  split
  · exact ((CoolantOnly.update s _).trans (.raise .tscWithheld _)).trans (.update _ _)
  · exact .update s _

theorem advance_coolantOnly (n : Nat) (p : Fin 8) (i : Nat) (s : State) : CoolantOnly s (advance n p i s) := by
  induction n generalizing p i s with
  | zero => exact .refl s
  | succ n ih =>
    unfold advance
    split
    · exact .refl s
    · split
      · dsimp only
        split
        · exact (CoolantOnly.update s _).trans (.update _ _)
        · exact (CoolantOnly.update s _).trans (ih p (i + 1) _)
      · dsimp only
        split
        · exact (CoolantOnly.update s _).trans (.raise .coolantDone _)
        · exact ((CoolantOnly.update s _).trans (.raise .coolantDone _)).trans ((CoolantOnly.update _ _).trans (ih _ 1 _))

theorem startProgram_coolantOnly (p : Fin 8) (s : State) : CoolantOnly s (startProgram p s) := advance_coolantOnly _ _ _ s

theorem triggerProgram_coolantOnly (p : Fin 8) (s : State) : CoolantOnly s (triggerProgram p s) := by
  unfold triggerProgram
  split
  · exact .refl s
  · exact startProgram_coolantOnly p s
  · exact .raise _ s
  · exact .raise _ s
  · exact .update s _

theorem triggerSource_coolantOnly (src : TriggerSource) (s : State) : CoolantOnly s (triggerSource src s) := by
  unfold triggerSource
  split
  · split
    · split
      · exact triggerProgram_coolantOnly _ s
      · exact .refl s
    · exact .refl s
  · exact .refl s

theorem takeTrigger_coolantOnly (src : TriggerSource) (s : State) : CoolantOnly s (takeTrigger src s) :=
  ((CoolantOnly.update s _).trans (triggerSource_coolantOnly src _)).trans (settleDemand_coolantOnly _)

theorem drainTriggers_coolantOnly (order : List TriggerSource) (n : Nat) (s : State) :
    CoolantOnly s (drainTriggers order n s) := by
  induction n generalizing s with
  | zero => exact .update s _
  | succ n ih =>
    unfold drainTriggers
    split
    · exact (takeTrigger_coolantOnly _ s).trans (ih _)
    · exact .refl s

/-- What is announced reaches the coolant sequencer and the flags alone. -/
theorem settleTriggers_coolantOnly (order : List TriggerSource) (s : State) :
    CoolantOnly s (settleTriggers order s) :=
  (settleDemand_coolantOnly s).trans (drainTriggers_coolantOnly order _ _)

/-! ## After settling -/

theorem settleDemand_withheld (s : State) :
    (settleDemand s).coolant.withheld = demandNow (settleDemand s) := by
  unfold settleDemand
  dsimp only
  split <;> rfl

theorem drainTriggers_withheld (order : List TriggerSource) (n : Nat) {s : State}
    (h : s.coolant.withheld = demandNow s) :
    (drainTriggers order n s).coolant.withheld = demandNow (drainTriggers order n s) := by
  induction n generalizing s with
  | zero => exact h
  | succ n ih =>
    unfold drainTriggers
    split
    · exact ih (settleDemand_withheld _)
    · exact h

/-- A source that has been announced is taken next, whatever the order. -/
theorem nextTrigger_eq_none {order announced : List TriggerSource} (h : nextTrigger order announced = none) :
    announced = [] := by
  unfold nextTrigger at h
  split at h
  · rename_i src hf
    split at h
    · rename_i hr
      have hm : src ∈ announced := by simpa using List.find?_some hf
      exact absurd hr (by simpa using (List.find?_eq_none.mp h) src hm)
    · cases h
  · simpa using h

theorem drainTriggers_announced (order : List TriggerSource) (n : Nat) (s : State) :
    (drainTriggers order n s).coolant.announced = [] := by
  induction n generalizing s with
  | zero => rfl
  | succ n ih =>
    unfold drainTriggers
    split
    · exact ih _
    · rename_i h; exact nextTrigger_eq_none h

/-- The end of a piece of work leaves a settled state, whatever the order in which its triggers are taken. -/
theorem settleTriggers_settled (order : List TriggerSource) (s : State) : SettledLaw (settleTriggers order s) :=
  ⟨drainTriggers_announced order _ _, drainTriggers_withheld order _ (settleDemand_withheld s)⟩

end Sys2Proof.Machine
end

