-- ==== Sys2Proof/Laws/Commands.lean ====
section
/-! SUPPORT. How a command's outcome follows from its own work: a settled result is the next state as it stands, a
service is taken outside OFFLINE alone, and a record is judged by the length of its body before anything else. -/

namespace Sys2Proof.Machine

/-! ## What leaves a state settled -/

theorem SettledLaw.raise {s : State} (h : SettledLaw s) (f : Flag) : SettledLaw (raise f s) := h.of_same rfl rfl

theorem SettledLaw.raiseIf {s : State} (h : SettledLaw s) (c : Bool) (f : Flag) : SettledLaw (raiseIf c f s) := by
  cases c
  · exact h
  · exact h.raise f

theorem SettledLaw.answer {s : State} (h : SettledLaw s) (k : ServiceKind) (st : Status) (body : List Byte) :
    SettledLaw (answer k st body s) := h.of_same rfl rfl

theorem SettledLaw.refuse {s : State} (h : SettledLaw s) (k : ServiceKind) (st : Status) :
    SettledLaw (refuse k st s) := h.answer k st []

theorem SettledLaw.withLink {s : State} (h : SettledLaw s) (l : Link) : SettledLaw { s with link := l } :=
  h.of_same rfl rfl

theorem SettledLaw.withStore {s : State} (h : SettledLaw s) (t : TableStore) : SettledLaw { s with store := t } :=
  h.of_same rfl rfl

theorem SettledLaw.withPendant {s : State} (h : SettledLaw s) (p : Pendant) : SettledLaw { s with pendant := p } :=
  h.of_same rfl rfl

theorem SettledLaw.withComp {s : State} (h : SettledLaw s) (c : Compensation) : SettledLaw { s with comp := c } :=
  h.of_same rfl rfl

/-! ## Outcomes -/

/-- A command whose work leaves a settled state ends in that very state. -/
theorem settled_of_law {s : State} (h : SettledLaw s) : settled s = .next s := by
  rw [settled, settleTriggers_eq_self [] h]

/-- Nothing is taken in OFFLINE. -/
theorem served_of_offline {s : State} (h : s.link.state = .offline) (act : State → State) :
    served act s = .next s := by
  rw [served, if_pos h]

/-- Outside OFFLINE a service is its own work, what it announces settled. -/
theorem served_of_online {s : State} (h : s.link.state ≠ .offline) (act : State → State) :
    served act s = settled (act s) := by
  rw [served, if_neg h]

/-- A service whose work leaves a settled state ends in that very state. -/
theorem served_of_law {s : State} (h : s.link.state ≠ .offline) {act : State → State} (hl : SettledLaw (act s)) :
    served act s = .next (act s) := by
  rw [served_of_online h, settled_of_law hl]

theorem judged_of_ok {k : ServiceKind} {body : List Byte} (h : bodyLengthOk k body = true) (act : State → State)
    (s : State) : judged k body act s = act s := by
  rw [judged, if_pos h]

/-- R159, step 2: a body of the wrong length has no effect but its answer. -/
theorem judged_of_bad {k : ServiceKind} {body : List Byte} (h : bodyLengthOk k body = false) (act : State → State)
    (s : State) : judged k body act s = refuse k .badParam s := by
  rw [judged, if_neg (by simp [h])]

end Sys2Proof.Machine
end

