-- ==== Sys2Proof/Laws/Ops.lean ====
section
/-! SUPPORT. The shared operations on numbers and bytes: clamping, rounding, byte order, stretches of bytes, the CRC of a
frame, and the grant's end. -/

namespace Sys2Proof.Machine

/-! ## Numbers -/

theorem le_clampInt {lo hi : Int} (x : Int) : lo ≤ clampInt lo hi x := by unfold clampInt; omega

theorem clampInt_le {lo hi : Int} (h : lo ≤ hi) (x : Int) : clampInt lo hi x ≤ hi := by unfold clampInt; omega

theorem clampInt_eq_self {lo hi x : Int} (h₁ : lo ≤ x) (h₂ : x ≤ hi) : clampInt lo hi x = x := by
  unfold clampInt; omega

/-- Clamped into a symmetric range, the magnitude is within it. -/
theorem natAbs_clampInt_le (n : Nat) (x : Int) : (clampInt (-(n : Int)) n x).natAbs ≤ n := by unfold clampInt; omega

/-- Moved toward 0, a value loses `e` of its magnitude. -/
theorem natAbs_towardZero (v : Int) (e : Nat) : (towardZero v e).natAbs = v.natAbs - e := by
  unfold towardZero
  split
  · omega
  · split <;> omega

theorem roundDiv_zero (d : Nat) : roundDiv 0 d = 0 := by
  unfold roundDiv
  simp only [le_refl, if_true, mul_zero, zero_add]
  rcases Nat.eq_zero_or_pos d with rfl | h
  · rfl
  · exact Int.ediv_eq_zero_of_lt (by omega) (by omega)

theorem roundDiv_neg (n : Int) (d : Nat) : roundDiv (-n) d = -roundDiv n d := by
  rcases lt_trichotomy n 0 with h | rfl | h
  · unfold roundDiv
    rw [if_pos (by omega), if_neg (by omega)]
    simp
  · simp [roundDiv_zero]
  · unfold roundDiv
    rw [if_neg (by omega), if_pos (by omega)]
    simp

/-- A quotient rounded lies between the values that its numerator lies between. -/
theorem roundDiv_le_of_le_mul {n : Int} {d : Nat} {k : Int} (hd : 0 < d) (h : n ≤ k * d) : roundDiv n d ≤ k := by
  have hd' : (0 : Int) < 2 * d := by omega
  unfold roundDiv
  split
  · exact Int.lt_add_one_iff.1 (Int.ediv_lt_of_lt_mul hd' (by nlinarith))
  · have : -k ≤ (2 * -n + d) / (2 * d) := Int.le_ediv_of_mul_le hd' (by nlinarith)
    omega

theorem le_roundDiv_of_mul_le {n : Int} {d : Nat} {k : Int} (hd : 0 < d) (h : k * d ≤ n) : k ≤ roundDiv n d := by
  have := roundDiv_le_of_le_mul (n := -n) (k := -k) hd (by linarith [neg_mul k (d : Int)])
  rw [roundDiv_neg] at this
  omega

/-! ## Bytes -/

theorem byteAt_lt (bs : List Byte) (i : Nat) : byteAt bs i < 256 := by
  unfold byteAt; exact BitVec.isLt _

theorem u16At_lt (bs : List Byte) (i : Nat) : u16At bs i < 65536 := by
  have := byteAt_lt bs i
  have := byteAt_lt bs (i + 1)
  unfold u16At; omega

theorem u32At_lt (bs : List Byte) (i : Nat) : u32At bs i < 4294967296 := by
  have := u16At_lt bs i
  have := byteAt_lt bs (i + 2)
  have := byteAt_lt bs (i + 3)
  unfold u32At; omega

@[simp] theorem be8_length (n : Nat) : (be8 n).length = 1 := rfl

@[simp] theorem be16_length (n : Nat) : (be16 n).length = 2 := rfl

@[simp] theorem be32_length (n : Nat) : (be32 n).length = 4 := rfl

/-- A byte behind a stretch is read past it. -/
theorem byteAt_append_right {l : List Byte} {i : Nat} (h : l.length ≤ i) (m : List Byte) :
    byteAt (l ++ m) i = byteAt m (i - l.length) := by
  unfold byteAt; rw [List.getD_append_right l m 0 i h]

theorem byteAt_append_left {l : List Byte} {i : Nat} (h : i < l.length) (m : List Byte) :
    byteAt (l ++ m) i = byteAt l i := by
  unfold byteAt; rw [List.getD_append l m 0 i h]

/-- A number that fits two bytes reads back from them. -/
theorem u16At_be16 {n : Nat} (h : n < 65536) : u16At (be16 n) 0 = n := by
  simp [u16At, byteAt, be16]; omega

/-- Bytes written over a copy that they fit in keep its length. -/
theorem overwrite_length {bs data : List Byte} {off : Nat} (h : off + data.length ≤ bs.length) :
    (overwrite bs off data).length = bs.length := by
  unfold overwrite
  simp only [List.length_append, List.length_take, List.length_drop]
  omega

/-! ## The CRC -/

/-- A frame with its CRC appended passes the CRC check. -/
theorem crcGood_withCrc (bs : List Byte) : crcGood (withCrc bs) = true := by
  have hl : (withCrc bs).length = bs.length + 2 := by simp [withCrc]
  have ht : (withCrc bs).take (bs.length + 2 - 2) = bs := by simp [withCrc]
  have hu : u16At (withCrc bs) (bs.length + 2 - 2) = (crc16 bs).toNat := by
    have e (i : Nat) : byteAt (withCrc bs) (bs.length + i) = byteAt (be16 (crc16 bs).toNat) i := by
      unfold withCrc
      rw [byteAt_append_right (by omega)]
      congr 1; omega
    have := u16At_be16 (crc16 bs).isLt
    unfold u16At at this ⊢
    have e0 := e 0
    have e1 := e 1
    simp only [Nat.add_zero, Nat.zero_add, Nat.add_sub_cancel] at *
    rw [e0, e1]; exact this
  unfold crcGood
  rw [hl, ht, hu]
  simp

/-! ## The end of a grant -/

/-- Where an axis is granted the grant ends with its distance, mark and frozen base; otherwise nothing happens. -/
theorem endGrant_cases (s : State) :
    ((∀ a, s.pendant.grant ≠ .granted a) ∧ endGrant s = s) ∨
    (∃ a, s.pendant.grant = .granted a ∧ endGrant s = raise .pendantReleased
      { s with pendant := { s.pendant with grant := .free, distance := 0, commandMark := false },
               axes := s.axes.set a { s.axes.get a with frozen := none } }) := by
  unfold endGrant
  cases h : s.pendant.grant with
  | granted a => exact .inr ⟨a, rfl, rfl⟩
  | free => exact .inl ⟨(by simp), rfl⟩
  | waiting _ => exact .inl ⟨(by simp), rfl⟩

/-- No axis is granted once a grant has ended. -/
theorem endGrant_not_granted (s : State) (a : Axis) : (endGrant s).pendant.grant ≠ .granted a := by
  rcases endGrant_cases s with ⟨h, e⟩ | ⟨_, -, e⟩
  · rw [e]; exact h a
  · rw [e]; simp [raise]

/-! ## Growth triggers -/

/-- A growth trigger changes the growth tracker alone. -/
theorem growthTrigger_compOnly (hard : Bool) (s : State) : ∃ c, growthTrigger hard s = { s with comp := c } := by
  unfold growthTrigger
  split
  · exact ⟨_, rfl⟩
  · exact ⟨s.comp, rfl⟩

/-- An event trigger changes the growth tracker alone. -/
theorem enabledTrigger_compOnly (bit : Nat) (s : State) : ∃ c, enabledTrigger bit s = { s with comp := c } := by
  unfold enabledTrigger
  repeat' split
  · exact growthTrigger_compOnly true s
  · exact ⟨s.comp, rfl⟩
  · exact ⟨s.comp, rfl⟩

end Sys2Proof.Machine
end

