-- ==== Sys2Proof/WellFormed.lean ====
section
/-! DEFINITION. Which commands can come from a link: a service record's body fits a cycle frame. -/

namespace Sys2Proof

/-- R1, 11.2: a service body has 0 to 48 bytes. -/
def bodyFits (body : List Byte) : Bool := decide (body.length ≤ 48)

/-- The commands that the outside can send. Frame arrivals carry any bytes: an ill-formed frame is the part's to
drop (R1, R9). -/
def WellFormed : Instr → Bool
  | .hardwareReset _ _ _ | .cycleFrameArrival _ _ | .cycleTimerExpiry _ | .valveBankGrant
  | .unclampCeilingExpiry _ | .clampCeilingExpiry _ | .dropCeilingExpiry _ | .drainCeilingExpiry
  | .shiftCeilingExpiry | .wiggleTimerExpiry | .waitCeilingExpiry | .pauseEnd | .queuedProgramStart
  | .lubeIntervalExpiry | .returnFrameArrival _ | .activationCeilingExpiry | .estopOpening
  | .estopClosing | .handwheelEdge _ _ | .storeVerified | .storeMismatch | .storeCeilingExpiry => true
  | .readInfo body | .writeSegment body | .readSegment body | .commit body _ | .store body
  | .start body | .stop body | .recover body _ | .restart body | .readFlags body | .clearFlags body
  | .setMask body | .coolantTrigger body | .coolantStop body | .compTrigger body | .growthZero body
  | .clearFault body | .readState body | .unknownKind _ body => bodyFits body

end Sys2Proof
end

