-- ==== Sys2Proof/Laws/PerInstr.lean ====
section
/-! SUPPORT. A statement about every command as it is written: which of its data the outside may choose freely. -/

namespace Sys2Proof.Laws.CarriedBody

/-- The service body that a command carries, if it is a service record. -/
def bodyOf : Instr → Option (List Byte)
  | .hardwareReset _ _ _ => none
  | .cycleFrameArrival _ _ => none
  | .cycleTimerExpiry _ => none
  | .valveBankGrant => none
  | .unclampCeilingExpiry _ => none
  | .clampCeilingExpiry _ => none
  | .dropCeilingExpiry _ => none
  | .drainCeilingExpiry => none
  | .shiftCeilingExpiry => none
  | .wiggleTimerExpiry => none
  | .waitCeilingExpiry => none
  | .pauseEnd => none
  | .queuedProgramStart => none
  | .lubeIntervalExpiry => none
  | .returnFrameArrival _ => none
  | .activationCeilingExpiry => none
  | .estopOpening => none
  | .estopClosing => none
  | .handwheelEdge _ _ => none
  | .storeVerified => none
  | .storeMismatch => none
  | .storeCeilingExpiry => none
  | .readInfo body => some body
  | .writeSegment body => some body
  | .readSegment body => some body
  | .commit body _ => some body
  | .store body => some body
  | .start body => some body
  | .stop body => some body
  | .recover body _ => some body
  | .restart body => some body
  | .readFlags body => some body
  | .clearFlags body => some body
  | .setMask body => some body
  | .coolantTrigger body => some body
  | .coolantStop body => some body
  | .compTrigger body => some body
  | .growthZero body => some body
  | .clearFault body => some body
  | .readState body => some body
  | .unknownKind _ body => some body

/-- A command is well formed exactly where the service body that it carries, if any, has at most 48 bytes (11.2). -/
def Statement (i : Instr) : Prop := WellFormed i = true ↔ ∀ b, bodyOf i = some b → b.length ≤ 48

theorem hardwareReset (estopOpen phaseA phaseB : Bool) :
    Statement (.hardwareReset estopOpen phaseA phaseB) := by simp [Statement, WellFormed, bodyOf]

theorem cycleFrameArrival (bytes : List Byte) (claimOrder : List ClampAxis) :
    Statement (.cycleFrameArrival bytes claimOrder) := by simp [Statement, WellFormed, bodyOf]

theorem cycleTimerExpiry (inp : ExpiryInput) :
    Statement (.cycleTimerExpiry inp) := by simp [Statement, WellFormed, bodyOf]

theorem valveBankGrant : Statement .valveBankGrant := by simp [Statement, WellFormed, bodyOf]

theorem unclampCeilingExpiry (a : ClampAxis) :
    Statement (.unclampCeilingExpiry a) := by simp [Statement, WellFormed, bodyOf]

theorem clampCeilingExpiry (a : ClampAxis) :
    Statement (.clampCeilingExpiry a) := by simp [Statement, WellFormed, bodyOf]

theorem dropCeilingExpiry (a : ClampAxis) :
    Statement (.dropCeilingExpiry a) := by simp [Statement, WellFormed, bodyOf]

theorem drainCeilingExpiry : Statement .drainCeilingExpiry := by simp [Statement, WellFormed, bodyOf]

theorem shiftCeilingExpiry : Statement .shiftCeilingExpiry := by simp [Statement, WellFormed, bodyOf]

theorem wiggleTimerExpiry : Statement .wiggleTimerExpiry := by simp [Statement, WellFormed, bodyOf]

theorem waitCeilingExpiry : Statement .waitCeilingExpiry := by simp [Statement, WellFormed, bodyOf]

theorem pauseEnd : Statement .pauseEnd := by simp [Statement, WellFormed, bodyOf]

theorem queuedProgramStart : Statement .queuedProgramStart := by simp [Statement, WellFormed, bodyOf]

theorem lubeIntervalExpiry : Statement .lubeIntervalExpiry := by simp [Statement, WellFormed, bodyOf]

theorem returnFrameArrival (bytes : List Byte) :
    Statement (.returnFrameArrival bytes) := by simp [Statement, WellFormed, bodyOf]

theorem activationCeilingExpiry : Statement .activationCeilingExpiry := by simp [Statement, WellFormed, bodyOf]

theorem estopOpening : Statement .estopOpening := by simp [Statement, WellFormed, bodyOf]

theorem estopClosing : Statement .estopClosing := by simp [Statement, WellFormed, bodyOf]

theorem handwheelEdge (phaseA phaseB : Bool) :
    Statement (.handwheelEdge phaseA phaseB) := by simp [Statement, WellFormed, bodyOf]

theorem storeVerified : Statement .storeVerified := by simp [Statement, WellFormed, bodyOf]

theorem storeMismatch : Statement .storeMismatch := by simp [Statement, WellFormed, bodyOf]

theorem storeCeilingExpiry : Statement .storeCeilingExpiry := by simp [Statement, WellFormed, bodyOf]

theorem readInfo (body : List Byte) : Statement (.readInfo body) := by simp [Statement, WellFormed, bodyOf, bodyFits]

theorem writeSegment (body : List Byte) :
    Statement (.writeSegment body) := by simp [Statement, WellFormed, bodyOf, bodyFits]

theorem readSegment (body : List Byte) :
    Statement (.readSegment body) := by simp [Statement, WellFormed, bodyOf, bodyFits]

theorem commit (body : List Byte) (claimOrder : List ClampAxis) :
    Statement (.commit body claimOrder) := by simp [Statement, WellFormed, bodyOf, bodyFits]

theorem store (body : List Byte) : Statement (.store body) := by simp [Statement, WellFormed, bodyOf, bodyFits]

theorem start (body : List Byte) : Statement (.start body) := by simp [Statement, WellFormed, bodyOf, bodyFits]

theorem stop (body : List Byte) : Statement (.stop body) := by simp [Statement, WellFormed, bodyOf, bodyFits]

theorem recover (body : List Byte) (claimOrder : List ClampAxis) :
    Statement (.recover body claimOrder) := by simp [Statement, WellFormed, bodyOf, bodyFits]

theorem restart (body : List Byte) : Statement (.restart body) := by simp [Statement, WellFormed, bodyOf, bodyFits]

theorem readFlags (body : List Byte) :
    Statement (.readFlags body) := by simp [Statement, WellFormed, bodyOf, bodyFits]

theorem clearFlags (body : List Byte) :
    Statement (.clearFlags body) := by simp [Statement, WellFormed, bodyOf, bodyFits]

theorem setMask (body : List Byte) : Statement (.setMask body) := by simp [Statement, WellFormed, bodyOf, bodyFits]

theorem coolantTrigger (body : List Byte) :
    Statement (.coolantTrigger body) := by simp [Statement, WellFormed, bodyOf, bodyFits]

theorem coolantStop (body : List Byte) :
    Statement (.coolantStop body) := by simp [Statement, WellFormed, bodyOf, bodyFits]

theorem compTrigger (body : List Byte) :
    Statement (.compTrigger body) := by simp [Statement, WellFormed, bodyOf, bodyFits]

theorem growthZero (body : List Byte) :
    Statement (.growthZero body) := by simp [Statement, WellFormed, bodyOf, bodyFits]

theorem clearFault (body : List Byte) :
    Statement (.clearFault body) := by simp [Statement, WellFormed, bodyOf, bodyFits]

theorem readState (body : List Byte) :
    Statement (.readState body) := by simp [Statement, WellFormed, bodyOf, bodyFits]

theorem unknownKind (n : Fin 237) (body : List Byte) :
    Statement (.unknownKind n body) := by simp [Statement, WellFormed, bodyOf, bodyFits]

end Sys2Proof.Laws.CarriedBody
end

