-- ==== Sys2Proof/Laws/Schedule.lean ====
section
/-! SUPPORT. The order of an expiry's tasks: placing a task keeps what stands in the list and adds at most that task. And
what the events that fall with a CLEAR_FLAGS do to an expiry. -/

namespace Sys2Proof.Machine

theorem clampIndex_injective {a c : ClampAxis} (h : a.index = c.index) : a = c := by
  cases a <;> cases c <;> first | rfl | exact absurd h (by decide)

theorem listed_of_mem {t : Task} {done : List Task} (h : t ∈ done) : listed t done = true := by
  simp only [listed, List.any_eq_true]
  exact ⟨t, h, by simp⟩

theorem mem_placeTask_of_mem {t u : Task} {done : List Task} (h : u ∈ done) : u ∈ placeTask t done := by
  unfold placeTask
  split
  · exact h
  · exact List.mem_append_left _ h

/-- A visit keeps what has been placed. -/
theorem mem_visit_of_mem (r : Record) (n : Nat) (t u : Task) (done : List Task) (h : u ∈ done) :
    u ∈ visit r n t done := by
  induction n generalizing t done with
  | zero => exact mem_placeTask_of_mem h
  | succ n ih =>
    unfold visit
    split
    · exact h
    · refine mem_placeTask_of_mem ?_
      have : ∀ (l : List Task) (acc : List Task), u ∈ acc → u ∈ l.foldl (fun acc u => visit r n u acc) acc := by
        intro l
        induction l with
        | nil => intro acc h; exact h
        | cons x l ihl => intro acc h; exact ihl _ (ih x acc h)
      exact this _ _ h

/-- A task's number stands in the list once the task has been placed. -/
theorem listed_placeTask (t : Task) (done : List Task) : listed t (placeTask t done) = true := by
  unfold placeTask
  split
  · assumption
  · exact listed_of_mem (by simp)

theorem listed_visit (r : Record) (n : Nat) (t : Task) (done : List Task) : listed t (visit r n t done) = true := by
  cases n with
  | zero => exact listed_placeTask t done
  | succ n =>
    unfold visit
    split
    · assumption
    · exact listed_placeTask t _

/-! ## Events that fall with a CLEAR_FLAGS -/

/-- R175: a CLEAR_FLAGS answer filled in anew touches nothing but the answer. -/
theorem refreshedAnswer_eq (s : State) :
    ∃ a, refreshedAnswer s = { s with sent := { s.sent with answer := a } } := by
  unfold refreshedAnswer
  split
  · exact ⟨_, rfl⟩
  · exact ⟨s.sent.answer, rfl⟩

/-- All that the stage can do: nothing, or the events in their order with a new answer and echo frame. -/
theorem afterClearStage_cases (r : Record) (events : List Between) (s : State) :
    afterClearStage r events s = s ∨
    ∃ a e, afterClearStage r events s = { events.foldl betweenTurn s with
      sent := { (events.foldl betweenTurn s).sent with answer := a, echo := e } } := by
  unfold afterClearStage
  split
  · obtain ⟨a, h⟩ := refreshedAnswer_eq (events.foldl betweenTurn s)
    rw [h]
    exact .inr ⟨a, _, rfl⟩
  · exact .inl rfl
  · exact .inl rfl

end Sys2Proof.Machine
end

