-- ==== Sys2Proof/Tests/Slice0.lean ====
section
/-! SUPPORT. Tests: well-formedness, worked cases of the manual on single operations and steps, and for every
statement a concrete state and operands that meet its hypotheses (`witness_<statement>`). -/

namespace Sys2Proof.Tests

open Sys2Proof Sys2Proof.Machine

-- One theorem after the other: each evaluates in the kernel, and many at once would each hold a thread.
set_option Elab.async false

/-! ## Tables for the tests -/

/-- An axis record of an envelope table. -/
def envelopeRecord (lo hi : Int) (ceiling decel limit still mode : Nat) : List Byte :=
  beS32 lo ++ beS32 hi ++ be16 ceiling ++ be16 decel ++ be32 limit ++ be8 still ++ be8 mode

def linearRecord : List Byte := envelopeRecord (-10000) 1000000 200 50 100000 2 0

def envelopeBytes : List Byte :=
  be8 3 ++ linearRecord ++ linearRecord ++ linearRecord ++ linearRecord ++ envelopeRecord 0 0 200 50 100000 2 1

/-- W_zero 50,000, W_span 800,000, ref 2,000, gain 12, smoothing 6, soft 10, hard off, restart 2, max 200 (3.8). -/
def compensationBytes : List Byte :=
  [0, -5, -12, -19, -22, -25, -28, -31, -34, -37, -40, -43, -46, -49, -52, -55, -58].flatMap beS16 ++
    beS32 50000 ++ be32 800000 ++ be16 2000 ++ be8 12 ++ be8 6 ++ be8 10 ++ be8 255 ++ be8 2 ++ be16 200 ++ be8 0 ++
    be8 10

def gearRecord (min max ratio ceiling wiggle half pattern shift : Nat) : List Byte :=
  be16 min ++ be16 max ++ be16 ratio ++ be16 ceiling ++ be16 wiggle ++ be8 half ++ be8 pattern ++ be8 shift

/-- Ranges 1 and 3 as in 5.8.1 and 5.8.2. -/
def gearBytes : List Byte :=
  gearRecord 10 120 16000 2000 40 8 0x11 30 ++ gearRecord 20 200 8000 3000 50 5 0x21 30 ++
    gearRecord 40 400 4750 3000 60 10 0x12 30 ++ gearRecord 400 2000 1500 3000 50 5 0x22 30 ++
    be8 100 ++ be8 5 ++ be8 10 ++ be8 2 ++ be8 2 ++ be8 10

def clampRecord : List Byte := be8 1 ++ be8 10 ++ be8 10 ++ be8 2

/-- X, Y and Z present, B absent; pressure code 4, filter 2, drop ceiling 50. -/
def clampBytes : List Byte :=
  clampRecord ++ clampRecord ++ clampRecord ++ be32 0 ++ be8 4 ++ be8 2 ++ be8 50

/-- A program step: patterns, wait, ceiling, pause. -/
def programStep (patterns wait ceiling pause : Nat) : List Byte := be16 patterns ++ be8 wait ++ be8 ceiling ++ be16 pause

/-- Programs 0 to 4 of one step each (flood ON, then a pause of 3), 5 to 7 empty. -/
def programBytes : List Byte :=
  (List.replicate 5 (be8 1 ++ programStep 1 0 0 3 ++ List.replicate 30 0)).flatten ++ List.replicate 111 0

/-- Every source NONE but REQ0 (program 0); lube distance 1,000, interval 100, tank 45, hysteresis 3, build 20. -/
def triggerBytes : List Byte :=
  [255, 255, 255, 255, 0, 255, 255, 255, 255, 255, 255, 255, 255, 255, 255, 255].flatMap be8 ++ be32 1000 ++
    be16 100 ++ be8 45 ++ be8 3 ++ be8 20

/-- 4 edges per detent, NORMAL; increments 1, 10, 100; step 50, pending limit 1,000, offset limit 5,000. -/
def pendantBytes : List Byte :=
  be8 4 ++ be8 0 ++ be16 1 ++ be16 10 ++ be16 100 ++ be16 50 ++ be32 1000 ++ be32 5000 ++
    (List.range 16).flatMap (fun i => be8 (10 * i)) ++ (List.range 16).flatMap (fun i => be8 (40 + 5 * i))

def inputBytes : List Byte := be8 3 ++ be8 3 ++ be8 3 ++ be16 1000 ++ be16 1600 ++ be16 0 ++ be16 1000

def tableBytes : PerTable (List Byte) :=
  ⟨envelopeBytes, compensationBytes, gearBytes, clampBytes, programBytes, triggerBytes, pendantBytes, inputBytes⟩

def tables : PerTable (Option Image) := PerTable.of fun t => some (imageOf (tableBytes.get t))

theorem tables_get (t : TableId) : tables.get t = some (imageOf (tableBytes.get t)) := by cases t <;> rfl

/-- Each test table has its size and passes its owner's checks. -/
theorem test_tables_pass :
    ∀ t ∈ allTables, (tableBytes.get t).length = tableSizes.get t ∧ tableFailure t (tableBytes.get t) = none := by
  decide +kernel

/-! ## Well-formedness -/

/-- A body of 49 bytes fits no cycle frame: every service record refuses it. -/
def longBody : List Byte := List.replicate 49 0

theorem test_wellFormed_refuses_long_bodies :
    ∀ c ∈ [Instr.readInfo longBody, .writeSegment longBody, .readSegment longBody, .commit longBody [],
      .store longBody, .start longBody, .stop longBody, .recover longBody [], .restart longBody, .readFlags longBody,
      .clearFlags longBody, .setMask longBody, .coolantTrigger longBody, .coolantStop longBody, .compTrigger longBody,
      .growthZero longBody, .clearFault longBody, .readState longBody, .unknownKind 0 longBody],
      WellFormed c = false := by decide

theorem test_wellFormed_accepts_fitting_bodies :
    ∀ c ∈ [Instr.readInfo [], .writeSegment (List.replicate 48 0), .unknownKind 236 [1], .estopOpening,
      .cycleFrameArrival longBody []], WellFormed c = true := by decide

/-! ## Worked cases of the manual -/

/-- The CRC of the nine digits (R178; the published check value of this CRC). -/
theorem test_crc_digits : crc16 [0x31, 0x32, 0x33, 0x34, 0x35, 0x36, 0x37, 0x38, 0x39] = 0x29B1#16 := by
  decide +kernel

/-- 2.9.1. -/
theorem test_follow_plain :
    follow ⟨0, 2000000, 120, 0, 0, 0, false⟩ false (targetOf false 1250000 35 (-16)) 1249900 =
      ⟨1250019, 119, false, false, false⟩ := by decide

/-- 2.9.2, both expiries. -/
theorem test_follow_rate_and_envelope :
    follow ⟨0, 1000100, 200, 0, 0, 0, false⟩ false 1000500 1000000 = ⟨1000100, 100, true, true, false⟩ ∧
    follow ⟨0, 1000100, 200, 0, 0, 0, false⟩ false 1000500 1000100 = ⟨1000100, 0, true, true, false⟩ := by decide

/-- 2.9.3. -/
theorem test_follow_across_wrap :
    follow ⟨0, 0, 500, 0, 0, 0, true⟩ false 40 359950 = ⟨40, 90, false, false, false⟩ ∧
    followingDistance true 40 359990 = 50 := by decide

/-- 2.9.4 and 2.9.5. -/
theorem test_deceleration :
    decelerate ⟨0, 3000000, 200, 50, 0, 0, false⟩ false 750000 180 = ⟨750130, 130, false, false, false⟩ ∧
    decelerate ⟨0, 3000000, 200, 50, 0, 0, false⟩ false 750240 30 = ⟨750240, 0, false, false, false⟩ ∧
    decelerate ⟨0, 2000000, 200, 50, 0, 0, false⟩ false 1999950 120 = ⟨2000000, 50, true, false, false⟩ := by decide

/-- 2.9.6. -/
theorem test_extrapolation : extrapolate 500000 500150 = 500300 ∧ extrapolate 500150 500300 = 500450 := by decide

/-- 2.9.7, the first two expiries. -/
theorem test_follow_outside_envelope :
    follow ⟨0, 1500000, 300, 0, 0, 0, false⟩ false 1500500 1500040 = ⟨1500040, 0, true, true, false⟩ ∧
    follow ⟨0, 1500000, 300, 0, 0, 0, false⟩ false 1499000 1500040 = ⟨1499740, -300, false, true, false⟩ := by decide

/-- 2.9.8, e2 and e4. -/
theorem test_follow_on_clamp :
    follow ⟨0, 1000000, 80, 0, 0, 0, false⟩ true 600050 600000 = ⟨600000, 0, false, false, true⟩ ∧
    follow ⟨0, 1000000, 80, 0, 0, 0, false⟩ false 600100 600000 = ⟨600080, 80, false, true, false⟩ := by decide

/-- 3.8.1. -/
theorem test_droop :
    droopAt compensationBytes 180000 = -16 ∧ droopAt compensationBytes 75000 = -3 ∧
    droopAt compensationBytes 20000 = 0 ∧ droopAt compensationBytes 900000 = -58 := by decide +kernel

/-- 3.8.2: the measurement and the first two updates; 3.8.3: the rounding of a small disagreement. -/
theorem test_growth :
    measurementOf compensationBytes 32500 = 23 ∧ updatedGrowth compensationBytes false 10 23 = 15 ∧
    updatedGrowth compensationBytes false 15 24 = 18 ∧ updatedGrowth compensationBytes false 39 38 = 39 ∧
    thresholdDue compensationBytes 13 = some false ∧ thresholdDue compensationBytes 9 = none := by decide +kernel

/-- 5.8.1, all six lines. -/
theorem test_spindle_speeds :
    engagedOutput gearBytes .r3 350 90 = 1496 ∧ engagedOutput gearBytes .r3 (-355) 90 = -1520 ∧
    engagedOutput gearBytes .r3 20 100 = 190 ∧ engagedOutput gearBytes .r3 2500 120 = 1900 ∧
    engagedOutput gearBytes .r1 150 110 = 1920 ∧ engagedOutput gearBytes .r3 0 120 = 0 := by decide +kernel

/-- 8.6.2 (1,000 and 1,600 in 0.1 bar). -/
theorem test_scaling :
    scalePressure 1000 2539 = 620 ∧ scalePressure 1000 12 = 3 ∧ channelFault 12 = true ∧
    channelFault 16 = false ∧ channelFault 4079 = false ∧ channelFault 4080 = true := by decide

/-- 11.8: a Z record with present 1 and unclamp ceiling 0 fails at offset 9. -/
theorem test_clamp_table_failure :
    tableFailure .clamp (overwrite clampBytes 9 [0]) = some 9 := by decide +kernel

/-- 9.8, step 6: range 4 with the pattern of range 2 fails at range 4's pattern field. -/
theorem test_gear_table_failure : tableFailure .gear (overwrite gearBytes 50 [0x21]) = some 50 := by decide +kernel

/-! ## States for the witnesses -/

/-- STANDBY with the test tables active, the E-stop closed and every clamp's first values delivered. -/
def ready : State :=
  { State.reset with
    link := { linkReset with state := .standby }
    store := { State.reset.store with active := tables, state := .valid }
    inputs := { inputsReset false with clampsDelivered := true }
    flags := ⟨0, 0⟩ }

/-- `ready` in another link state, drive enable as the law says. -/
def readyIn (st : LinkState) : State :=
  { ready with link := { ready.link with state := st, enable := st.enabled, enableSent := st.enabled } }

/-- RUNNING with much going on: X is unclamping and holds the bank, Y waits for it, Z is unclamped and granted with its
offset at the limit, the growth stands at the max correction, a gear change drains, and a program runs with two queued. -/
def busy : State :=
  { readyIn .running with
    axes := ⟨axisReset, axisReset, ⟨7, 2, 5, 5, some 5, 5000, false, false, false⟩, axisReset, axisReset⟩
    comp := { compReset with applied := 200 }
    seen := { seenReset with grant := .granted .z, permitMark := true,
                             clampState := ⟨.clamped, .clamped, .unclamped, .dropped⟩ }
    clamps := ⟨⟨.unclamping, some 900, 1⟩, ⟨.unclampWait, none, 0⟩, ⟨.unclamped, none, 0⟩, ⟨.dropped, none, 0⟩⟩
    bank := ⟨[.clamp .y], some (.clamp .x), true, 0⟩
    gear := { gearReset with state := .draining, engaged := some .r1, target := some .r2, drainCeiling := some 400 }
    coolant := { coolantReset with
      requested := ⟨true, false, false, false, false, false⟩, running := some ⟨0, 1, .pause 2⟩, queue := [1, 3] }
    pendant := { pendantReset false false with selector := .axis .z, grant := .granted .z, enable := .held } }

theorem ready_settled : SettledLaw ready := ⟨rfl, by decide +kernel⟩

theorem readyIn_settled (st : LinkState) : SettledLaw (readyIn st) := ready_settled.of_same rfl rfl

/-- Every law holds of the busy state. -/
theorem busy_laws : Laws busy where
  enable := rfl
  coolant := ⟨by decide, by decide, fun r h => by cases h; decide +kernel, fun h => by cases h⟩
  rest := fun h => absurd h (by decide)
  still := fun h => absurd h (by decide)
  grant := fun _ _ => rfl
  spindle := fun h => absurd rfl h
  settled := ⟨rfl, by decide +kernel⟩
  bank := ⟨by decide, fun c => by cases c with
      | clamp a => cases a <;> decide
      | gearbox => decide, fun c => by cases c with
      | clamp a => cases a <;> decide
      | gearbox => decide⟩
  change := fun _ => ⟨rfl, by decide +kernel⟩
  tables := fun _ => by decide +kernel
  absent := fun a _ => by
    cases a
    · rename_i h; exact absurd h (by decide +kernel)
    · rename_i h; exact absurd h (by decide +kernel)
    · rename_i h; exact absurd h (by decide +kernel)
    · exact ⟨rfl, rfl⟩
  staging := fun t => by cases t <;> decide +kernel
  offsetLimit := fun a bs h => by cases h; cases a <;> decide +kernel
  growth := fun bs h => by cases h; decide +kernel
  forkCopy := rfl
  engaged := fun h => nomatch h
  enableSent := fun _ => rfl
  seenClamp := fun _ _ a h => by cases a <;> first | rfl | exact nomatch h
  selector := fun a h => ⟨nofun, fun e => h (by cases e; rfl), fun _ _ => ⟨nofun, fun e => h (by cases e; rfl)⟩⟩
  grantClamp := fun a h => by cases h; exact ⟨rfl, fun c hc _ => by cases hc; rfl⟩

/-- The four fork switches as range 3 has them: A RIGHT, B LEFT. -/
def forks3 : PerFork Bool := ⟨false, true, true, false⟩

/-- The same, debounced. -/
def debounced3 : PerFork (Debounced Bool) :=
  ⟨⟨some false, none, 0⟩, ⟨some true, none, 0⟩, ⟨some true, none, 0⟩, ⟨some false, none, 0⟩⟩

/-- ENGAGED in range 3, which the forks show, with a turning spindle. -/
def spinning : State :=
  { readyIn .running with
    gear := { gearReset with state := .engaged, engaged := some .r3, output := 1496, interlock := false,
                             forks := forks3, forksDelivered := true }
    inputs := { ready.inputs with forks := debounced3, forkComplete := true } }

/-- An order of commands in front of a state. -/
def queued (c : Instr) (s : State) : State := s.withPending [c]

/-- The field of a next state that a test looks at. -/
def after (c : Instr) (s : State) (f : State → α) : Option α :=
  match exec c s with
  | .next t => some (f t)
  | .fault _ | .refused _ => none

/-! ## The queue and the laws -/

theorem witness_StepRunsFrontCommand :
    (∃ (c : Instr) (rest : List Instr) (s : State), s.pending = c :: rest) ∧ (∃ s : State, s.pending = []) :=
  ⟨⟨.pauseEnd, [.estopOpening], ready.withPending [.pauseEnd, .estopOpening], rfl⟩, ready, rfl⟩

theorem witness_EnableLawKept : ∃ s t, EnableLaw s ∧ Machine.step s = .next t :=
  ⟨queued .estopOpening busy, _, busy_laws.enable, rfl⟩

theorem witness_CoolantQueueLawKept : ∃ s t, CoolantLaw s ∧ Machine.step s = .next t :=
  ⟨queued .pauseEnd busy, _, busy_laws.coolant, rfl⟩

theorem witness_OffsetLawKept : ∃ s t, StillLaw s ∧ OffsetLimitLaw s ∧ Machine.step s = .next t :=
  ⟨queued .estopOpening busy, _, busy_laws.still, busy_laws.offsetLimit, rfl⟩

theorem witness_GrantLawKept :
    ∃ s t, (EnableLaw s ∧ GrantLaw s ∧ EnableSentLaw s ∧ SeenClampLaw s ∧ SelectorLaw s ∧ GrantClampLaw s) ∧
      s.pendant.grant = .granted .z ∧ s.seen.grant = .granted .z ∧ s.link.enableSent = true ∧
      Machine.step s = .next t :=
  ⟨queued .estopOpening busy, _, ⟨busy_laws.enable, busy_laws.grant, busy_laws.enableSent, busy_laws.seenClamp,
    busy_laws.selector, busy_laws.grantClamp⟩, rfl, rfl, rfl, rfl⟩

theorem witness_SpindleLawKept :
    ∃ s t, SpindleLaw s ∧ s.gear.output ≠ 0 ∧ (ForkCopyLaw s ∧ EngagedLaw s) ∧ s.gear.state = .engaged ∧
      Machine.step s = .next t :=
  ⟨queued .estopOpening spinning, _, fun _ => ⟨rfl, .inl rfl⟩, by decide,
    ⟨fun i v h => by cases i <;> cases h <;> rfl, fun _ => ⟨.r3, rfl, by decide +kernel⟩⟩, rfl, rfl⟩

theorem witness_BankLawKept :
    ∃ s t, (BankLaw s ∧ ChangeLaw s ∧ RestLaw s ∧ TablesLaw s ∧ AbsentLaw s) ∧ Machine.step s = .next t :=
  ⟨queued (.unclampCeilingExpiry .x) busy, _,
    ⟨busy_laws.bank, busy_laws.change, busy_laws.rest, busy_laws.tables, busy_laws.absent⟩, rfl⟩

theorem witness_SettledLawKept : ∃ s t, SettledLaw s ∧ Machine.step s = .next t :=
  ⟨queued .drainCeilingExpiry busy, _, busy_laws.settled, rfl⟩

theorem witness_StagingLawKept : ∃ s t, StagingLaw s ∧ Machine.step s = .next t :=
  ⟨queued .storeVerified ready, _, fun t => by cases t <;> decide +kernel, rfl⟩

/-- A good store and a store that is not good. -/
theorem witness_HardwareResetLoadsStore :
    (∃ s : State, s.store.nv.complete = true ∧
      ∀ id img, s.store.nv.tables.get id = some img → crc16 img.bytes = img.signature) ∧
    (∃ s : State, ¬ (s.store.nv.complete = true ∧
      ∀ id img, s.store.nv.tables.get id = some img → crc16 img.bytes = img.signature)) :=
  ⟨⟨{ ready with store := { ready.store with nv := ⟨true, tables⟩ } }, rfl,
    fun id img h => by
      have e := (tables_get id).symm.trans h
      cases e; rfl⟩, ready, fun h => absurd h.1 (by decide)⟩

/-! ## Frames -/

/-- A cycle frame with the extreme values of its signed fields. -/
def frame0 : CycleFrame :=
  { seq := 5, axes := ⟨⟨2147483647, true, false, true⟩, ⟨-2147483648, false, true, false⟩, ⟨0, false, false, false⟩,
      ⟨-1, false, false, false⟩, ⟨1, false, false, false⟩⟩,
    spindle := -32768, range := 3, coolant := ⟨true, false, true, false, true⟩, kind := 0, body := [] }

/-- The same frame with a SET_MASK of every flag. -/
def maskFrame : CycleFrame := { frame0 with kind := 12, body := [255, 255, 255, 255, 7] }

/-- Six stations READY. -/
def allReady : Returns :=
  { axes := ⟨⟨.ready, 2147483647⟩, ⟨.ready, -2147483648⟩, ⟨.ready, 0⟩, ⟨.ready, -1⟩, ⟨.ready, 359999⟩⟩,
    spindle := ⟨.ready, -40000⟩ }

/-- The same with the X station in FAULT. -/
def faulted : Returns := { allReady with axes := { allReady.axes with x := ⟨.fault, 0⟩ } }

theorem witness_CycleFrameRoundTrip :
    (∀ a, -2147483648 ≤ (maskFrame.axes.get a).command ∧ (maskFrame.axes.get a).command ≤ 2147483647) ∧
    -32768 ≤ maskFrame.spindle ∧ maskFrame.spindle ≤ 32767 ∧ maskFrame.body.length ≤ 48 ∧
    (maskFrame.kind = 0 → maskFrame.body = []) :=
  ⟨fun a => by cases a <;> decide, by decide, by decide, by decide, fun h => absurd h (by decide)⟩

/-- An echo frame with the extreme values of its fields and a body of two bytes. -/
def echo0 : EchoFrame :=
  { seq := 255, fresh := true, attention := false, link := .halted, cause := .followingError
    axes := PerAxis.of fun a => if a = .x then ⟨2147483647, -2147483648, -1, 8, true, false, true, true⟩
      else ⟨-2147483648, 2147483647, 0, 7, false, true, false, false⟩
    spindleOut := -32768, spindleActual := -32768, spindleEffective := 32767, gear := .fault, engaged := some .r4
    target := none, driven := ⟨true, false, true, false, true, true⟩, program := none, depth := 4
    selector := .axis .b, enable := .clenched, feedOverride := 150, spindleOverride := 120, button5 := true
    button6 := false, button7 := true, button8 := true, applied := -2000, answer := ⟨18, .tableAbsent, [1, 255]⟩ }

/-- The same with the greatest actual motor speed that two bytes hold. -/
def echo1 : EchoFrame := { echo0 with spindleActual := 32767 }

/-- A drive frame with the extreme values. -/
def drive0 : DriveFrame :=
  { enable := true, setpoints := ⟨2147483647, -2147483648, 0, -1, 359999⟩, spindle := -2147483648 }

theorem witness_ReturnFrameRoundTrip :
    ((∀ a, -2147483648 ≤ (allReady.axes.get a).actual ∧ (allReady.axes.get a).actual ≤ 2147483647) ∧
      -2147483648 ≤ allReady.spindle.actual ∧ allReady.spindle.actual ≤ 2147483647) ∧
    ((∀ a, -2147483648 ≤ drive0.setpoints.get a ∧ drive0.setpoints.get a ≤ 2147483647) ∧
      -2147483648 ≤ drive0.spindle ∧ drive0.spindle ≤ 2147483647) ∧
    (∀ a, -2147483648 ≤ (echo0.axes.get a).setpoint ∧ (echo0.axes.get a).setpoint ≤ 2147483647 ∧
      -2147483648 ≤ (echo0.axes.get a).actual ∧ (echo0.axes.get a).actual ≤ 2147483647 ∧
      -2147483648 ≤ (echo0.axes.get a).offset ∧ (echo0.axes.get a).offset ≤ 2147483647) ∧
    (∀ x ∈ [echo0.spindleOut, echo0.spindleEffective, echo0.applied, echo0.spindleActual, echo1.spindleActual],
      -32768 ≤ x ∧ x ≤ 32767) ∧
    (∀ n ∈ [echo0.depth, echo0.feedOverride, echo0.spindleOverride, echo0.answer.body.length], n < 256) :=
  ⟨⟨fun a => by cases a <;> decide, by decide, by decide⟩, ⟨fun a => by cases a <;> decide, by decide, by decide⟩,
    fun a => by cases a <;> decide, by decide, by decide⟩

/-- 11.3, 11.4: some bytes at the offsets of the tables. -/
theorem test_frame_bytes :
    (driveWire drive0).take 13 = [1, 127, 255, 255, 255, 128, 0, 0, 0, 0, 0, 0, 0] ∧
    ((echoWire echo0).take 19 = [0xE1, 255, 1, 6, 4, 127, 255, 255, 255, 128, 0, 0, 0, 255, 255, 255, 255, 8, 13]) ∧
    (((echoWire echo0).drop 75).take 24 = [128, 0, 128, 0, 127, 255, 6, 4, 0, 0x35, 255, 4, 5, 2, 150, 120, 13,
      0xF8, 0x30, 18, 8, 2, 1, 255]) ∧ (echoWire echo0).length = 101 := by decide +kernel

theorem test_frames_read_back :
    cycleFrameOf (cycleWire maskFrame) = some maskFrame ∧ cycleFrameOf (cycleWire frame0) = some frame0 ∧
    returnsOf (returnWire allReady) = some allReady ∧ returnsOf (returnWire faulted) = some faulted := by
  decide +kernel

theorem witness_AcceptedFrameFillsSlot :
    SettledLaw busy ∧ cycleFrameOf [] = none ∧ cycleFrameOf (cycleWire frame0) = some frame0 ∧
    busy.link.state ≠ .offline :=
  ⟨busy_laws.settled, by decide, test_frames_read_back.2.1, by decide⟩

/-- OFFLINE with Z dropped, the E-stop closed or open. -/
def offlineWith (estop : Bool) : State :=
  { readyIn .offline with inputs := { ready.inputs with estopOpen := estop } }

theorem offlineWith_rest (estop : Bool) : RestLaw (offlineWith estop) := fun _ =>
  ⟨rfl, rfl, rfl, rfl, rfl, fun a => .inr (.inl (by cases a <;> rfl)), .inr (.inl rfl)⟩

theorem witness_AcceptanceEndsOffline :
    SettledLaw (offlineWith true) ∧ SettledLaw (offlineWith false) ∧ RestLaw (offlineWith true) ∧
    RestLaw (offlineWith false) ∧ cycleFrameOf (cycleWire frame0) = some frame0 ∧
    (offlineWith false).link.state = .offline ∧ (offlineWith true).inputs.estopOpen = true ∧
    (offlineWith false).inputs.estopOpen = false ∧ ((offlineWith false).clamps.get .z).state = .dropped ∧
    clampInForce (offlineWith false) .z = true ∧ (offlineWith false).inputs.clampsDelivered = true :=
  ⟨(readyIn_settled .offline).of_same rfl rfl, (readyIn_settled .offline).of_same rfl rfl, offlineWith_rest true,
    offlineWith_rest false, test_frames_read_back.2.1, rfl, rfl, rfl, rfl, by decide +kernel, rfl⟩

theorem witness_ReturnFrameReplacesOrHalts :
    SettledLaw busy ∧ returnsOf [] = none ∧ returnsOf (returnWire allReady) = some allReady ∧
    busy.link.state ≠ .activating ∧ busy.link.state.enabled = true ∧ anyStation (· = .fault) allReady = false ∧
    returnsOf (returnWire faulted) = some faulted ∧ anyStation (· = .fault) faulted = true :=
  ⟨busy_laws.settled, by decide, test_frames_read_back.2.2.1, by decide, rfl, by decide,
    test_frames_read_back.2.2.2, by decide⟩

theorem witness_AllReadyEntersRunning :
    SettledLaw (readyIn .activating) ∧ returnsOf (returnWire allReady) = some allReady ∧
    (readyIn .activating).link.state = .activating ∧ (readyIn .activating).link.enableSent = true ∧
    allStations (· = .ready) allReady = true :=
  ⟨readyIn_settled _, test_frames_read_back.2.2.1, rfl, rfl, by decide⟩

/-! ## Expiries -/

/-- A state with an UNUSED frame in the slot. -/
def holding (f : CycleFrame) (s : State) : State := { s with link := { s.link with slot := some ⟨f, false⟩ } }

theorem witness_ExpiryTakesUnusedFrame :
    (holding frame0 ready).link.state = .standby ∧ (holding frame0 ready).link.slot = some ⟨frame0, false⟩ ∧
    frame0.kind = 0 := ⟨rfl, rfl, rfl⟩

theorem witness_OfflineExpiryTracksSilently :
    (holding frame0 (offlineWith false)).link.state = .offline ∧ RestLaw (holding frame0 (offlineWith false)) :=
  ⟨rfl, offlineWith_rest false⟩

/-- `readyIn st` with two misses counted. -/
def missing (st : LinkState) : State :=
  { readyIn st with link := { (readyIn st).link with missCount := 2, returnFresh := true } }

/-- Standing axes, but a clamp that has not ended. -/
def missingIn (st : LinkState) : State :=
  { missing st with seen := { seenReset with clampState := ⟨.unclamped, .clamped, .clamped, .clamped⟩ } }

theorem witness_MissLimitEndsLink :
    (∀ st ∈ [LinkState.standby, .activating, .halted], takenFrame (missing st).link = none ∧
      (missing st).link.missCount + 1 = missLimit (missing st) ∧ (missing st).link.state = st) ∧
    (∀ st ∈ [LinkState.running, .stopping], takenFrame (missingIn st).link = none ∧
      (missingIn st).link.missCount + 1 = missLimit (missingIn st) ∧ (missingIn st).link.state = st ∧
      (missingIn st).link.returnFresh = true ∧ followingExcess (missingIn st) = false ∧
      stopEnded (missingIn st) = false) := by decide +kernel

/-- One miss less, and Z granted. -/
def missOnce : State :=
  { missingIn .running with
    link := { (missing .running).link with missCount := 1 }
    axes := PerAxis.of fun a => if a = .z then { axisReset with frozen := some 0, offset := 5 } else axisReset
    seen := { seenReset with grant := .granted .z, frozen := ⟨none, none, some 0, none, none⟩ }
    pendant := { pendantReset false false with grant := .granted .z } }

/-- A frame with ABSORB on Z, which is granted in `missOnce`, and on X, which is not. -/
def absorbing : CycleFrame :=
  { frame0 with axes := { frame0.axes with x := ⟨1, false, false, true⟩, z := ⟨1, false, true, true⟩ } }

theorem witness_MissExtrapolatesCommands :
    (missOnce.link.state = .running ∧ takenFrame missOnce.link = none ∧
      missOnce.link.missCount + 1 < missLimit missOnce ∧ missLimit missOnce ≤ 255 ∧ missOnce.link.returnFresh = true ∧
      followingExcess missOnce = false) ∧
    ((holding absorbing missOnce).link.slot = some ⟨absorbing, false⟩ ∧ absorbing.kind = 0 ∧
      followingExcess (holding absorbing missOnce) = false ∧
      ((absorbing.axes.get .z).absorb = true ∧ (holding absorbing missOnce).seen.grant = .granted .z) ∧
      ((absorbing.axes.get .x).absorb = true ∧ (holding absorbing missOnce).pendant.grant ≠ .granted .x)) ∧
    (axisParams missOnce .x).isSome = true := by decide +kernel

/-- Two expiries without a return frame in ACTIVATING. -/
def silent : State :=
  holding frame0 { readyIn .activating with link := { (readyIn .activating).link with chainMiss := 2 } }

/-- A following error one beyond X's limit of 100,000. -/
def lagging : State :=
  holding frame0 { missing .running with seen := { seenReset with out := ⟨100001, 0, 0, 0, 0⟩ } }

/-- STOPPING or LINK_LOST with everything at rest. -/
def rested (st : LinkState) : State :=
  { missing st with seen := { seenReset with clampState := PerClamp.of fun _ => .clamped } }

theorem witness_ChainLossHalts :
    (silent.link.enable = true ∧ silent.link.state.enabled = true ∧ silent.link.slot = some ⟨frame0, false⟩ ∧
      frame0.kind = 0 ∧ silent.link.returnFresh = false ∧ silent.link.chainMiss = 2) ∧
    (lagging.link.enable = true ∧ lagging.link.state = .running ∧ lagging.link.slot = some ⟨frame0, false⟩ ∧
      lagging.link.returnFresh = true ∧
      ∃ p, axisParams lagging .x = some p ∧
        p.limit < followingDistance p.rotary (lagging.seen.out.get .x) (actualRaw lagging .x)) ∧
    (∀ st ∈ [LinkState.stopping, .linkLost], (rested st).link.enable = true ∧
      (∀ a ∈ allAxes, (rested st).seen.step.get a = 0) ∧ spindleStopped (rested st) = true ∧
      (∀ a ∈ allClamps, (rested st).seen.clampState.get a = .clamped) ∧ (rested st).link.returnFresh = true ∧
      (holding frame0 (rested st)).link.slot = some ⟨frame0, false⟩ ∧ takenFrame (rested st).link = none) :=
  ⟨by decide +kernel, ⟨rfl, rfl, rfl, rfl, ⟨-10000, 1000000, 200, 50, 100000, 2, false⟩, by decide +kernel⟩,
    by decide +kernel⟩

/-- A held axis, a LINEAR record with the step at its ceiling, and the ROTARY one at its last position; the expiry goes
on in a moving state. -/
theorem witness_AxisStaysWithinItsLimits :
    ((readyIn .stopping).link.state.moving = true ∧
      after (.cycleTimerExpiry {}) (readyIn .stopping) (fun t => t.link.state.moving) = some true) ∧
    (clampAbsent (readyIn .stopping) .x = false ∧ (readyIn .stopping).seen.clampState.get .x ≠ .unclamped) ∧
    (∃ p, axisParams (readyIn .stopping) .w = some p ∧ p.rotary = false ∧ p.lo ≤ p.hi ∧ (200 : Int).natAbs ≤ p.ceiling) ∧
    ∃ p, axisParams (readyIn .stopping) .b = some p ∧ p.rotary = true ∧ p.ceiling < 180000 ∧
      (-200 : Int).natAbs ≤ p.ceiling ∧ (359999 : Int) < 360000 :=
  ⟨by decide +kernel, by decide +kernel, ⟨⟨-10000, 1000000, 200, 50, 100000, 2, false⟩, by decide +kernel⟩,
    ⟨0, 0, 200, 50, 100000, 2, true⟩, by decide +kernel⟩

theorem witness_ServiceRidesInEcho :
    (∀ st ∈ [LinkState.standby, .activating, .running, .stopping, .linkLost, .halted],
      (holding maskFrame (readyIn st)).link.state ≠ .offline ∧
      (holding maskFrame (readyIn st)).link.slot = some ⟨maskFrame, false⟩) ∧
    maskFrame.kind = 12 ∧ maskFrame.body.length = 5 ∧ byteAt maskFrame.body 4 < 8 := by decide +kernel

/-! ## What the blocks compute -/

theorem witness_FollowKeepsRateAndEnvelope :
    ∃ (a : AxisParams) (t p v : Int), a.rotary = false ∧ a.lo ≤ a.hi ∧ (t - p).natAbs ≤ a.ceiling ∧ a.lo ≤ t ∧
      t ≤ a.hi ∧ a.lo ≤ p ∧ p ≤ a.hi ∧ v.natAbs ≤ a.decel :=
  ⟨⟨0, 1000, 200, 50, 0, 1, false⟩, 1000, 800, -50, by decide⟩

/-- The clauses for an output outside the envelope, and for a target and a step one beyond the ceiling and the decel. -/
theorem witness_FollowKeepsRateAndEnvelope_outside :
    ∃ (a : AxisParams) (p q t v : Int), a.rotary = false ∧ a.lo ≤ a.hi ∧ p < a.lo ∧ a.hi < q ∧
      a.hi + a.ceiling < t ∧ t < a.hi + a.ceiling + 2 ∧ a.decel < v ∧ -v < -(a.decel : Int) :=
  ⟨⟨0, 1000, 200, 50, 0, 1, false⟩, -1, 1001, 1201, 51, by decide⟩

/-- A target within the ceiling across the wrap, and one half a turn away, either way round. -/
theorem witness_RotaryFollowsShorterWay :
    ∃ (a : AxisParams) (t p : Int), a.rotary = true ∧ a.ceiling < 180000 ∧ 0 ≤ t ∧ t < 360000 ∧ 0 ≤ p ∧ p < 360000 ∧
      (wrapDiff true (t - p)).natAbs ≤ a.ceiling ∧ (179999 : Int) - 359999 = -180000 ∧ (359999 : Int) - 179999 = 180000 :=
  ⟨⟨0, 0, 500, 50, 0, 1, true⟩, 40, 359950, by decide⟩

theorem witness_DroopLiesBetweenPoints :
    0 < compSpan compensationBytes ∧ (50000 : Int) ≤ compZero compensationBytes ∧
    compZero compensationBytes + compSpan compensationBytes ≤ 850000 ∧
    ((15 * compSpan compensationBytes : Nat) : Int) ≤ 16 * (849999 - compZero compensationBytes) ∧
    16 * (849999 - compZero compensationBytes) < (((15 + 1) * compSpan compensationBytes : Nat) : Int) := by
  decide +kernel

/-- The clauses on an expiry's droop value, with the table and without it. -/
theorem witness_DroopLiesBetweenPoints_expiry :
    activeBytes ready .compensation = some compensationBytes ∧ State.reset.store.active.compensation = none := ⟨rfl, rfl⟩

/-- A window with the given count of clean samples, or with a faulted one, and a reading of the growth sensor. -/
def windowing (count : Nat) (bad : Bool) (reading : BitVec 12) : State :=
  { ready with comp := { compReset with windowSum := 30467, windowCount := count, windowFaulted := bad, applied := 10 }
               inputs := { ready.inputs with readings := { ready.inputs.readings with an3 := some reading } } }

theorem windowing_table (count : Nat) (bad : Bool) (reading : BitVec 12) :
    activeBytes (windowing count bad reading) .compensation = some compensationBytes := rfl

/-- The update of window 1 of 3.8.2, HARD ones at the limit and one beyond it, and the growth at the limit in a step; the
fifteenth and the sixteenth sample, clean and faulted, and a disagreement at the soft threshold and one beyond it. -/
theorem witness_GrowthUpdateIsClamped :
    ({ ready with comp := { compReset with updates := .count 3, applied := 10 } } : State).comp.updates.pending = true ∧
    ((10 : Int) + roundDiv ((23 - 10) * compSmoothing compensationBytes) 16).natAbs ≤ compMax compensationBytes ∧
    (200 : Int).natAbs ≤ compMax compensationBytes ∧ compMax compensationBytes < (-201 : Int).natAbs ∧
    ready.comp.updates.pending = false ∧ (readyIn .halted).link.state = .halted ∧
    ((windowing 14 false 2033).comp.windowCount + 1 < 16 ∧ 16 ≤ (windowing 15 false 2033).comp.windowCount + 1 ∧
      (windowing 15 true 2033).comp.windowFaulted = true ∧ (2033, false) = readingOf (some (2033 : BitVec 12)) ∧
      (15, true) = readingOf (some (15 : BitVec 12)) ∧ (16, false) = readingOf (some (16 : BitVec 12))) ∧
    (roundDiv (((30467 + 2033 : Nat) : Int) - 16 * compRef compensationBytes) 1 = 500 ∧
      compSoft compensationBytes = 10 ∧ compSoft compensationBytes < ((23 : Int) - 10).natAbs ∧
      ¬ compSoft compensationBytes < ((20 : Int) - 10).natAbs ∧ compHard compensationBytes = 255) ∧
    GrowthLaw busy :=
  ⟨by decide +kernel, by decide +kernel, by decide +kernel, by decide +kernel, rfl, rfl, by decide +kernel,
    by decide +kernel, busy_laws.growth⟩

/-- R46, R47: the sixteenth sample ends the window of 3.8.2, and a faulted one gives SENSOR_FAULT and no measurement. -/
theorem test_sixteenth_sample :
    (windowWork (windowing 15 false 2033)).comp.applied = 15 ∧
    (windowWork (windowing 15 false 2033)).comp.windowCount = 0 ∧
    (windowWork (windowing 14 false 2033)).comp.windowSum = 32500 ∧
    (windowWork (windowing 15 false 15)).comp.lastMeasurement = none ∧
    isRaised .sensorFault (windowWork (windowing 15 false 15)) = true := by decide +kernel

theorem witness_DebounceNeedsWholeRun :
    ∃ (n k : Nat) (v : Bool) (d : Debounced Bool), d.value ≠ some v ∧ d.candidate ≠ some v ∧ k ≤ n :=
  ⟨3, 3, true, ⟨some false, none, 0⟩, by decide⟩

/-- The pendant group just complete, or not: the selector shows Y, and buttons 1 and 5 are held. -/
def panelReady (complete first : Bool) : State :=
  { ready with
    inputs := { ready.inputs with
      selector := ⟨some (.axis .y), none, 0⟩, increment := ⟨some .x10, none, 0⟩, enable := ⟨some .released, none, 0⟩
      buttons := ⟨⟨some true, none, 0⟩, ⟨some false, none, 0⟩, ⟨some false, none, 0⟩, ⟨some false, none, 0⟩,
                  ⟨some true, none, 0⟩, ⟨some false, none, 0⟩, ⟨some false, none, 0⟩, ⟨some false, none, 0⟩⟩
      pendantComplete := complete }
    pendant := { ready.pendant with delivered := !first } }

/-- The pendant's clauses: not complete, the first delivery, and a hand-over after it. -/
theorem witness_DebounceNeedsWholeRun_panel :
    ((panelReady false true).inputs.pendantComplete = false ∧ (panelReady true true).inputs.pendantComplete = true ∧
      (panelReady true true).pendant.delivered = false ∧ (panelReady true false).pendant.delivered = true) ∧
    ((panelReady true true).inputs.selector.value = some (.axis .y) ∧ (panelReady true true).pendant.selector = .off ∧
      (panelReady true true).inputs.increment.value = some .x10 ∧
      (panelReady true true).inputs.enable.value = some .released) ∧
    (∀ q, Axis.clamp .y = some q → ((panelReady true true).clamps.get q).state ≠ .fault) := by
  refine ⟨by decide, by decide, fun q _ => ?_⟩
  cases q <;> decide

/-- R132, R144: the held button 1 announces PB0 at the first delivery, button 5 nothing; Y is waited for. -/
theorem test_first_delivery :
    ((pendantFirstWork (panelReady true true)).coolant.announced,
      (pendantFirstWork (panelReady true true)).pendant.grant,
      (pendantFirstWork (panelReady true true)).pendant.buttons.b5) = ([.pb0], .waiting .y, true) := by decide +kernel

/-- A band's first and last reading, the faulted readings beside them, and the third sample in a row. -/
theorem witness_AnalogChannelsScaled :
    ((16 : BitVec 12).toNat * 16 / 4096 = 0 ∧ (255 : BitVec 12).toNat * 16 / 4096 = 0 ∧
      (256 : BitVec 12).toNat * 16 / 4096 = 1 ∧ (4079 : BitVec 12).toNat * 16 / 4096 = 15) ∧
    (knobSample (some 256) ⟨some 0, some 1, 2⟩).2 = some 1 ∧ (knobSample (some 256) ⟨some 0, some 1, 1⟩).2 = none ∧
    (knobSample (some 255) ⟨some 0, some 1, 2⟩).1 = ⟨some 0, none, 0⟩ ∧
    (knobSample (some 4080) ⟨some 15, some 14, 2⟩).1 = ⟨some 15, none, 0⟩ ∧
    (knobSample (some 15) ⟨none, some 0, 2⟩).1 = ⟨none, none, 0⟩ := by decide

/-- R142, R143 (7.5): a reading of 2,900 lies in band 11, whose third sample sets the spindle override to its entry. -/
theorem test_knob_accepts :
    (knobsWork { ready with
      pendant := { pendantReset false false with spindleKnob := ⟨none, some 11, 2⟩ }
      inputs := { ready.inputs with readings := { ready.inputs.readings with an5 := some 2900 } } }
      ).pendant.spindleOverride = 95 := by decide +kernel

/-- A granted axis with a pending distance beyond one step. -/
def transferring : State := { busy with pendant := { busy.pendant with distance := 900 } }

/-- A wait on Z that has lasted one expiry, with a still count as given. -/
def waitingOn (still : Nat) : State :=
  { busy with seen := { busy.seen with grant := .waiting .z }
              pendant := { busy.pendant with grant := .waiting .z, stillCount := still } }

/-- The enable switch debounced to a position, and a command on Z off the frozen base or on it, with the mark as given. -/
def straying (e : Enable) (command : Int) (marked : Bool) : State :=
  { transferring with
    inputs := { transferring.inputs with enable := ⟨some e, none, 0⟩ }
    axes := transferring.axes.set .z { transferring.axes.z with newer := command }
    seen := { transferring.seen with frozen := ⟨none, none, some 5, none, none⟩ }
    pendant := { transferring.pendant with commandMark := marked } }

/-- The same frame with the permit on Z. -/
def permitting : CycleFrame := { frame0 with axes := { frame0.axes with z := ⟨0, false, true, false⟩ } }

theorem witness_TransferKeepsLimits :
    (transferring.pendant.grant = .granted .z ∧ activeBytes transferring .pendant = some pendantBytes ∧
      (axisParams transferring .z).isSome = true ∧
      (transferring.axes.get .z).offset.natAbs ≤ offsetLimit pendantBytes) ∧
    ((waitingOn 1).pendant.grant = .waiting .z ∧ (waitingOn 1).seen.grant = .waiting .z ∧
      (waitingOn 1).seen.permitMark = true ∧ (permitting.axes.get .z).permit = true ∧
      (waitingOn 1).seen.clampState.get .z = .unclamped ∧ stillFrames (waitingOn 1) .z ≤ 1 + 1 ∧
      ¬ stillFrames (waitingOn 0) .z ≤ 0 + 1 ∧
      ((waitingOn 1).axes.get .z).newer = ((waitingOn 1).axes.get .z).older) ∧
    (busy.pendant.grant = .granted .z ∧ (frame0.axes.get .z).permit = false) ∧
    ((waitWork (some permitting) (some permitting) (waitingOn 1)).pendant.grant = .granted .z ∧
      (waitWork (some permitting) (some permitting) (waitingOn 0)).pendant.grant = .waiting .z ∧
      (waitWork none (some frame0) (waitingOn 2)).pendant.grant = .waiting .z) ∧
    ((selectorChange (.axis .x) { busy with clamps := busy.clamps.set .x ⟨.fault, none, 0⟩ }).pendant.grant = .free ∧
      (selectorChange (.axis .x) busy).pendant.grant = .waiting .x) ∧
    ((straying .clenched 5 false).inputs.enable.value = some .clenched ∧ (straying .held 5 false).pendant.enable = .held ∧
      (handEnable (straying .clenched 5 false)).pendant.distance = 0 ∧
      (handEnable (straying .held 5 false)).pendant.distance = 900) ∧
    ((straying .held 6 false).seen.grant = .granted .z ∧ (straying .held 6 false).link.state = .running ∧
      isRotary (straying .held 6 false) .z = false ∧
      isRaised .commandWhileGranted (strayWork (straying .held 6 false)) = true ∧
      isRaised .commandWhileGranted (strayWork (straying .held 5 false)) = false ∧
      isRaised .commandWhileGranted (strayWork (straying .held 6 true)) = false) := by decide +kernel

theorem witness_SpindleSpeedWithinRange :
    gearMin gearBytes .r3 ≤ gearMax gearBytes .r3 ∧
    (spinning.link.state = .running ∧ spinning.gear.state = .engaged ∧ spinning.gear.interlock = false ∧
      spinning.gear.engaged = some .r3 ∧ activeBytes spinning .gear = some gearBytes) ∧
    (outputAt (some { frame0 with spindle := 350 }) { spinning with seen := { seenReset with spindleOverride := 90 } } =
      1496 ∧ outputAt (some { frame0 with spindle := 350 })
        { spinning with gear := { spinning.gear with interlock := true } } = 0) ∧
    (spinning.gear.runValue = 0 ∧ spinning.gear.output ≠ 0 ∧
      activeBytes spinning .compensation = some compensationBytes) ∧
    ¬ (busy.gear.state = .engaged ∨ busy.gear.state = .stoppingSpindle) := by decide +kernel

/-- R85: a command of magnitude beyond 2,000 is cut, one below the range's min raised, one of 0 kept. -/
theorem test_effective_speed :
    effectiveSpeed 2001 100 400 2000 = 2000 ∧ effectiveSpeed (-2001) 100 400 2000 = -2000 ∧
    effectiveSpeed 10 100 40 400 = 40 ∧ effectiveSpeed (-10) 100 40 400 = -40 ∧
    effectiveSpeed 0 120 40 400 = 0 := by decide +kernel

theorem witness_DrivenValuesFollow :
    (readyIn .offline).link.state = .offline ∧ (readyIn .halted).link.state = .halted ∧
    busy.link.state ≠ .offline ∧ busy.link.state ≠ .halted := by decide

/-- X in transit and the pressure about to be judged LOW. -/
def failing : State :=
  { busy with bank := { busy.bank with disagree := 1 }
              inputs := { busy.inputs with hydraulic := some 399, clampsDelivered := true } }

/-- The same with the gearbox as holder, or with none, and an OK sample at the threshold for a bank in LOW. -/
def failingWith (h : Option Claimant) (low : Bool) : State :=
  { failing with
    bank := ⟨[.clamp .y], h, low, 1⟩
    inputs := { failing.inputs with readings := { failing.inputs.readings with an0 := some 2000 }
                                    hydraulic := some (if low then 399 else 400) } }

theorem witness_PressureLossAbortsTransit :
    (activeBytes failing .clamp = some clampBytes ∧ failing.bank.pressureOk = true ∧
      failing.bank.holder = some (.clamp .x) ∧ failing.inputs.hydraulic.getD 0 < pressureThreshold clampBytes ∧
      pressureFilter clampBytes ≤ failing.bank.disagree + 1 ∧ 0 + 1 < pressureFilter clampBytes) ∧
    ((failingWith (some .gearbox) true).bank.holder = some .gearbox ∧ (failingWith none true).bank.holder = none ∧
      (readingOf (failingWith none false).inputs.readings.an0).2 = false ∧
      ¬ (failingWith none false).inputs.hydraulic.getD 0 < pressureThreshold clampBytes ∧
      (failingWith none false).bank.queue = .clamp .y :: [] ∧ (failingWith none false).link.state ≠ .offline) ∧
    ((pressureWork (failingWith none false)).bank.holder = some (.clamp .y) ∧
      (pressureWork (failingWith (some .gearbox) true)).gear.state = .fault) := by decide +kernel

/-- SHIFTING into range 3, whose pattern the forks show, one confirming sample short, the pump requested and withheld. -/
def shifting : State :=
  { readyIn .running with
    gear := { gearReset with state := .shifting, engaged := some .r1, target := some .r3, settle := 1,
                             forks := forks3, shiftCeiling := some 100, wiggle := some 20 }
    bank := ⟨[], some .gearbox, true, 0⟩
    coolant := { coolantReset with requested := { outputsOff with tscPump := true }
                                   tank := .inactive, withheld := true } }

/-- `shifting` with the GEAR_END enable of the growth on, from the given engaged range. -/
def shiftingFrom (engaged : Option Range) : State :=
  { shifting with
    gear := { shifting.gear with engaged := engaged }
    store := { shifting.store with active := { shifting.store.active with
      compensation := some (imageOf (overwrite compensationBytes 51 [2])) } } }

/-- R51, R101: a completion into another range takes a HARD trigger, one into the same range none. -/
theorem test_gear_end_trigger :
    ((gearStageWork (shiftingFrom (some .r1))).comp.updates, (gearStageWork (shiftingFrom (some .r1))).comp.hardFirst,
      (gearStageWork (shiftingFrom none)).comp.hardFirst, (gearStageWork (shiftingFrom (some .r3))).comp) =
      (.count 3, true, true, shifting.comp) := by decide +kernel

/-- The same with range 2 in the next-request slot, GEAR_END naming program 1, and a program running or none. Program 1
turns the TSC pump OFF and takes no time. -/
def shiftingOn (r : Option Run) : State :=
  { shifting with
    gear := { shifting.gear with next := some .r2 }
    coolant := { shifting.coolant with running := r }
    store := { shifting.store with active := { shifting.store.active with
      programs := some (imageOf (overwrite programBytes 38 (programStep 8 0 0 0)))
      triggers := some (imageOf (overwrite triggerBytes 3 [1])) } } }

/-- The spindle slows from the given output; the actual speed is as given. -/
def slowing (output actual : Int) : State :=
  { readyIn .running with
    gear := { gearReset with state := .stoppingSpindle, engaged := some .r3, target := some .r1, output := output }
    link := { (readyIn .running).link with returns := some { allReady with spindle := ⟨.ready, actual⟩ } } }

/-- DRAINING while a clamp holds the bank, with a TSC sample. -/
def drainingAt (tsc : Nat) : State :=
  { readyIn .running with
    gear := { gearReset with state := .draining, engaged := some .r1, target := some .r3, drainCeiling := some 0 }
    clamps := ⟨⟨.unclamping, some 500, 0⟩, clampReset, clampReset, clampReset⟩
    bank := ⟨[], some (.clamp .x), true, 0⟩
    inputs := { ready.inputs with tsc := some tsc
                                  readings := { ready.inputs.readings with an1 := some 50 } } }

/-- UNKNOWN with the forks in range 3. -/
def unknown3 : State := { readyIn .running with gear := { gearReset with forks := forks3 } }

/-- Decel 100, zero band 5, drain threshold 20, confirm settle 2: each clause at its boundary. -/
theorem witness_ShiftCompletes :
    (∀ t ∈ [slowing 100 5, slowing 100 6, slowing 101 5], activeBytes t .gear = some gearBytes ∧
      t.link.state = .running ∧ t.gear.state = .stoppingSpindle) ∧
    ((100 : Int).natAbs ≤ spindleDecel gearBytes ∧ spindleDecel gearBytes < (101 : Int).natAbs ∧
      (actualSpeed (slowing 100 5)).natAbs ≤ zeroBand gearBytes ∧
      zeroBand gearBytes < (actualSpeed (slowing 100 6)).natAbs) ∧
    ((drainingAt 19).gear.state = .draining ∧ (readingOf (drainingAt 19).inputs.readings.an1).2 = false ∧
      (drainingAt 19).inputs.tsc.getD 0 < drainThreshold gearBytes ∧
      drainThreshold gearBytes ≤ (drainingAt 20).inputs.tsc.getD 0 ∧ .gearbox ∉ (drainingAt 19).bank.queue) ∧
    (shifting.gear.state = .shifting ∧ shifting.gear.target = some .r3 ∧ shifting.gear.next = none ∧
      shownRange shifting = some .r3 ∧ gearSettle gearBytes ≤ shifting.gear.settle + 1 ∧
      0 + 1 < gearSettle gearBytes ∧ shifting.bank.holder = some .gearbox ∧ shifting.bank.queue = [] ∧
      (shifting.coolant.announced = [] ∧ shifting.coolant.withheld = demandNow shifting) ∧
      ∀ tb ∈ activeBytes shifting .triggers, triggerEntry tb .gearEnd = none) ∧
    (shownRange (shiftingOn (some ⟨0, 1, .pause 1⟩)) = some .r3 ∧
      programSteps (shiftingOn (some ⟨0, 1, .pause 1⟩)) 1 ≠ 0 ∧
      (1 : Fin 8) ∉ (shiftingOn (some ⟨0, 1, .pause 1⟩)).coolant.queue) ∧
    (unknown3.gear.state = .unknown ∧ unknown3.gear.forkLoss = false ∧ shownRange unknown3 = some .r3) ∧
    (spinning.gear.engaged = some .r3 ∧ shownRange spinning = some .r3 ∧
      showsPattern gearBytes ⟨false, false, true, false⟩ .r3 = false) := by decide +kernel

/-- R101, R111: a range in the next-request slot begins a change at the completion, and a pump that is still requested
is withheld anew. -/
theorem test_slot_withholds_anew :
    (fun s => (s.gear.state, s.gear.target, s.coolant.withheld, s.coolant.announced))
      (settleDemand (gearStageWork { shifting with gear := { shifting.gear with next := some .r2 } })) =
      (.stoppingSpindle, some .r2, true, [.gearBegin, .tscWithheld]) := by decide +kernel

/-- R118: GEAR_END is taken as it is announced, so the pump that its program turns OFF is not withheld anew. -/
theorem test_gear_end_before_slot :
    (fun s => (s.gear.state, s.coolant.requested.tscPump, s.coolant.withheld, s.coolant.announced))
      (settleDemand (gearStageWork (shiftingOn none))) = (.stoppingSpindle, false, false, [.gearBegin]) := by
  decide +kernel

/-- ENGAGED with the TSC pump running, TSC_WITHHELD naming program 0, and a frame that asks for another range and for
COOLANT-STOP. -/
def pumping : State :=
  holding { frame0 with range := 1, coolant := ⟨false, false, false, false, true⟩ }
    { spinning with
      coolant := { coolantReset with requested := { outputsOff with tscPump := true }, tank := .inactive }
      store := { spinning.store with active := { spinning.store.active with
        triggers := some (imageOf (overwrite triggerBytes 15 [0])) } } }

/-- R118, R120: the onset of withheld demand at a range request is taken at once, so a COOLANT-STOP later in the expiry
aborts the program that it starts; where the COOLANT-STOP comes first there is no onset. -/
theorem test_onset_taken_at_once :
    after (.cycleTimerExpiry {}) pumping (fun t => (t.coolant.running, t.coolant.requested.flood,
      isRaised .tscWithheld t)) = some (none, false, true) ∧
    after (.cycleTimerExpiry { order := [.coolantStopBit] }) pumping (fun t => (t.coolant.running,
      t.coolant.requested.flood, isRaised .tscWithheld t)) = some (none, false, false) := by decide +kernel

/-! ## The valve bank, the ceilings and the timers -/

/-- The bank free and good, with one claim waiting. -/
def waiting (c : ClampState) : State :=
  { readyIn .standby with clamps := ⟨⟨c, none, 0⟩, clampReset, clampReset, clampReset⟩
                          bank := ⟨[.clamp .x], none, true, 0⟩ }

/-- The gearbox alone waits. -/
def gearWaiting : State :=
  { readyIn .running with gear := { gearReset with state := .valveWait, engaged := some .r1, target := some .r3 }
                          bank := ⟨[.gearbox], none, true, 0⟩ }

theorem witness_GrantStartsTransit :
    (SettledLaw (waiting .unclampWait) ∧ SettledLaw (waiting (.clampWait true)) ∧ SettledLaw gearWaiting) ∧
    ((waiting .unclampWait).bank.holder = none ∧ (waiting .unclampWait).bank.pressureOk = true ∧
      (waiting .unclampWait).link.state ≠ .offline ∧ (waiting .unclampWait).link.state ≠ .halted ∧
      (waiting .unclampWait).bank.queue = [.clamp .x] ∧ ((waiting .unclampWait).clamps.get .x).state = .unclampWait ∧
      ((waiting (.clampWait true)).clamps.get .x).state = .clampWait true) ∧
    (gearWaiting.bank.holder = none ∧ gearWaiting.bank.queue = [.gearbox] ∧ gearWaiting.gear.state = .valveWait ∧
      activeBytes gearWaiting .gear = some gearBytes ∧ gearWaiting.gear.target = some .r3) :=
  ⟨⟨ready_settled.of_same rfl rfl, ready_settled.of_same rfl rfl, ⟨rfl, by decide +kernel⟩⟩, by decide +kernel,
    by decide +kernel⟩

/-- X in a state that its ceiling bounds. -/
def bounded (c : ClampState) (holder : Option Claimant) : State :=
  { readyIn .standby with clamps := ⟨⟨c, some 0, 0⟩, clampReset, clampReset, clampReset⟩
                          bank := ⟨if c.waits then [.clamp .x] else [], holder, true, 0⟩ }

/-- X in a state of its ordinary path in RUNNING, its settle count and the reading as given, while Z holds the bank. -/
def pathing (c : ClampState) (settle : Nat) (r : SwitchReading) : State :=
  { readyIn .running with clamps := ⟨⟨c, none, settle⟩, clampReset, ⟨.unclamping, some 9, 0⟩, clampReset⟩
                          seen := { seenReset with reading := ⟨r, .neither, .neither, .neither⟩ }
                          bank := ⟨if c.waits then [.clamp .x] else [], some (.clamp .z), true, 0⟩ }

theorem witness_ClampCeilingsEndInFault :
    ((∀ c h, SettledLaw (bounded c h)) ∧
      (∀ c h, ((bounded c h).clamps.get .x).ceiling = some 0 ∧ (bounded c h).pendant.grant ≠ .waiting .x ∧
        (bounded c h).pendant.grant ≠ .granted .x) ∧
      ((bounded .unclamping (some (.clamp .x))).bank.queue = [] ∧
        (bounded .clamping (some (.clamp .x))).bank.queue = [] ∧
        (bounded (.clampWait true) none).bank.holder ≠ some (.clamp .x))) ∧
    ((∀ c n r, (pathing c n r).bank.holder = some (.clamp .z) ∧ Claimant.clamp .z ≠ .clamp .x ∧
        ((pathing c n r).clamps.get .x).state = c ∧ (pathing c n r).seen.reading.get .x = r) ∧
      (.clamp .x ∉ (pathing .clamped 0 .clampedConfirm).bank.queue ∧
        .clamp .x ∉ (pathing .unclamped 1 .unclampedConfirm).bank.queue ∧
        stillFrames (pathing .unclamped 1 .unclampedConfirm) .x = 2 ∧
        clampInForce (pathing .unclamped 1 .unclampedConfirm) .x = true ∧
        clampAbsent (pathing .unclamped 1 .unclampedConfirm) .b = true)) ∧
    (activeBytes (bounded .clamping (some (.clamp .x))) .clamp = some clampBytes ∧ confirmSettle clampBytes .x = 2) :=
  ⟨⟨fun _ _ => ready_settled.of_same rfl rfl, fun _ _ => ⟨rfl, fun h => (nomatch h), fun h => (nomatch h)⟩, by decide⟩,
    ⟨fun _ _ _ => ⟨rfl, by decide, rfl, rfl⟩, by decide +kernel⟩, by decide +kernel⟩

/-- A frame that wants X unclamped. -/
def frameX : CycleFrame := { frame0 with axes := { frame0.axes with x := ⟨0, true, false, false⟩ } }

/-- R71, R74, R70: X claims where the frame wants it unclamped, and claims its clamping at the second still expiry. -/
theorem test_clamp_claims :
    (clampWork (some frameX) .x (pathing .clamped 0 .clampedConfirm)).bank.queue = [.clamp .x] ∧
    (clampWork none .x (pathing .unclamped 0 .unclampedConfirm)).clamps.x = ⟨.unclamped, none, 1⟩ ∧
    (clampWork none .x (pathing .unclamped 1 .unclampedConfirm)).clamps.x = ⟨.clampWait false, none, 0⟩ := by
  decide +kernel

/-- A frame that requests a range. -/
def requesting (r : Nat) : CycleFrame := { frame0 with range := BitVec.ofNat 8 r }

theorem witness_GearTimersExpire :
    (SettledLaw (drainingAt 19) ∧ (drainingAt 19).gear.state = .draining ∧ (drainingAt 19).gear.drainCeiling = some 0 ∧
      .gearbox ∉ (drainingAt 19).bank.queue ∧ ∃ c, (drainingAt 19).bank.holder = some (.clamp c)) ∧
    (SettledLaw shifting ∧ shifting.gear.state = .shifting ∧ shifting.gear.shiftCeiling = some 100 ∧
      shifting.bank.holder = some .gearbox ∧ shifting.bank.queue = [] ∧ shifting.gear.wiggle = some 20 ∧
      activeBytes shifting .gear = some gearBytes ∧ shifting.gear.target = some .r3 ∧ shifting.link.state = .running) ∧
    (4 < (requesting 5).range.toNat ∧ rangeOfNat (requesting 4).range.toNat = some .r4 ∧
      shifting.gear.lastRequest ≠ some .r4 ∧ (readyIn .stopping).link.state ≠ .running) ∧
    ((rangeRequestWork (requesting 4) spinning).gear.state = .stoppingSpindle ∧
      isRaised .gearDone (rangeRequestWork (requesting 3) spinning) = true ∧
      (rangeRequestWork (requesting 4) (drainingAt 19)).gear.target = some .r4 ∧
      (rangeRequestWork (requesting 4) shifting).gear.next = some .r4 ∧
      (gearLeaveWork { drainingAt 19 with link := (readyIn .linkLost).link }).gear.state = .unknown) :=
  ⟨⟨⟨rfl, by decide +kernel⟩, rfl, rfl, by decide, .x, rfl⟩, ⟨⟨rfl, by decide +kernel⟩, by decide +kernel⟩,
    by decide +kernel, by decide +kernel⟩

/-- A program running, or waiting in the queue, with the lube interval running. -/
def cooling (r : Option Run) (q : List (Fin 8)) : State :=
  { readyIn .standby with
    gear := { gearReset with state := .engaged, engaged := some .r1 }
    coolant := { coolantReset with running := r, queue := q, tank := .inactive, lube := .running 0 } }

theorem cooling_settled (r : Option Run) (q : List (Fin 8)) : SettledLaw (cooling r q) := ⟨rfl, rfl⟩

/-- Program 0 in its wait, of the given kind and with the given pause after it, at a TSC value. -/
def awaiting (kind pause tsc : Nat) : State :=
  { cooling (some ⟨0, 1, .wait 5⟩) [] with
    store := { ready.store with active := { ready.store.active with
      programs := some (imageOf (overwrite programBytes 1 (programStep 1 kind 50 pause))) } }
    seen := { seenReset with tsc := ⟨tsc, false⟩ } }

/-- RUNNING with the travel of X, and a tank temperature. -/
def moving (travel step : Nat) (temp : Int) : State :=
  { readyIn .running with
    coolant := { coolantReset with travel := travel, lube := .running 1, tank := .inactive }
    seen := { seenReset with step := ⟨-step, 0, 0, 0, 0⟩ }
    inputs := { ready.inputs with tankTemp := some temp
                                  readings := { ready.inputs.readings with an2 := some 1900 } } }

/-- Drain threshold 20, build threshold 200, lube distance 1,000, tank 450: each clause at its boundary. -/
theorem witness_CoolantEventsAct :
    ((cooling (some ⟨0, 1, .wait 0⟩) []).coolant.running = some ⟨0, 1, .wait 0⟩ ∧
      present (cooling (some ⟨0, 1, .pause 0⟩) []) .programs = true ∧
      1 = programSteps (cooling (some ⟨0, 1, .pause 0⟩) []) 0 ∧
      (withholding (cooling none [0, 1]) = false ∧ (cooling none [0, 1]).coolant.running = none ∧
        (cooling none [0, 1]).coolant.queue = 0 :: [1] ∧
        activeBytes (cooling none [0, 1]) .programs = some programBytes ∧
        1 ≤ programSteps (cooling none [0, 1]) 0 ∧ stepWait programBytes 0 1 = .none ∧ stepPause programBytes 0 1 ≠ 0) ∧
      ((cooling none []).coolant.lube = .running 0 ∧ activeBytes (cooling none []) .triggers = some triggerBytes ∧
        lubeInterval triggerBytes ≠ 0 ∧ (cooling none []).link.state ≠ .offline ∧
        (cooling none []).link.state ≠ .halted ∧ triggerEntry triggerBytes .lubeDue = none)) ∧
    ((coolantWaitWork (awaiting 3 0 19)).coolant.running = none ∧
      (coolantWaitWork (awaiting 3 0 20)).coolant.running = some ⟨0, 1, .wait 5⟩ ∧
      (coolantWaitWork (awaiting 4 3 200)).coolant.running = some ⟨0, 1, .pause 3⟩ ∧
      (coolantWaitWork (awaiting 4 3 199)).coolant.running = some ⟨0, 1, .wait 5⟩ ∧
      (coolantWaitWork (awaiting 2 0 0)).coolant.running = none ∧
      (coolantWaitWork (awaiting 1 0 0)).coolant.running = some ⟨0, 1, .wait 5⟩) ∧
    ((travelWork (moving 999 1 0)).coolant.announced = [.lubeDue] ∧ (travelWork (moving 999 1 0)).coolant.travel = 0 ∧
      (travelWork (moving 998 1 0)).coolant.travel = 999) ∧
    (isRaised .tankWarn (tankWork (moving 0 0 450)) = true ∧ isRaised .tankWarn (tankWork (moving 0 0 449)) = false) := by
  decide +kernel

/-! ## Activation, E-stop, handwheel -/

/-- ACTIVATING with its ceiling run out and no clamp dropped. -/
def activating : State :=
  { readyIn .activating with
    link := { (readyIn .activating).link with activation := some 0 }
    clamps := PerClamp.of fun _ => ⟨.clamped, none, 0⟩ }

theorem witness_ActivationCeilingFails :
    SettledLaw activating ∧ activating.link.state = .activating ∧ activating.link.activation = some 0 ∧
    (∀ a, (activating.clamps.get a).state ≠ .dropped) :=
  ⟨(readyIn_settled .activating).of_same rfl rfl, rfl, rfl, fun a => by cases a <;> decide⟩

theorem witness_EstopOpeningHalts :
    SettledLaw busy ∧ busy.link.state ≠ .offline ∧ busy.link.state ≠ .halted ∧
    SettledLaw (readyIn .offline) ∧ (readyIn .offline).link.state = .offline ∧
    SettledLaw (readyIn .halted) ∧ (readyIn .halted).link.state = .halted :=
  ⟨busy_laws.settled, by decide, by decide, readyIn_settled _, rfl, readyIn_settled _, rfl⟩

/-- Z granted with the enable HELD and an edge count and a distance as given. -/
def jogging (edges distance : Int) : State :=
  { busy with pendant := { busy.pendant with edges := edges, distance := distance } }

/-- The same under a table that reverses the wheel. -/
def reversed (edges distance : Int) : State :=
  { jogging edges distance with
    store := { busy.store with active := { busy.store.active with
      pendant := some (imageOf (overwrite pendantBytes 1 [1])) } } }

/-- Four edges per detent, the pending limit 1,000: a forward edge, a backward one and one under REVERSED, counted,
completing a detent within the limit and one beyond it, and discarded while the enable is not HELD. -/
theorem witness_HandwheelCountsEdges :
    (∀ e d, SettledLaw (jogging e d)) ∧
    (after (.handwheelEdge true false) (jogging 2 0) (fun t => (t.pendant.edges, t.pendant.distance)) = some (3, 0) ∧
      after (.handwheelEdge true false) (jogging 3 999) (fun t => (t.pendant.edges, t.pendant.distance)) =
        some (0, 1000) ∧
      after (.handwheelEdge true false) (jogging 3 1000)
        (fun t => (t.pendant.distance, isRaised .handwheelDiscard t)) = some (1000, true)) ∧
    (after (.handwheelEdge false true) (jogging (-3) (-999)) (fun t => t.pendant.distance) = some (-1000) ∧
      after (.handwheelEdge false true) (jogging (-3) (-1000))
        (fun t => (t.pendant.distance, isRaised .handwheelDiscard t)) = some (-1000, true)) ∧
    (after (.handwheelEdge true false) (reversed 0 0) (fun t => t.pendant.edges) = some (-1) ∧
      after (.handwheelEdge false true) (reversed 3 0) (fun t => t.pendant.distance) = some 1) ∧
    (after (.handwheelEdge true false)
        { jogging 3 0 with pendant := { (jogging 3 0).pendant with enable := .clenched } }
        (fun t => (t.pendant.edges, t.pendant.distance)) = some (0, 0) ∧
      after (.handwheelEdge true true) (jogging 0 0) (fun t => isRaised .phaseError t) = some true) ∧
    ({ jogging 3 0 with store := State.reset.store } : State).store.active.pendant = none :=
  ⟨fun _ _ => busy_laws.settled.of_same rfl rfl, by decide +kernel, by decide +kernel, by decide +kernel,
    by decide +kernel, rfl⟩

/-! ## Table store and services -/

/-- STANDBY while a write runs. -/
def storingNow : State :=
  { ready with store := { ready.store with state := .writing, snapshot := some tables } }

theorem storingNow_settled : SettledLaw storingNow := ready_settled.of_same rfl rfl

theorem witness_ServicesJudgeLinkAndLength :
    (SettledLaw (readyIn .offline) ∧ (readyIn .offline).link.state = .offline) ∧
    (SettledLaw ready ∧ ready.link.state ≠ .offline ∧ bodyLengthOk .start [] = false ∧
      bodyLengthOk .writeSegment [0, 0, 0] = false ∧ bodyLengthOk .store [0] = false ∧
      bodyLengthOk .readSegment (List.replicate 6 0) = false) :=
  ⟨⟨readyIn_settled _, rfl⟩, ready_settled, by decide⟩

/-- The records' fields at their ends. -/
def recorded : State :=
  { ready with
    bank := ⟨[.clamp .b, .gearbox], some (.clamp .x), true, 255⟩
    coolant := { coolantReset with running := some ⟨7, 6, .wait 25500⟩, queue := [0, 3], travel := 200000000
                                   requested := ⟨true, false, true, false, false, true⟩, lube := .held 65535
                                   tank := .active }
    inputs := { ready.inputs with tankTemp := some (-1) }
    comp := { compReset with applied := -2000, lastMeasurement := some (-65264), updates := .always, windowCount := 15 }
    pendant := { pendantReset false false with grant := .waiting .b, stillCount := 255, distance := -1000000
                                               edges := -7, feedKnob := ⟨some 15, some 0, 2⟩ } }

theorem witness_ReadingServicesAnswer :
    (SettledLaw ready ∧ ready.link.state ≠ .offline ∧ 1 ≤ 44 ∧ 252 + 44 ≤ tableSizes.get .programs ∧
      (ready.store.active.get .programs).isSome = true) ∧
    (((readyIn .standby).store.active.get .gear).isSome = true ∧ State.reset.store.active.get .gear = none ∧
      4 ≤ (4 : Byte).toNat) ∧
    (SettledLaw recorded ∧ recorded.bank.queue.length ≤ 5 ∧ recorded.bank.disagree < 256 ∧
      recorded.coolant.queue.length ≤ 4 ∧ recorded.coolant.travel < 4294967296 ∧
      -32768 ≤ recorded.inputs.tankTemp.getD 0 ∧ recorded.inputs.tankTemp.getD 0 ≤ 32767 ∧
      -32768 ≤ recorded.comp.applied ∧ recorded.comp.applied ≤ 32767 ∧
      -2147483648 ≤ recorded.comp.lastMeasurement.getD 0 ∧ recorded.comp.lastMeasurement.getD 0 ≤ 2147483647 ∧
      recorded.comp.windowCount < 256 ∧ recorded.comp.stoppedMs < 4294967296 ∧ recorded.pendant.stillCount < 256 ∧
      -2147483648 ≤ recorded.pendant.distance ∧ recorded.pendant.distance ≤ 2147483647 ∧
      -128 ≤ recorded.pendant.edges ∧ recorded.pendant.edges ≤ 127 ∧ recorded.pendant.feedKnob.count < 256 ∧
      recorded.pendant.spindleKnob.count < 256) :=
  ⟨⟨ready_settled, by decide +kernel⟩, by decide +kernel, ⟨rfl, rfl⟩, by decide +kernel⟩

/-- 11.5.1: two of the records, byte by byte. -/
theorem test_record_bytes :
    bankRecord recorded = [1, 2, 4, 5, 0, 0, 0, 1, 255] ∧
    pendantRecord recorded = [1, 5, 0, 255, 0, 0xFF, 0xF0, 0xBD, 0xC0, 0xF9, 15, 0, 2, 255, 255, 0] ∧
    growthRecord recorded = [0xF8, 0x30, 1, 0xFF, 0xFF, 0x01, 0x10, 255, 255, 0, 15, 0, 0, 3, 0xE4, 0x18] := by
  decide +kernel

/-- The write that just fits, the one that does not, and the last table id. -/
theorem witness_WriteSegmentWrites :
    (SettledLaw ready ∧ SettledLaw storingNow ∧ SettledLaw (readyIn .running)) ∧
    (ready.link.state ≠ .offline ∧ 57 + 1 ≤ tableSizes.get .gear ∧ ¬ 58 + 1 ≤ tableSizes.get .gear ∧
      tableOfId (7 : Byte).toNat = some .inputs ∧ tableOfId (8 : Byte).toNat = none) :=
  ⟨⟨ready_settled, storingNow_settled, readyIn_settled _⟩, by decide⟩

/-- STANDBY with a staging copy of a table. -/
def staged (t : TableId) (bs : List Byte) : State :=
  { ready with store := { ready.store with staging := ready.store.staging.set t bs } }

theorem staged_settled (t : TableId) (bs : List Byte) : SettledLaw (staged t bs) := ready_settled.of_same rfl rfl

theorem witness_CommitRefusalOrder :
    (SettledLaw storingNow ∧ storingNow.store.state = .writing) ∧
    (SettledLaw (readyIn .running) ∧ (readyIn .running).store.state ≠ .writing ∧
      (readyIn .running).link.state ≠ .standby) ∧
    (SettledLaw ready ∧ ready.store.state ≠ .writing ∧ ready.link.state = .standby ∧
      7 < (8 : Byte).toNat ∧ crc16 (ready.store.staging.get .inputs) ≠ 0) ∧
    (tableFailure .gear ((staged .gear (overwrite gearBytes 50 [0x21])).store.staging.get .gear) = some 50) :=
  ⟨⟨storingNow_settled, rfl⟩, ⟨readyIn_settled _, by decide, by decide⟩, ⟨ready_settled, by decide +kernel⟩,
    by decide +kernel⟩

theorem witness_CommitActivatesStagingCopy :
    ∀ t ∈ allTables, (staged t (tableBytes.get t)).link.state = .standby ∧
      (staged t (tableBytes.get t)).store.state ≠ .writing ∧
      tableFailure t ((staged t (tableBytes.get t)).store.staging.get t) = none := by decide +kernel

/-- COMMIT of the gear table in a change or FAULT, the forks in range 3. -/
def committing (g : GearState) : State :=
  { staged .gear gearBytes with
    gear := { gearReset with state := g, engaged := some .r1, target := some .r3, forks := forks3 }
    bank := ⟨[], if g = .shifting then some .gearbox else none, true, 0⟩ }

/-- COMMIT of a clamp table that makes B present, its switches confirming CLAMPED or nothing, while X waits. -/
def clamping (r : SwitchReading) : State :=
  { staged .clamp (overwrite clampBytes 12 clampRecord) with
    clamps := ⟨⟨.clampWait true, some 9, 0⟩, ⟨.fault, none, 0⟩, ⟨.clamping, some 9, 0⟩, clampReset⟩
    bank := ⟨[.clamp .x], some (.clamp .z), true, 1⟩
    seen := { seenReset with reading := ⟨.neither, .neither, .neither, r⟩ } }

/-- The first clamp table, two clamps CLAMPED and in FAULT. -/
def clampingFirst : State :=
  { clamping .neither with
    clamps := ⟨⟨.clamped, none, 0⟩, ⟨.fault, none, 0⟩, clampReset, clampReset⟩
    bank := ⟨[], none, true, 0⟩
    store := { (clamping .neither).store with active := { ready.store.active with clamp := none } } }

theorem witness_CommitActivatesStagingCopy_owners :
    (tableFailure .gear ((committing .shifting).store.staging.get .gear) = none ∧
      (committing .shifting).bank.holder = some .gearbox ∧ (committing .fault).gear.state = .fault ∧
      (committing .engaged).coolant.requested.tscPump = false) ∧
    (tableFailure .clamp ((clamping .clampedConfirm).store.staging.get .clamp) = none ∧
      (clampInForce (clamping .neither) .x = true ∧ ((clamping .neither).clamps.get .x).state.waits = true) ∧
      ((clamping .neither).clamps.get .y).state = .fault ∧ clampAbsent (clamping .neither) .b = true ∧
      (clamping .neither).inputs.clampsDelivered = true ∧ clampingFirst.store.active.clamp = none ∧
      (clampingFirst.clamps.get .x).state = .clamped ∧ (clampingFirst.clamps.get .z).state = .dropped) :=
  ⟨by decide +kernel, by decide +kernel⟩

/-- R83: B becomes CLAMPED by its switches, or recovers at the tail, and X keeps its place. -/
theorem test_commit_clamp_table :
    after (.commit (3 :: be16 (crc16 (overwrite clampBytes 12 clampRecord)).toNat) []) (clamping .clampedConfirm)
      (fun t => (t.clamps.b.state, t.bank.queue)) = some (.clamped, [.clamp .x]) ∧
    after (.commit (3 :: be16 (crc16 (overwrite clampBytes 12 clampRecord)).toNat) []) (clamping .neither)
      (fun t => (t.clamps.b.state, t.bank.queue)) = some (.clampWait true, [.clamp .x, .clamp .b]) := by decide +kernel

theorem witness_StoreWritesSnapshot :
    (SettledLaw ready ∧ ready.link.state ≠ .offline) ∧
    (SettledLaw storingNow ∧ storingNow.store.state = .writing ∧ storingNow.store.snapshot = some tables) :=
  ⟨⟨ready_settled, by decide⟩, storingNow_settled, rfl, rfl⟩

theorem witness_StartEntersActivating :
    (SettledLaw storingNow ∧ storingNow.link.state ≠ .offline ∧ storingNow.store.state = .writing) ∧
    (SettledLaw (readyIn .halted) ∧ (readyIn .halted).link.state ≠ .offline ∧
      (readyIn .halted).store.state ≠ .writing ∧ (readyIn .halted).link.state ≠ .standby) ∧
    (SettledLaw ready ∧ ready.store.state ≠ .writing ∧ ready.link.state = .standby ∧ (3 : Byte) ≠ 1 ∧ (3 : Byte) ≠ 2 ∧
      (3 : Byte) ≠ 4 ∧ (4 : Byte).toNat = Period.ms4.ms ∧ ∀ t, (ready.store.active.get t).isSome = true) ∧
    ∃ t, ({ ready with store := State.reset.store } : State).store.active.get t = none :=
  ⟨⟨storingNow_settled, by decide, rfl⟩, ⟨readyIn_settled _, by decide⟩,
    ⟨ready_settled, by decide, rfl, by decide, by decide, by decide, rfl, fun t => by cases t <;> rfl⟩, .inputs, rfl⟩

theorem witness_StopEntersStopping :
    (SettledLaw busy ∧ busy.link.state ≠ .offline ∧ busy.link.state = .running ∧ busy.pendant.grant = .granted .z) ∧
    (SettledLaw ready ∧ ready.link.state ≠ .running) :=
  ⟨⟨busy_laws.settled, by decide, rfl, rfl⟩, ready_settled, by decide⟩

/-- HALTED with no clamp dropped. -/
def haltedClamped : State := { readyIn .halted with clamps := PerClamp.of fun _ => ⟨.clamped, none, 0⟩ }

/-- HALTED with every clamp dropped, the pressure and the delivery of the clamp group's values as given. -/
def haltedDropped (pressure delivered : Bool) : State :=
  { readyIn .halted with bank := ⟨[], none, pressure, 0⟩
                         inputs := { ready.inputs with clampsDelivered := delivered } }

theorem haltedDropped_rest (pressure delivered : Bool) : RestLaw (haltedDropped pressure delivered) := fun _ =>
  ⟨rfl, rfl, rfl, rfl, rfl, fun a => .inr (.inl (by cases a <;> rfl)), .inr (.inl rfl)⟩

theorem witness_RecoverLeavesHalted :
    (SettledLaw haltedClamped ∧ haltedClamped.link.state ≠ .offline ∧ haltedClamped.link.state = .halted ∧
      haltedClamped.inputs.estopOpen = false ∧ ∀ a, (haltedClamped.clamps.get a).state ≠ .dropped) ∧
    (SettledLaw ready ∧ ready.link.state ≠ .halted) ∧
    (∀ p d, SettledLaw (haltedDropped p d) ∧ RestLaw (haltedDropped p d) ∧ (haltedDropped p d).link.state = .halted ∧
      (haltedDropped p d).inputs.estopOpen = false ∧ ((haltedDropped p d).clamps.get .x).state = .dropped ∧
      (haltedDropped p d).inputs.clampsDelivered = d ∧ (haltedDropped p d).bank.pressureOk = p) ∧
    (clampInForce (haltedDropped true true) .x = true ∧ clampInForce (haltedDropped true true) .b = false) :=
  ⟨⟨(readyIn_settled .halted).of_same rfl rfl, by decide, rfl, rfl, fun a => by cases a <;> decide⟩,
    ⟨ready_settled, by decide⟩,
    fun p d => ⟨(readyIn_settled .halted).of_same rfl rfl, haltedDropped_rest p d, rfl, rfl, rfl, rfl, rfl⟩,
    by decide +kernel⟩

/-- R78: the given order's first gets the bank, the others wait; B is absent and stays dropped. -/
theorem test_recover_dropped :
    after (.recover [] [.y]) (haltedDropped true true) (fun t => (t.bank.holder, t.bank.queue, t.clamps.b.state)) =
      some (some (.clamp .y), [.clamp .x, .clamp .z], .dropped) ∧
    after (.recover [] []) (haltedDropped false true) (fun t => (t.bank.holder, t.bank.queue)) =
      some (none, [.clamp .x, .clamp .y, .clamp .z]) := by decide +kernel

/-- STANDBY with every clamp's first debounced reading just complete, clamped confirm, and DROPPED; the clamp and hydraulic
table as given. -/
def firstReading (table : Option Image) : State :=
  { ready with clamps := PerClamp.of fun _ => clampReset
               inputs := { ready.inputs with
                 clamps := PerClamp.of fun _ => ⟨⟨some true, none, 0⟩, ⟨some false, none, 0⟩⟩
                 clampComplete := true, clampsDelivered := false }
               store := { ready.store with active := { ready.store.active with clamp := table } } }

/-- The same with no clamp confirmed, in another link state. -/
def firstLoose (st : LinkState) : State :=
  { firstReading ready.store.active.clamp with
    link := (readyIn st).link
    inputs := { (firstReading none).inputs with
      clamps := PerClamp.of fun _ => ⟨⟨some false, none, 0⟩, ⟨some false, none, 0⟩⟩ } }

/-- The clauses of the clamp group's first values: in STANDBY and at rest, with the table and without it. -/
theorem witness_DebounceNeedsWholeRun_clamps :
    ((firstReading none).inputs.clampComplete = true ∧ (firstReading none).inputs.clampsDelivered = false ∧
      ((firstReading none).clamps.get .x).state = .dropped ∧ clampInForce (firstReading none) .x = false) ∧
    (clampInForce (firstReading ready.store.active.clamp) .x = true ∧
      ((firstReading ready.store.active.clamp).inputs.clamps.get .x).clamped.value = some true ∧
      ((firstReading ready.store.active.clamp).inputs.clamps.get .x).unclamped.value = some false) ∧
    (∀ st ∈ [LinkState.offline, .halted, .standby], (firstLoose st).inputs.clampComplete = true ∧
      (firstLoose st).inputs.clampsDelivered = false ∧ ((firstLoose st).clamps.get .x).state = .dropped ∧
      clampInForce (firstLoose st) .x = true ∧ ((firstLoose st).inputs.clamps.get .x).clamped.value ≠ some true ∧
      (firstLoose st).link.state = st) ∧
    ready.inputs.clampComplete = false := by decide +kernel

/-- R81, R84: the first reading and a RESTART make a clamp CLAMPED whose record is in force; without the table it stays
DROPPED, and so it does in the record of B, which is ABSENT. -/
theorem test_first_reading :
    ((clampFirstWork [] (firstReading ready.store.active.clamp)).clamps.x.state,
      (clampFirstWork [] (firstReading ready.store.active.clamp)).clamps.b.state,
      (clampFirstWork [] (firstReading none)).clamps.x.state, (clampFirstWork [] (firstReading none)).bank.queue) =
      (.clamped, .dropped, .dropped, []) ∧
    after (.restart []) (firstReading ready.store.active.clamp) (fun t => (t.clamps.x.state, t.clamps.b.state)) =
      some (.clamped, .dropped) ∧
    after (.restart []) (firstReading none) (fun t => t.clamps.x.state) = some .dropped := by decide +kernel

theorem witness_RestartKeepsTables :
    (SettledLaw storingNow ∧ storingNow.link.state ≠ .offline ∧ storingNow.store.state = .writing) ∧
    (SettledLaw busy ∧ busy.store.state ≠ .writing ∧ busy.link.state ≠ .standby ∧ busy.link.state ≠ .halted) ∧
    (SettledLaw ready ∧ ready.store.state ≠ .writing ∧ ready.link.state = .standby) ∧
    (SettledLaw clampingFirst ∧ clampingFirst.link.state = .standby ∧ clampingFirst.store.active.clamp = none) :=
  ⟨⟨storingNow_settled, by decide, rfl⟩, ⟨busy_laws.settled, by decide⟩, ⟨ready_settled, by decide⟩,
    ready_settled.of_same rfl rfl, rfl, rfl⟩

/-- The same frame with a CLEAR_FLAGS of every flag. -/
def clearFrame : CycleFrame := { maskFrame with kind := 11 }

/-- A write under way as a CLEAR_FLAGS waits in the slot. -/
def clearing : State := { holding clearFrame ready with store := { ready.store with state := .writing } }

/-- The largest flag set, one bit beyond it, and the empty one; and a clear that names STORE_FAULT during a write. -/
theorem witness_FlagServicesAct :
    (SettledLaw ready ∧ ready.link.state ≠ .offline) ∧
    ((maskFrame.body.length = 5 ∧ byteAt maskFrame.body 4 < 8 ∧ flagSetNumber maskFrame.body ≠ 0) ∧
      ¬ byteAt [0, 0, 0, 0, 8] 4 < 8 ∧ flagSetNumber [0, 0, 0, 0, 0] = 0) ∧
    (clearing.link.state ≠ .offline ∧ clearing.link.slot = some ⟨clearFrame, false⟩ ∧ clearFrame.kind = 11 ∧
      (flagSetNumber clearFrame.body).testBit Flag.storeFault.num = true ∧ clearing.store.state = .writing ∧
      ∃ w, exec .storeMismatch clearing = .next w) :=
  ⟨⟨ready_settled, by decide⟩, by decide +kernel, by decide, rfl, rfl, by decide +kernel, rfl, _, rfl⟩

/-- R175: a write that fails second shows STORE_FAULT, number 33, in the answer of the clear; one that fails first is
cleared. -/
theorem test_clear_and_failure :
    after (.cycleTimerExpiry { afterClear := [.storeMismatch] }) clearing (fun t => t.sent.echo.map fun e =>
      (e.answer.status, byteAt e.answer.body 4)) = some (some (.ok, 2)) ∧
    after (.cycleTimerExpiry {}) (storeFails clearing) (fun t => t.sent.echo.map fun e =>
      (e.answer.status, byteAt e.answer.body 4)) = some (some (.ok, 0)) := by decide +kernel

/-- REQ0 names program 0, REQ1 program 1, TSC_WITHHELD program 2. -/
def triggerBytes3 : List Byte := overwrite (overwrite triggerBytes 5 [1]) 15 [2]

/-- `cooling` under that table, with sources announced. -/
def announcing (r : Option Run) (q : List (Fin 8)) (l : List TriggerSource) : State :=
  { cooling r q with
    coolant := { (cooling r q).coolant with announced := l }
    store := { ready.store with active := { ready.store.active with triggers := some (imageOf triggerBytes3) } } }

theorem witness_CoolantServicesAct :
    (SettledLaw (readyIn .halted) ∧ (readyIn .halted).link.state = .halted) ∧
    (({ ready with store := State.reset.store } : State).store.active.programs = none) ∧
    (SettledLaw ready ∧ ready.link.state ≠ .halted ∧ ready.store.active.programs ≠ none ∧ 8 ≤ (8 : Byte).toNat ∧
      programSteps ready 7 = 0) ∧
    (SettledLaw (cooling none []) ∧ programSteps (cooling none []) 4 ≠ 0 ∧ (cooling none []).coolant.running = none ∧
      withholding (cooling none []) = false ∧ stepWait programBytes 4 1 = .none ∧ stepPause programBytes 4 1 ≠ 0) ∧
    (SettledLaw (cooling (some ⟨0, 1, .pause 1⟩) [1, 2, 3]) ∧
      programSteps (cooling (some ⟨0, 1, .pause 1⟩) [1, 2, 3]) 4 ≠ 0 ∧
      (4 : Fin 8) ∉ (cooling (some ⟨0, 1, .pause 1⟩) [1, 2, 3]).coolant.queue ∧
      (cooling (some ⟨0, 1, .pause 1⟩) [1, 2, 3]).coolant.queue.length < 4 ∧
      4 ≤ (cooling (some ⟨0, 1, .pause 1⟩) [1, 2, 3, 5]).coolant.queue.length) ∧
    ((∀ r q l, (announcing r q l).coolant.announced = l ∧ (announcing r q l).coolant.running = r ∧
        (announcing r q l).coolant.queue = q ∧
        (announcing r q l).coolant.withheld = demandNow (announcing r q l)) ∧
      (triggerEntry triggerBytes3 .req0 = some 0 ∧ triggerEntry triggerBytes3 .req1 = some 1 ∧
        triggerEntry triggerBytes3 .tscWithheld = some 2 ∧ triggerEntry triggerBytes3 .linkStop = none ∧
        programSteps (announcing none [] [.req0]) 0 ≠ 0 ∧ programSteps (announcing none [] [.req0]) 1 ≠ 0 ∧
        programSteps (announcing none [] [.req0]) 2 ≠ 0 ∧ withholding (announcing none [] [.req0]) = false)) :=
  ⟨⟨readyIn_settled _, rfl⟩, rfl, ⟨ready_settled, by decide, by decide +kernel, by decide, by decide +kernel⟩,
    ⟨cooling_settled _ _, by decide +kernel⟩, ⟨cooling_settled _ _, by decide +kernel⟩,
    fun _ _ _ => ⟨rfl, rfl, rfl, rfl⟩, by decide +kernel⟩

/-- R119, R120: of two sources that fall together the given order's first is taken first, of two request bits the lower. -/
theorem test_trigger_order :
    (settleTriggers [] (announcing (some ⟨4, 1, .pause 1⟩) [] [.req1, .tscWithheld])).coolant.queue = [1, 2] ∧
    (settleTriggers [.tscWithheld] (announcing (some ⟨4, 1, .pause 1⟩) [] [.req1, .tscWithheld])).coolant.queue =
      [2, 1] ∧
    (settleTriggers [.req1] (announcing (some ⟨4, 1, .pause 1⟩) [] [.req0, .req1])).coolant.queue = [0, 1] := by
  decide +kernel

/-- The frame's coolant bits: COOLANT-STOP, REQ0 and REQ2 rise. -/
theorem test_coolant_bits :
    (stopBitWork { frame0 with coolant := ⟨true, false, true, false, true⟩ }
      (cooling (some ⟨0, 1, .pause 1⟩) [1])).coolant.queue = [] ∧
    (requestsWork { frame0 with coolant := ⟨true, false, true, false, true⟩ } ready).coolant.announced =
      [.req0, .req2] := by decide +kernel

/-- A last valid sum, at its greatest. -/
def measured : State := { readyIn .running with comp := { compReset with lastSum := some (16 * 4095) } }

/-- Each of the three ways in which an active table changes. -/
theorem witness_StagingLawKept_active :
    (∃ t, Machine.step (queued (.hardwareReset false false false) ready) = .next t ∧
      t.store.active.get .gear ≠ ready.store.active.get .gear) ∧
    (∃ t, Machine.step (queued (.commit (7 :: be16 (crc16 (overwrite inputBytes 0 [4])).toNat) [])
        (staged .inputs (overwrite inputBytes 0 [4]))) = .next t ∧
      t.store.active.get .inputs ≠ ready.store.active.get .inputs) ∧
    (∃ t, Machine.step (queued (.growthZero []) measured) = .next t ∧
      t.store.active.get .compensation ≠ measured.store.active.get .compensation) :=
  ⟨⟨_, rfl, by decide +kernel⟩, ⟨_, rfl, by decide +kernel⟩, _, rfl, by decide +kernel⟩

theorem witness_GrowthServicesAct :
    (SettledLaw measured ∧ measured.link.state = .running ∧
      measured.store.active.compensation = some (imageOf compensationBytes) ∧ measured.comp.lastSum = some (16 * 4095) ∧
      (imageOf compensationBytes).bytes.length = 53 ∧ 16 * 4095 ≤ 16 * 4095) ∧
    (SettledLaw ready ∧ ready.link.state = .standby ∧ ready.store.active.compensation ≠ none ∧
      ready.comp.lastSum = none) ∧
    (SettledLaw (readyIn .halted) ∧ (readyIn .halted).link.state ≠ .standby ∧
      (readyIn .halted).link.state ≠ .running) ∧
    ({ ready with store := State.reset.store } : State).store.active.compensation = none :=
  ⟨⟨(readyIn_settled .running).of_same rfl rfl, rfl, tables_get .compensation, rfl, by decide +kernel⟩,
    ⟨ready_settled, rfl, by decide, rfl⟩, ⟨readyIn_settled _, by decide⟩, rfl⟩

/-- Z and the gearbox in FAULT, the forks showing range 3 or nothing. -/
def faulty (forks : PerFork Bool) : State :=
  { ready with clamps := ⟨clampReset, clampReset, ⟨.fault, none, 0⟩, clampReset⟩
               gear := { gearReset with state := .fault, forks := forks } }

theorem witness_ClearFaultReevaluates :
    (∀ f, SettledLaw (faulty f)) ∧
    ((faulty ⟨false, false, false, false⟩).link.state ≠ .offline ∧ 5 ≤ (5 : Byte).toNat ∧
      State.reset.store.active.clamp = none ∧ clampAbsent (faulty ⟨false, false, false, false⟩) .b = true ∧
      clampInForce (faulty ⟨false, false, false, false⟩) .x = true ∧
      ((faulty ⟨false, false, false, false⟩).clamps.get .x).state ≠ .fault ∧
      clampInForce (faulty ⟨false, false, false, false⟩) .z = true ∧
      ((faulty ⟨false, false, false, false⟩).clamps.get .z).state = .fault) ∧
    (State.reset.store.active.gear = none ∧ ready.gear.state ≠ .fault ∧
      (faulty ⟨false, false, false, false⟩).store.active.gear ≠ none ∧
      shownRange (faulty ⟨false, false, false, false⟩) = none ∧
      shownRange (faulty ⟨false, true, true, false⟩) = some .r3 ∧
      (faulty ⟨false, true, true, false⟩).coolant.requested.tscPump = false) :=
  ⟨fun _ => ⟨rfl, rfl⟩, by decide +kernel, by decide +kernel⟩

/-! ## Small steps -/

/-- 4.8, step 1: the E-stop opens while X unclamps and Y waits. -/
theorem test_estop_drops_clamps :
    after .estopOpening busy (fun t => (t.link.state, t.clamps.x.state, t.clamps.y.state)) =
      some (.halted, .dropped, .clamped) ∧
    after .estopOpening busy (fun t => (t.bank.queue, t.bank.holder, t.pendant.grant)) = some ([], none, .free) := by
  decide +kernel

/-- 9.8, step 4: one byte too many is written nowhere. -/
theorem test_segment_beyond_table :
    after (.writeSegment ([2, 0, 44] ++ List.replicate 15 1)) ready (fun t => (t.sent.answer.status,
      t.store.staging.gear)) = some (.badParam, List.replicate 58 0) := by decide +kernel

/-- 9.8, step 5: the fourteen bytes that fit. -/
theorem test_segment_at_end :
    after (.writeSegment ([2, 0, 44] ++ List.replicate 14 1)) ready (fun t => (t.sent.answer.status,
      t.store.staging.gear)) = some (.ok, List.replicate 44 0 ++ List.replicate 14 1) := by decide +kernel

/-- 9.8, steps 3 and 8, with the short input table: a wrong signature is refused, the right one commits. -/
theorem test_commit :
    after (.commit (7 :: be16 0x1234) []) (staged .inputs inputBytes) (fun t => t.sent.answer.status) =
      some .badSignature ∧
    after (.commit (7 :: be16 (crc16 inputBytes).toNat) []) (staged .inputs inputBytes) (fun t =>
      (t.sent.answer.status, t.store.active.inputs)) = some (.ok, some (imageOf inputBytes)) := by decide +kernel

/-- 3.8.2, first window end: A rises from 10 to 15, two updates left, COMP_UPDATED raised. -/
theorem test_window_end :
    (windowEnd compensationBytes { ready with comp := { compReset with windowSum := 32500, applied := 10 } }).comp.applied
      = 15 ∧
    (windowEnd compensationBytes
      { ready with comp := { compReset with windowSum := 32500, applied := 10 } }).comp.updates = .count 2 ∧
    isRaised .compUpdated (windowEnd compensationBytes
      { ready with comp := { compReset with windowSum := 32500, applied := 10 } }) = true := by decide +kernel

/-- A whole expiry in STANDBY: the frame is taken, a drive frame and an echo frame leave, the mask is in force. -/
theorem test_expiry_in_standby :
    after (.cycleTimerExpiry {}) (holding maskFrame ready) (fun t => (t.link.missCount, t.flags.mask,
      t.sent.echo.map EchoFrame.fresh, t.sent.drive.map DriveFrame.enable)) =
      some (0, BitVec.allOnes 35, some true, some false) := by decide +kernel

/-- The lengths of the frames that leave: 27 bytes, and 99 and the answer's body (11.3, 11.4). -/
theorem test_frame_lengths :
    (driveWire (driveFrameOf ready)).length = 27 ∧ (echoWire (echoFrameOf false none ready)).length = 99 := by decide +kernel

/-- The queue is first in, first out, and an empty queue idles. -/
theorem test_queue_order :
    after .estopClosing ready (fun t => t.pending) = some [] ∧
    (match Machine.step (ready.withPending [.estopOpening, .pauseEnd]) with
      | .next t => t.pending
      | _ => []) = [.pauseEnd] := by decide +kernel

end Sys2Proof.Tests
end

/-! # Coolant, lubrication and tank: the driven values (R110) -/

namespace Sys2Proof.Machine

/-! ## What the driven values are formed from -/

/-- The sequencer works in every link state but OFFLINE and HALTED (6.1). -/
theorem coolantWorks_iff (s : State) :
    coolantWorks s = true ↔ s.link.state ≠ .offline ∧ s.link.state ≠ .halted := by
  unfold coolantWorks
  cases s.link.state <;> simp [LinkState.atRest]

/-- The pump is not withheld exactly in ENGAGED with the tank warning inactive. -/
theorem withholding_eq_false_iff (s : State) :
    withholding s = false ↔ s.gear.state = .engaged ∧ s.coolant.tank = .inactive := by
  simp [withholding]

/-- The drain force stands in the three gear states that need the drain open (R93). -/
theorem drainForce_iff (s : State) :
    drainForce s = true ↔ s.gear.state = .draining ∨ s.gear.state = .valveWait ∨ s.gear.state = .shifting := by
  unfold drainForce
  cases s.gear.state <;> simp

/-! ## The driven values -/

/-- Where the sequencer is at rest every output is off, whatever is requested or forced. -/
theorem drivenValues_of_rest {s : State} (h : s.link.state = .offline ∨ s.link.state = .halted) :
    drivenValues s = outputsOff := by
  have hw : ¬ coolantWorks s = true := by
    rw [coolantWorks_iff]
    rintro ⟨ho, hh⟩
    exact h.elim ho hh
  exact if_neg hw

/-- Where the sequencer works only the pump and the drain can differ from their requested values. -/
theorem drivenValues_of_works {s : State} (h : coolantWorks s = true) :
    drivenValues s = { s.coolant.requested with
      tscPump := s.coolant.requested.tscPump && !withholding s
      tscDrain := s.coolant.requested.tscDrain || drainForce s } :=
  if_pos h

/-- The pump runs while it is requested and not withheld. -/
theorem drivenValues_tscPump_iff {s : State} (h : coolantWorks s = true) :
    (drivenValues s).tscPump = true ↔
      s.coolant.requested.tscPump = true ∧ s.gear.state = .engaged ∧ s.coolant.tank = .inactive := by
  rw [drivenValues_of_works h, Bool.and_eq_true, Bool.not_eq_true', withholding_eq_false_iff]

/-- The drain is open while it is requested or the gearbox forces it. -/
theorem drivenValues_tscDrain_iff {s : State} (h : coolantWorks s = true) :
    (drivenValues s).tscDrain = true ↔ s.coolant.requested.tscDrain = true ∨
      s.gear.state = .draining ∨ s.gear.state = .valveWait ∨ s.gear.state = .shifting := by
  rw [drivenValues_of_works h, Bool.or_eq_true, drainForce_iff]

/-- Settles O36: at rest all six outputs are off; otherwise the pump and the drain follow their own conditions and the
other four their requested values. -/
theorem drivenValuesFollow : Obligations.DrivenValuesFollow := by
  intro s
  refine ⟨drivenValues_of_rest, fun hoffline hhalted => ?_⟩
  have hw : coolantWorks s = true := (coolantWorks_iff s).mpr ⟨hoffline, hhalted⟩
  refine ⟨drivenValues_tscPump_iff hw, drivenValues_tscDrain_iff hw, ?_⟩
  rw [drivenValues_of_works hw]
  exact ⟨rfl, rfl, rfl, rfl⟩

end Sys2Proof.Machine

/-! # Inputs: the positions of the multi-line pendant inputs (R149) -/

namespace Sys2Proof.Machine

/-! ## The selector -/

theorem perAxis_eq_of_get {α : Type} {u v : PerAxis α} (h : ∀ q, u.get q = v.get q) : u = v := by
  obtain ⟨x, y, z, w, b⟩ := u
  obtain ⟨x', y', z', w', b'⟩ := v
  exact (PerAxis.mk.injEq ..).mpr ⟨h .x, h .y, h .z, h .w, h .b⟩

/-- The selector lines with that of axis `a` alone ON: what the switch makes in that position. -/
def lineAlone (a : Axis) : PerAxis Bool := PerAxis.of fun q => decide (q = a)

@[simp] theorem lineAlone_get (a q : Axis) : (lineAlone a).get q = decide (q = a) := PerAxis.get_of _ q

theorem eq_lineAlone_iff {lines : PerAxis Bool} {a : Axis} :
    lines = lineAlone a ↔ ∀ q, lines.get q = decide (q = a) := by
  constructor
  · rintro rfl
    exact lineAlone_get a
  · intro h
    exact perAxis_eq_of_get fun q => (h q).trans (lineAlone_get a q).symm

theorem selectorPosition_lineAlone (a : Axis) : selectorPosition (lineAlone a) = .axis a := by
  cases a <;> rfl

/-- No other combination of the lines reads as an axis. -/
theorem eq_lineAlone_of_selectorPosition {lines : PerAxis Bool} {a : Axis} (h : selectorPosition lines = .axis a) :
    lines = lineAlone a := by
  obtain ⟨x, y, z, w, b⟩ := lines
  unfold selectorPosition at h
  split at h
  case h_6 => nomatch h
  all_goals
    obtain rfl := Selector.axis.inj h
    simp_all only
    rfl

theorem selectorPosition_eq_axis_iff (lines : PerAxis Bool) (a : Axis) :
    selectorPosition lines = .axis a ↔ ∀ q, lines.get q = decide (q = a) := by
  rw [← eq_lineAlone_iff]
  constructor
  · exact eq_lineAlone_of_selectorPosition
  · rintro rfl
    exact selectorPosition_lineAlone a

/-! ## The increment and the enable -/

/-- A line of the increment switch counts only while it alone is ON. -/
theorem incrementPosition_eq (ten hundred : Bool) :
    incrementPosition ten hundred =
      if ten && !hundred then .x10 else if hundred && !ten then .x100 else .x1 := by
  cases ten <;> cases hundred <;> rfl

/-- CLENCHED prevails over HELD, as for a contact that welds while the operator clenches. -/
theorem enablePosition_eq (held clenched : Bool) :
    enablePosition held clenched = if clenched then .clenched else if held then .held else .released := by
  cases held <;> cases clenched <;> rfl

/-! ## The conditioner debounces each position as formed -/

@[simp] theorem conditionerWork_inputs_selector (v : Samples) (s : State) :
    (conditionerWork v s).inputs.selector =
      debounce (pendantDebounce s) (selectorPosition v.selector) s.inputs.selector := rfl

@[simp] theorem conditionerWork_inputs_increment (v : Samples) (s : State) :
    (conditionerWork v s).inputs.increment =
      debounce (pendantDebounce s) (incrementPosition v.incTen v.incHundred) s.inputs.increment := rfl

@[simp] theorem conditionerWork_inputs_enable (v : Samples) (s : State) :
    (conditionerWork v s).inputs.enable =
      debounce (pendantDebounce s) (enablePosition v.held v.clenched) s.inputs.enable := rfl

/-- Settles O32: the selector reads an axis exactly where that axis's line alone is ON, the increment and the enable by
their two lines each, and an expiry's sample debounces the three positions so formed. -/
theorem pendantPositionsFormed : Obligations.PendantPositionsFormed :=
  ⟨selectorPosition_eq_axis_iff, incrementPosition_eq, enablePosition_eq, fun v s =>
    ⟨conditionerWork_inputs_selector v s, conditionerWork_inputs_increment v s, conditionerWork_inputs_enable v s⟩⟩

end Sys2Proof.Machine

/-! # Tables: the write of staging bytes (R162) -/

namespace Sys2Proof.Machine

/-! ## The fields of a write's body -/

/-- A write's body is longer than its three bytes of table id and offset, and fits the record (R159). -/
theorem bodyLengthOk_writeBody (id : Byte) (off : Nat) {data : List Byte} (hlo : 1 ≤ data.length)
    (hhi : data.length ≤ 44) : bodyLengthOk .writeSegment (id :: be16 off ++ data) = true := by
  have hlen : (id :: be16 off ++ data).length = data.length + 3 := by
    simp only [List.length_append, List.length_cons, be16_length]
    omega
  simp only [bodyLengthOk, hlen, Bool.and_eq_true, decide_eq_true_eq]
  omega

@[simp] theorem u16At_cons_succ (b : Byte) (bs : List Byte) (i : Nat) : u16At (b :: bs) (i + 1) = u16At bs i := rfl

/-- The offset of a write reads back from its body, whatever data follow. -/
theorem u16At_writeBody (id : Byte) {off : Nat} (h : off < 65536) (data : List Byte) :
    u16At (id :: be16 off ++ data) 1 = off := by
  have hfront : u16At (be16 off ++ data) 0 = u16At (be16 off) 0 := rfl
  rw [List.cons_append, u16At_cons_succ, hfront, u16At_be16 h]

/-! ## What a write does, check by check -/

/-- The state after a write of `data` at `off`, with no copy of any other table and no active copy touched. -/
def stagingWritten (t : TableId) (off : Nat) (data : List Byte) (s : State) : State :=
  { s with store := { s.store with
      staging := s.store.staging.set t (overwrite (s.store.staging.get t) off data) } }

section
variable {s : State} {t : TableId}

theorem writeService_of_storing (h : s.store.state = .writing) (body : List Byte) :
    writeService body s = refuse .writeSegment .busy s := by
  simp [writeService, storing, h]

theorem writeService_of_not_standby (hs : s.store.state ≠ .writing) (hl : s.link.state ≠ .standby)
    (body : List Byte) : writeService body s = refuse .writeSegment .wrongState s := by
  simp [writeService, storing, hs, hl]

theorem writeService_of_no_table {body : List Byte} (hs : s.store.state ≠ .writing)
    (hl : s.link.state = .standby) (ht : tableOfId (byteAt body 0) = none) :
    writeService body s = refuse .writeSegment .badParam s := by
  simp [writeService, storing, hs, hl, ht]

theorem writeService_of_overrun {body : List Byte} (hs : s.store.state ≠ .writing)
    (hl : s.link.state = .standby) (ht : tableOfId (byteAt body 0) = some t)
    (hfit : ¬ u16At body 1 + (body.drop 3).length ≤ tableSizes.get t) :
    writeService body s = refuse .writeSegment .badParam s := by
  simp only [writeService, storing, hs, hl, ht, hfit, decide_false, Bool.false_eq_true, ne_eq, not_true_eq_false,
    if_false]

theorem writeService_of_fits {body : List Byte} (hs : s.store.state ≠ .writing)
    (hl : s.link.state = .standby) (ht : tableOfId (byteAt body 0) = some t)
    (hfit : u16At body 1 + (body.drop 3).length ≤ tableSizes.get t) :
    writeService body s =
      answer .writeSegment .ok [] (stagingWritten t (u16At body 1) (body.drop 3) s) := by
  simp only [writeService, storing, hs, hl, ht, hfit, decide_false, Bool.false_eq_true, ne_eq, not_true_eq_false,
    if_false, if_true, stagingWritten]

/-! ## The command -/

/-- A write announces nothing: it answers, and at most a staging copy changes. -/
theorem SettledLaw.writeService (h : SettledLaw s) (body : List Byte) : SettledLaw (writeService body s) := by
  by_cases hs : s.store.state = .writing
  · exact writeService_of_storing hs body ▸ h.refuse _ _
  by_cases hl : s.link.state = .standby
  case neg => exact writeService_of_not_standby hs hl body ▸ h.refuse _ _
  cases ht : tableOfId (byteAt body 0) with
  | none => exact writeService_of_no_table hs hl ht ▸ h.refuse _ _
  | some t =>
    by_cases hfit : u16At body 1 + (body.drop 3).length ≤ tableSizes.get t
    · exact writeService_of_fits hs hl ht hfit ▸ (h.withStore _).answer _ _ _
    · exact writeService_of_overrun hs hl ht hfit ▸ h.refuse _ _

/-- A WRITE_SEGMENT of a good length ends in the state its own work leaves. -/
theorem exec_writeSegment_of_length {body : List Byte} (h : SettledLaw s) (honline : s.link.state ≠ .offline)
    (hlen : bodyLengthOk .writeSegment body = true) :
    exec (.writeSegment body) s = .next (writeService body s) := by
  have hwork : blockService .writeSegment body [] s = writeService body s := judged_of_ok hlen _ s
  have hlaw : SettledLaw (blockService .writeSegment body [] s) := hwork ▸ h.writeService body
  calc exec (.writeSegment body) s
      = served (blockService .writeSegment body []) s := rfl
    _ = .next (blockService .writeSegment body [] s) := served_of_law honline hlaw
    _ = .next (writeService body s) := by rw [hwork]

end

/-- Settles O48, check by check in R162's order. -/
theorem writeSegmentWrites : Obligations.WriteSegmentWrites := by
  intro id off data s hsettled honline hlo hhi hoff
  rw [exec_writeSegment_of_length hsettled honline (bodyLengthOk_writeBody id off hlo hhi)]
  congr 1
  have hid : byteAt (id :: be16 off ++ data) 0 = id.toNat := rfl
  have hat : u16At (id :: be16 off ++ data) 1 = off := u16At_writeBody id hoff data
  have hdata : (id :: be16 off ++ data).drop 3 = data := rfl
  by_cases hstoring : s.store.state = .writing
  · rw [writeService_of_storing hstoring, if_pos hstoring]
    rfl
  rw [if_neg hstoring]
  by_cases hstandby : s.link.state = .standby
  case neg =>
    rw [writeService_of_not_standby hstoring hstandby, if_pos hstandby]
    rfl
  rw [if_neg (not_not.mpr hstandby)]
  cases ht : tableOfId id.toNat with
  | none => exact writeService_of_no_table hstoring hstandby (hid ▸ ht)
  | some t =>
    by_cases hfit : off + data.length ≤ tableSizes.get t
    · have hwrite := writeService_of_fits hstoring hstandby (hid ▸ ht) (by rwa [hat, hdata])
      rw [hat, hdata] at hwrite
      exact hwrite.trans (if_pos hfit).symm
    · exact (writeService_of_overrun hstoring hstandby (hid ▸ ht) (by rwa [hat, hdata])).trans (if_neg hfit).symm

end Sys2Proof.Machine

/-! # Frames: the parts of the state that each operation can touch -/

namespace Sys2Proof.Machine

-- Many short proofs that wait for the same case splitters: one after the other they need less memory.
set_option Elab.async false

/-! ## The parts of the state -/

/-- The fields of the whole state. -/
inductive Part
  | link | axes | comp | clamps | bank | gear | coolant | pendant | inputs | store | flags | seen | sent | pending
deriving DecidableEq

/-- `t` agrees with `s` in one part. -/
def Same (s t : State) : Part → Prop
  | .link => t.link = s.link
  | .axes => t.axes = s.axes
  | .comp => t.comp = s.comp
  | .clamps => t.clamps = s.clamps
  | .bank => t.bank = s.bank
  | .gear => t.gear = s.gear
  | .coolant => t.coolant = s.coolant
  | .pendant => t.pendant = s.pendant
  | .inputs => t.inputs = s.inputs
  | .store => t.store = s.store
  | .flags => t.flags = s.flags
  | .seen => t.seen = s.seen
  | .sent => t.sent = s.sent
  | .pending => t.pending = s.pending

/-- `t` differs from `s` at most in the listed parts. -/
def Within (l : List Part) (s t : State) : Prop := ∀ p, p ∉ l → Same s t p

theorem Same.refl (s : State) (p : Part) : Same s s p := by cases p <;> rfl

theorem Same.trans {s t u : State} {p : Part} (h : Same s t p) (k : Same t u p) : Same s u p := by
  cases p <;> exact Eq.trans k h

theorem Within.refl (l : List Part) (s : State) : Within l s s := fun p _ => .refl s p

theorem Within.trans {l : List Part} {s t u : State} (h : Within l s t) (k : Within l t u) : Within l s u :=
  fun p hp => (h p hp).trans (k p hp)

theorem Within.mono {l m : List Part} {s t : State} (h : Within l s t) (hlm : l ⊆ m) : Within m s t :=
  fun p hp => h p fun hl => hp (hlm hl)

/-- One operation after another reaches the parts of both. -/
theorem Within.comp {l m : List Part} {s t u : State} (h : Within l s t) (k : Within m t u) : Within (l ++ m) s u :=
  (h.mono (List.subset_append_left l m)).trans (k.mono (List.subset_append_right l m))

theorem Within.of_eq (l : List Part) {s t : State} (h : t = s) : Within l s t := h ▸ .refl l s

/-- A fold of operations within some parts stays within them. -/
theorem foldl_within {α : Type} {l : List Part} {f : State → α → State} (h : ∀ s a, Within l s (f s a)) (as : List α)
    (s : State) : Within l s (as.foldl f s) := by
  induction as generalizing s with
  | nil => exact .refl l s
  | cons a as ih => exact (h s a).trans (ih (f s a))

section
variable {l : List Part} {s t : State}

theorem Within.same_link (h : Within l s t) (hp : Part.link ∉ l := by exact of_decide_eq_true rfl) : t.link = s.link := h .link hp
theorem Within.same_axes (h : Within l s t) (hp : Part.axes ∉ l := by exact of_decide_eq_true rfl) : t.axes = s.axes := h .axes hp
theorem Within.same_comp (h : Within l s t) (hp : Part.comp ∉ l := by exact of_decide_eq_true rfl) : t.comp = s.comp := h .comp hp
theorem Within.same_clamps (h : Within l s t) (hp : Part.clamps ∉ l := by exact of_decide_eq_true rfl) : t.clamps = s.clamps := h .clamps hp
theorem Within.same_bank (h : Within l s t) (hp : Part.bank ∉ l := by exact of_decide_eq_true rfl) : t.bank = s.bank := h .bank hp
theorem Within.same_gear (h : Within l s t) (hp : Part.gear ∉ l := by exact of_decide_eq_true rfl) : t.gear = s.gear := h .gear hp
theorem Within.same_coolant (h : Within l s t) (hp : Part.coolant ∉ l := by exact of_decide_eq_true rfl) : t.coolant = s.coolant :=
  h .coolant hp
theorem Within.same_pendant (h : Within l s t) (hp : Part.pendant ∉ l := by exact of_decide_eq_true rfl) : t.pendant = s.pendant :=
  h .pendant hp
theorem Within.same_inputs (h : Within l s t) (hp : Part.inputs ∉ l := by exact of_decide_eq_true rfl) : t.inputs = s.inputs := h .inputs hp
theorem Within.same_store (h : Within l s t) (hp : Part.store ∉ l := by exact of_decide_eq_true rfl) : t.store = s.store := h .store hp
theorem Within.same_flags (h : Within l s t) (hp : Part.flags ∉ l := by exact of_decide_eq_true rfl) : t.flags = s.flags := h .flags hp
theorem Within.same_seen (h : Within l s t) (hp : Part.seen ∉ l := by exact of_decide_eq_true rfl) : t.seen = s.seen := h .seen hp
theorem Within.same_sent (h : Within l s t) (hp : Part.sent ∉ l := by exact of_decide_eq_true rfl) : t.sent = s.sent := h .sent hp
theorem Within.same_pending (h : Within l s t) (hp : Part.pending ∉ l := by exact of_decide_eq_true rfl) : t.pending = s.pending :=
  h .pending hp

end

/-! ## An update of one part -/

section
variable (s : State)

theorem within_link (x : Link) : Within [.link] s { s with link := x } := by
  intro p hp; cases p <;> first | rfl | exact absurd (by decide) hp
theorem within_axes (x : PerAxis AxisChannel) : Within [.axes] s { s with axes := x } := by
  intro p hp; cases p <;> first | rfl | exact absurd (by decide) hp
theorem within_comp (x : Compensation) : Within [.comp] s { s with comp := x } := by
  intro p hp; cases p <;> first | rfl | exact absurd (by decide) hp
theorem within_clamps (x : PerClamp ClampSequencer) : Within [.clamps] s { s with clamps := x } := by
  intro p hp; cases p <;> first | rfl | exact absurd (by decide) hp
theorem within_bank (x : Bank) : Within [.bank] s { s with bank := x } := by
  intro p hp; cases p <;> first | rfl | exact absurd (by decide) hp
theorem within_gear (x : Gearbox) : Within [.gear] s { s with gear := x } := by
  intro p hp; cases p <;> first | rfl | exact absurd (by decide) hp
theorem within_coolant (x : Coolant) : Within [.coolant] s { s with coolant := x } := by
  intro p hp; cases p <;> first | rfl | exact absurd (by decide) hp
theorem within_pendant (x : Pendant) : Within [.pendant] s { s with pendant := x } := by
  intro p hp; cases p <;> first | rfl | exact absurd (by decide) hp
theorem within_inputs (x : Inputs) : Within [.inputs] s { s with inputs := x } := by
  intro p hp; cases p <;> first | rfl | exact absurd (by decide) hp
theorem within_store (x : TableStore) : Within [.store] s { s with store := x } := by
  intro p hp; cases p <;> first | rfl | exact absurd (by decide) hp
theorem within_flags (x : FlagUnit) : Within [.flags] s { s with flags := x } := by
  intro p hp; cases p <;> first | rfl | exact absurd (by decide) hp
theorem within_seen (x : Seen) : Within [.seen] s { s with seen := x } := by
  intro p hp; cases p <;> first | rfl | exact absurd (by decide) hp
theorem within_sent (x : Sent) : Within [.sent] s { s with sent := x } := by
  intro p hp; cases p <;> first | rfl | exact absurd (by decide) hp
theorem within_pending (x : List Instr) : Within [.pending] s { s with pending := x } := by
  intro p hp; cases p <;> first | rfl | exact absurd (by decide) hp

theorem within_pendant_axes (x : Pendant) (y : PerAxis AxisChannel) :
    Within [.pendant, .axes] s { s with pendant := x, axes := y } :=
  (within_pendant s x).comp (within_axes { s with pendant := x } y)
theorem within_clamps_bank (x : PerClamp ClampSequencer) (y : Bank) :
    Within [.clamps, .bank] s { s with clamps := x, bank := y } :=
  (within_clamps s x).comp (within_bank { s with clamps := x } y)
theorem within_gear_pendant (x : Gearbox) (y : Pendant) :
    Within [.gear, .pendant] s { s with gear := x, pendant := y } :=
  (within_gear s x).comp (within_pendant { s with gear := x } y)

end

/-- What the operations of the valve bank reach. -/
theorem BankOnly.within {s t : State} (h : BankOnly s t) : Within [.clamps, .bank, .gear] s t := by
  intro p hp
  cases p
  case link => exact h.link
  case axes => exact h.axes
  case comp => exact h.comp
  case coolant => exact h.coolant
  case pendant => exact h.pendant
  case inputs => exact h.inputs
  case store => exact h.store
  case flags => exact h.flags
  case seen => exact h.seen
  case sent => exact h.sent
  case pending => exact h.pending
  all_goals exact absurd (by decide) hp

/-- What the coolant programs and triggers reach. -/
theorem CoolantOnly.within {s t : State} (h : CoolantOnly s t) : Within [.coolant, .flags] s t := by
  intro p hp
  cases p
  case link => exact h.link
  case axes => exact h.axes
  case comp => exact h.comp
  case clamps => exact h.clamps
  case bank => exact h.bank
  case gear => exact h.gear
  case pendant => exact h.pendant
  case inputs => exact h.inputs
  case store => exact h.store
  case seen => exact h.seen
  case sent => exact h.sent
  case pending => exact h.pending
  all_goals exact absurd (by decide) hp

/-! ## Flags -/

theorem raise_within (f : Flag) (s : State) : Within [.flags] s (raise f s) := within_flags s _

theorem raiseIf_within (c : Bool) (f : Flag) (s : State) : Within [.flags] s (raiseIf c f s) := by
  unfold raiseIf
  split
  · exact raise_within f s
  · exact .refl _ s

theorem lowerFlags_within (set : BitVec 35) (s : State) : Within [.flags] s (lowerFlags set s) := within_flags s _

theorem replaceMask_within (set : BitVec 35) (s : State) : Within [.flags] s (replaceMask set s) := within_flags s _

/-! ## Axis channels -/

theorem clearAxes_within (s : State) : Within [.axes] s (clearAxes s) := within_axes s _

theorem startAxes_within (s : State) : Within [.axes] s (startAxes s) := within_axes s _

theorem pushCommands_within (f : Option CycleFrame) (s : State) : Within [.axes] s (pushCommands f s) := within_axes s _

theorem axisWork_within (a : Axis) (s : State) : Within [.axes, .flags] s (axisWork a s) :=
  (((within_axes s _).comp (raiseIf_within _ _ _)).comp (raiseIf_within _ _ _)).comp (raiseIf_within _ _ _)
    |>.mono (by decide)

theorem axesWork_within (s : State) : Within [.axes, .flags] s (axesWork s) :=
  foldl_within (fun s a => axisWork_within a s) allAxes s

theorem absorbAxis_within (f : CycleFrame) (s : State) (a : Axis) : Within [.axes, .flags] s (absorbAxis f s a) := by
  unfold absorbAxis
  split
  · split
    · exact (raise_within _ s).mono (by decide)
    · exact (within_axes s _).mono (by decide)
  · exact .refl _ s

theorem absorbWork_within (f : CycleFrame) (s : State) : Within [.axes, .flags] s (absorbWork f s) :=
  foldl_within (absorbAxis_within f) allAxes s

/-! ## Compensation unit -/

theorem droopWork_within (s : State) : Within [.comp] s (droopWork s) := within_comp s _

theorem discardWindow_within (s : State) : Within [.comp] s (discardWindow s) := within_comp s _

theorem growthTrigger_within (hard : Bool) (s : State) : Within [.comp] s (growthTrigger hard s) := by
  obtain ⟨c, h⟩ := growthTrigger_compOnly hard s
  exact h ▸ within_comp s c

theorem enabledTrigger_within (bit : Nat) (s : State) : Within [.comp] s (enabledTrigger bit s) := by
  obtain ⟨c, h⟩ := enabledTrigger_compOnly bit s
  exact h ▸ within_comp s c

theorem growthUpdate_within (bs : List Byte) (m : Int) (s : State) : Within [.comp, .flags] s (growthUpdate bs m s) := by
  unfold growthUpdate
  split
  · exact ((within_comp s _).comp (raiseIf_within _ _ _)).comp (raise_within _ _) |>.mono (by decide)
  · exact .refl _ s

theorem windowEnd_within (bs : List Byte) (s : State) : Within [.comp, .flags] s (windowEnd bs s) := by
  have trigger (c : Bool) (t : State) : Within [.comp] t (if c then growthTrigger false t else t) := by
    split
    · exact growthTrigger_within false t
    · exact .refl _ t
  have due (d : Option Bool) (t : State) : Within [.comp] t (match d with
      | some hard => growthTrigger hard t
      | none => t) := by
    cases d with
    | some hard => exact growthTrigger_within hard t
    | none => exact .refl _ t
  unfold windowEnd
  dsimp only
  split
  · exact (discardWindow_within s).comp (raise_within _ _)
  · exact (((within_comp s _).comp (due _ _)).comp (trigger _ _)).comp (growthUpdate_within _ _ _) |>.mono (by decide)

theorem windowWork_within (s : State) : Within [.comp, .flags] s (windowWork s) := by
  unfold windowWork
  split
  · exact .refl _ s
  · split
    · exact .refl _ s
    · dsimp only
      split
      · exact (within_comp s _).comp (windowEnd_within _ _) |>.mono (by decide)
      · exact (within_comp s _).mono (by decide)

theorem stoppedTimerWork_within (ms : Nat) (s : State) : Within [.comp] s (stoppedTimerWork ms s) := within_comp s _

theorem growthSpindleStop_within (s : State) : Within [.comp] s (growthSpindleStop s) := within_comp s _

theorem growthSpindleStart_within (s : State) : Within [.comp] s (growthSpindleStart s) := by
  unfold growthSpindleStart
  split
  · split
    · exact enabledTrigger_within 2 s
    · exact .refl _ s
  · exact .refl _ s

theorem compensationCommitted_within (s : State) : Within [.comp] s (compensationCommitted s) :=
  ((within_comp s _).comp (growthTrigger_within true _)).comp (droopWork_within _) |>.mono (by decide)

/-! ## Pendant unit -/

theorem endGrant_within (s : State) : Within [.pendant, .axes, .flags] s (endGrant s) := by
  rcases endGrant_cases s with ⟨-, h⟩ | ⟨a, -, h⟩
  · exact .of_eq _ h
  · rw [h]
    exact (within_pendant_axes s _ _).comp (raise_within _ _)

theorem pendantClampFault_within (a : ClampAxis) (s : State) :
    Within [.pendant, .axes, .flags] s (pendantClampFault a s) := by
  unfold pendantClampFault
  split
  · exact endGrant_within s
  · split
    · exact (within_pendant s _).mono (by decide)
    · exact .refl _ s

theorem enterWaiting_within (a : Axis) (s : State) : Within [.pendant] s (enterWaiting a s) := within_pendant s _

theorem selectorChange_within (sel : Selector) (s : State) :
    Within [.pendant, .axes, .flags] s (selectorChange sel s) := by
  unfold selectorChange
  dsimp only
  cases sel with
  | axis a =>
    exact ((endGrant_within s).comp (within_pendant _ _)).comp (enterWaiting_within a _) |>.mono (by decide)
  | off => exact ((endGrant_within s).comp (within_pendant _ _)).mono (by decide)

theorem enableChange_within (e : Enable) (s : State) : Within [.pendant] s (enableChange e s) := within_pendant s _

theorem addDetent_within (limit : Nat) (d : Int) (s : State) : Within [.pendant, .flags] s (addDetent limit d s) :=
  (within_pendant s _).comp (raiseIf_within _ _ _)

theorem countDetent_within (sign : Int) (s : State) : Within [.pendant, .flags] s (countDetent sign s) := by
  unfold countDetent
  split
  · split
    · exact addDetent_within _ _ s
    · exact .refl _ s
  · exact .refl _ s

theorem countEdge_within (e : Int) (s : State) : Within [.pendant, .flags] s (countEdge e s) := by
  unfold countEdge
  dsimp only
  split
  · exact (within_pendant s _).comp (countDetent_within _ _) |>.mono (by decide)
  · exact (within_pendant s _).mono (by decide)

theorem phasesSeen_within (a b : Bool) (s : State) : Within [.pendant, .flags] s (phasesSeen a b s) := by
  unfold phasesSeen
  dsimp only
  split
  · exact (within_pendant s _).comp (countEdge_within _ _) |>.mono (by decide)
  · exact (within_pendant s _).comp (countEdge_within _ _) |>.mono (by decide)
  · exact (within_pendant s _).comp (raise_within _ _)
  · exact (within_pendant s _).mono (by decide)

theorem permitUpdate_within (taken : Option CycleFrame) (a : Axis) (s : State) :
    Within [.pendant] s (permitUpdate taken a s) := by
  cases taken with
  | some f => exact within_pendant s _
  | none => exact .refl _ s

theorem stillUpdate_within (taken : Option CycleFrame) (a : Axis) (s : State) :
    Within [.pendant] s (stillUpdate taken a s) := within_pendant s _

theorem grantAxis_within (a : Axis) (s : State) : Within [.pendant, .axes, .flags] s (grantAxis a s) :=
  (within_pendant_axes s _ _).comp (raise_within _ _)

theorem transferMove_within (bs : List Byte) (p : AxisParams) (a : Axis) (s : State) :
    Within [.pendant, .axes, .flags] s (transferMove bs p a s) :=
  (within_pendant_axes s _ _).comp (raiseIf_within _ _ _)

theorem transfer_within (s : State) : Within [.pendant, .axes, .flags] s (transfer s) := by
  unfold transfer
  split
  · split
    · exact transferMove_within _ _ _ s
    · exact .refl _ s
  · exact .refl _ s
  · exact .refl _ s

theorem permitWithdrawn_within (taken : Option CycleFrame) (s : State) :
    Within [.pendant, .axes, .flags] s (permitWithdrawn taken s) := by
  unfold permitWithdrawn
  split
  · split
    · exact .refl _ s
    · exact endGrant_within s
  · exact .refl _ s

theorem waitWork_within (taken held : Option CycleFrame) (s : State) :
    Within [.pendant, .axes, .flags] s (waitWork taken held s) := by
  unfold waitWork
  split
  · dsimp only
    split
    · exact ((permitUpdate_within _ _ s).comp (stillUpdate_within _ _ _)).comp (grantAxis_within _ _) |>.mono (by decide)
    · exact (permitUpdate_within _ _ s).comp (stillUpdate_within _ _ _) |>.mono (by decide)
  · exact .refl _ s
  · exact .refl _ s

theorem handwheelWork_within (taken held : Option CycleFrame) (s : State) :
    Within [.pendant, .axes, .flags] s (handwheelWork taken held s) := by
  unfold handwheelWork
  split
  · exact ((permitWithdrawn_within _ s).trans (waitWork_within _ _ _)).trans (transfer_within _)
  · split
    · exact (permitUpdate_within _ _ s).mono (by decide)
    · exact .refl _ s
    · exact .refl _ s

theorem strayWork_within (s : State) : Within [.pendant, .flags] s (strayWork s) := by
  unfold strayWork
  split
  · split
    · exact (within_pendant s _).comp (raise_within _ _)
    · exact .refl _ s
  · exact .refl _ s
  · exact .refl _ s

theorem knobsWork_within (s : State) : Within [.pendant, .flags] s (knobsWork s) :=
  (within_pendant s _).comp (raiseIf_within _ _ _)

theorem pendantCommitted_within (s : State) : Within [.pendant] s (pendantCommitted s) := within_pendant s _

/-! ## Coolant sequencer -/

theorem announce_within (src : TriggerSource) (s : State) : Within [.coolant] s (announce src s) := within_coolant s _

theorem announceIf_within (c : Bool) (src : TriggerSource) (s : State) : Within [.coolant] s (announceIf c src s) := by
  unfold announceIf
  split
  · exact announce_within src s
  · exact .refl _ s

theorem advance_within (n : Nat) (p : Fin 8) (i : Nat) (s : State) : Within [.coolant, .flags] s (advance n p i s) :=
  (advance_coolantOnly n p i s).within

theorem settleTriggers_within (order : List TriggerSource) (s : State) :
    Within [.coolant, .flags] s (settleTriggers order s) := (settleTriggers_coolantOnly order s).within

theorem triggerProgram_within (p : Fin 8) (s : State) : Within [.coolant, .flags] s (triggerProgram p s) :=
  (triggerProgram_coolantOnly p s).within

theorem startProgram_within (p : Fin 8) (s : State) : Within [.coolant, .flags] s (startProgram p s) :=
  advance_within _ _ _ s

theorem startNext_within (s : State) : Within [.coolant, .flags] s (startNext s) := by
  unfold startNext
  split
  · exact (within_coolant s _).comp (startProgram_within _ _) |>.mono (by decide)
  · exact .refl _ s

theorem completeStep_within (r : Run) (s : State) : Within [.coolant, .flags] s (completeStep r s) :=
  (within_coolant s _).comp (advance_within _ _ _ _) |>.mono (by decide)

theorem waitEnds_within (r : Run) (s : State) : Within [.coolant, .flags] s (waitEnds r s) := by
  unfold waitEnds
  split
  · exact .refl _ s
  · split
    · exact completeStep_within r s
    · exact (within_coolant s _).mono (by decide)

theorem coolantWaitWork_within (s : State) : Within [.coolant, .flags] s (coolantWaitWork s) := by
  unfold coolantWaitWork
  split
  · split
    · exact waitEnds_within _ s
    · exact .refl _ s
  · exact .refl _ s

theorem pauseEnds_within (s : State) : Within [.coolant, .flags] s (pauseEnds s) := by
  unfold pauseEnds
  split
  · exact completeStep_within _ s
  · exact .refl _ s

theorem waitCeilingEnds_within (s : State) : Within [.coolant, .flags] s (waitCeilingEnds s) := by
  unfold waitCeilingEnds
  split
  · exact ((within_coolant s _).comp (raise_within _ _)).comp (startNext_within _) |>.mono (by decide)
  · exact .refl _ s

theorem abortPrograms_within (s : State) : Within [.coolant] s (abortPrograms s) := within_coolant s _

theorem stopCoolant_within (s : State) : Within [.coolant] s (stopCoolant s) := within_coolant s _

theorem coolantRest_within (s : State) : Within [.coolant] s (coolantRest s) := within_coolant s _

theorem coolantResume_within (s : State) : Within [.coolant] s (coolantResume s) := within_coolant s _

theorem startLube_within (s : State) : Within [.coolant] s (startLube s) := within_coolant s _

theorem lubeDue_within (s : State) : Within [.coolant] s (lubeDue s) :=
  (startLube_within s).trans (announce_within _ _)

theorem lubeIntervalEnds_within (s : State) : Within [.coolant] s (lubeIntervalEnds s) := by
  unfold lubeIntervalEnds
  split
  · exact lubeDue_within s
  · exact .refl _ s
  · exact .refl _ s

theorem travelWork_within (s : State) : Within [.coolant] s (travelWork s) := by
  unfold travelWork
  split
  · exact .refl _ s
  · dsimp only
    split
    · exact .refl _ s
    · split
      · exact (within_coolant s _).trans (lubeDue_within _)
      · exact within_coolant s _

theorem tankWork_within (s : State) : Within [.coolant, .flags] s (tankWork s) := by
  unfold tankWork
  split
  · exact .refl _ s
  · dsimp only
    split
    · exact ((within_coolant s _).comp (raise_within _ _)).comp (announce_within _ _) |>.mono (by decide)
    · exact (within_coolant s _).mono (by decide)

theorem stopBitWork_within (f : CycleFrame) (s : State) : Within [.coolant] s (stopBitWork f s) := by
  unfold stopBitWork
  split
  · exact stopCoolant_within s
  · exact .refl _ s

theorem requestsWork_within (f : CycleFrame) (s : State) : Within [.coolant] s (requestsWork f s) :=
  ((((announceIf_within _ _ s).trans (announceIf_within _ _ _)).trans (announceIf_within _ _ _)).trans
    (announceIf_within _ _ _)).trans (within_coolant _ _)

theorem programsCommitted_within (s : State) : Within [.coolant] s (programsCommitted s) := abortPrograms_within s

theorem triggersCommitted_within (s : State) : Within [.coolant] s (triggersCommitted s) := by
  unfold triggersCommitted
  dsimp only
  split
  · exact (startLube_within s).trans (within_coolant _ _)
  · exact startLube_within s

/-! ## Gearbox and spindle -/

theorem enterEngaged_within (r : Range) (s : State) : Within [.gear] s (enterEngaged r s) := within_gear s _

theorem enterUnknown_within (s : State) : Within [.gear] s (enterUnknown s) := within_gear s _

theorem reevaluate_within (s : State) : Within [.gear] s (reevaluate s) := by
  rcases reevaluate_cases s with ⟨r, -, h⟩ | ⟨-, h⟩
  · exact h ▸ enterEngaged_within r s
  · exact h ▸ enterUnknown_within s

theorem reevaluateKeeping_within (s : State) : Within [.gear] s (reevaluateKeeping s) := by
  unfold reevaluateKeeping
  split
  · split
    · exact .refl _ s
    · exact enterEngaged_within _ s
  · exact enterUnknown_within s

theorem beginChange_within (r : Range) (s : State) : Within [.gear, .coolant] s (beginChange r s) :=
  (within_gear s _).comp (announce_within _ _)

theorem actOnRequest_within (r : Range) (s : State) : Within [.gear, .coolant, .flags] s (actOnRequest r s) := by
  unfold actOnRequest
  split
  · split
    · exact (raise_within _ s).mono (by decide)
    · exact (beginChange_within r s).mono (by decide)
  · exact (beginChange_within r s).mono (by decide)
  all_goals first
    | exact (within_gear s _).mono (by decide)
    | exact (raise_within _ s).mono (by decide)

theorem rangeRequestWork_within (f : CycleFrame) (s : State) :
    Within [.gear, .coolant, .flags] s (rangeRequestWork f s) := by
  unfold rangeRequestWork
  dsimp only
  split
  · split
    · exact (within_gear s _).comp (actOnRequest_within _ _) |>.mono (by decide)
    · exact (within_gear s _).mono (by decide)
  · exact (within_gear s _).mono (by decide)

theorem forksChanged_within (f : PerFork Bool) (s : State) : Within [.gear, .flags] s (forksChanged f s) := by
  have lost (t : State) : Within [.gear, .flags] t (raise .gearFault (enterUnknown
      { t with gear := { t.gear with forkLoss := true } })) :=
    ((within_gear t _).comp (enterUnknown_within _)).comp (raise_within _ _) |>.mono (by decide)
  have dropped (t : State) : Within [.gear, .flags] t (raise .gearFault
      { t with gear := { t.gear with engaged := none } }) := (within_gear t _).comp (raise_within _ _)
  have copied : Within [.gear, .flags] s { s with gear := { s.gear with forks := f } } :=
    (within_gear s _).mono (by decide)
  unfold forksChanged
  dsimp only
  split
  · split
    · exact copied.trans (lost _)
    · exact copied
  iterate 3
    split
    · exact copied.trans (dropped _)
    · exact copied
  · split
    · exact copied.trans ((within_gear _ _).mono (by decide))
    · exact copied
  · exact copied
  · exact copied

theorem enterDraining_within (s : State) : Within [.gear] s (enterDraining s) := by
  unfold enterDraining
  split
  · split
    · exact within_gear s _
    · exact .refl _ s
  · exact .refl _ s

theorem spindleOutputWork_within (held : Option CycleFrame) (s : State) :
    Within [.gear] s (spindleOutputWork held s) := (within_gear s _).trans (enterDraining_within _)

theorem interlockWork_within (taken : Option CycleFrame) (s : State) : Within [.gear] s (interlockWork taken s) := by
  unfold interlockWork
  split
  · split
    · exact within_gear s _
    · exact .refl _ s
  · exact .refl _ s

theorem spindleHeldWork_within (taken : Option CycleFrame) (s : State) :
    Within [.flags] s (spindleHeldWork taken s) := by
  unfold spindleHeldWork
  split
  · exact raiseIf_within _ _ s
  · exact .refl _ s

theorem spindleAnnounceWork_within (s : State) : Within [.gear, .comp, .coolant] s (spindleAnnounceWork s) := by
  unfold spindleAnnounceWork
  dsimp only
  split
  · exact ((within_gear s _).comp (growthSpindleStart_within _)).comp (announce_within _ _)
  · split
    · exact ((within_gear s _).comp (growthSpindleStop_within _)).comp (announce_within _ _)
    · exact (within_gear s _).mono (by decide)

theorem wiggleEnds_within (s : State) : Within [.gear] s (wiggleEnds s) := by
  unfold wiggleEnds
  split
  · exact within_gear s _
  · exact .refl _ s

/-! ## Valve bank and clamps -/

/-- The three parts that the operations of the valve bank reach. -/
abbrev bankParts : List Part := [.clamps, .bank, .gear]

/-- What the fault of a clamp can reach: the bank's parts, and the pendant unit's grant with its axis and flags. -/
abbrev faultParts : List Part := [.clamps, .bank, .gear, .flags, .pendant, .axes]

theorem setClamp_within (a : ClampAxis) (st : ClampState) (c : Option Nat) (s : State) :
    Within [.clamps] s (setClamp a st c s) := within_clamps s _

theorem setSettle_within (a : ClampAxis) (n : Nat) (s : State) : Within [.clamps] s (setSettle a n s) :=
  within_clamps s _

theorem withdraw_within (c : Claimant) (s : State) : Within [.bank] s (withdraw c s) := within_bank s _

theorem tryGrant_within (s : State) : Within bankParts s (tryGrant s) := (tryGrant_bankOnly s).within

theorem claim_within (c : Claimant) (s : State) : Within bankParts s (claim c s) := (claim_bankOnly c s).within

theorem release_within (c : Claimant) (s : State) : Within bankParts s (release c s) := (release_bankOnly c s).within

theorem recoverDropped_within (order : List ClampAxis) (s : State) : Within bankParts s (recoverDropped order s) :=
  (recoverDropped_bankOnly order s).within

theorem dropClamps_within (s : State) : Within [.clamps, .bank] s (dropClamps s) :=
  within_clamps_bank s _ _

theorem clampToFault_within (a : ClampAxis) (s : State) : Within faultParts s (clampToFault a s) :=
  ((((setClamp_within a _ _ s).comp (raise_within _ _)).comp (withdraw_within _ _)).comp
    (pendantClampFault_within a _)).comp (release_within _ _) |>.mono (by decide)

theorem gearToFault_within (s : State) : Within [.clamps, .bank, .gear, .flags] s (gearToFault s) :=
  ((within_gear s _).comp (raise_within _ _)).comp (release_within _ _) |>.mono (by decide)

theorem abortTransit_within (s : State) : Within faultParts s (abortTransit s) := by
  unfold abortTransit
  split
  · exact clampToFault_within _ s
  · exact (gearToFault_within s).mono (by decide)
  · exact .refl _ s

theorem pressureWork_within (s : State) : Within faultParts s (pressureWork s) := by
  unfold pressureWork
  split
  · exact .refl _ s
  · dsimp only
    split
    · exact (within_bank s _).mono (by decide)
    · split
      · exact (within_bank s _).mono (by decide)
      · split
        · exact (within_bank s _).comp (tryGrant_within _) |>.mono (by decide)
        · exact ((within_bank s _).comp (raise_within _ _)).comp (abortTransit_within _) |>.mono (by decide)

theorem transitWork_within (a : ClampAxis) (want : SwitchReading) (done : ClampState) (s : State) :
    Within [.clamps, .bank, .gear, .flags] s (transitWork a want done s) := by
  unfold transitWork
  split
  · dsimp only
    split
    · exact ((setClamp_within a _ _ s).comp (raise_within _ _)).comp (release_within _ _) |>.mono (by decide)
    · exact (setSettle_within a _ s).mono (by decide)
  · exact (setSettle_within a _ s).mono (by decide)

theorem clampInForceWork_within (wanted : Bool) (a : ClampAxis) (s : State) :
    Within faultParts s (clampInForceWork wanted a s) := by
  have claimed (st : ClampState) : Within faultParts s (claim (.clamp a) (setClamp a st none s)) :=
    (setClamp_within a _ _ s).comp (claim_within _ _) |>.mono (by decide)
  have withdrawn (st : ClampState) : Within faultParts s (setClamp a st none (withdraw (.clamp a) s)) :=
    (withdraw_within _ s).comp (setClamp_within a _ _ _) |>.mono (by decide)
  unfold clampInForceWork
  dsimp only
  split
  · split
    · exact clampToFault_within a s
    · split
      · exact claimed _
      · exact .refl _ s
  · split
    · exact .refl _ s
    · exact withdrawn _
  · exact (transitWork_within a _ _ s).mono (by decide)
  · split
    · exact clampToFault_within a s
    · split
      · split
        · exact claimed _
        · exact (setSettle_within a _ s).mono (by decide)
      · exact (setSettle_within a _ s).mono (by decide)
  · split
    · exact clampToFault_within a s
    · split
      · exact withdrawn _
      · exact .refl _ s
  · exact (transitWork_within a _ _ s).mono (by decide)
  all_goals exact .refl _ s

theorem clampWork_within (held : Option CycleFrame) (a : ClampAxis) (s : State) :
    Within faultParts s (clampWork held a s) := by
  unfold clampWork
  split
  · exact clampInForceWork_within _ a s
  · split
    · exact .refl _ s
    · split
      · exact clampToFault_within a s
      · exact .refl _ s

theorem clampFirstWork_within (order : List ClampAxis) (s : State) :
    Within [.inputs, .clamps, .bank, .gear] s (clampFirstWork order s) := by
  unfold clampFirstWork
  split
  · exact ((within_inputs s _).comp (within_clamps _ _)).comp (recoverDropped_within order _) |>.mono (by decide)
  · exact .refl _ s

theorem clampCeilingEnds_within (bounded : ClampState) (a : ClampAxis) (s : State) :
    Within faultParts s (clampCeilingEnds bounded a s) := by
  unfold clampCeilingEnds
  dsimp only
  split
  · exact clampToFault_within a s
  · exact .refl _ s

theorem clearClampFault_within (a : ClampAxis) (s : State) : Within [.clamps] s (clearClampFault a s) :=
  setClamp_within a _ _ s

theorem enterValveWait_within (s : State) : Within bankParts s (enterValveWait s) :=
  (within_gear s _).comp (claim_within _ _) |>.mono (by decide)

theorem completeShift_within (s : State) :
    Within [.clamps, .bank, .gear, .coolant, .flags, .comp] s (completeShift s) := by
  have shifted (d : Bool) (t : State) : Within [.comp] t (if d then enabledTrigger 1 t else t) := by
    split
    · exact enabledTrigger_within 1 t
    · exact .refl _ t
  have begun (q : Option Range) (t : State) : Within [.gear, .coolant, .flags] t (match q with
      | some q => actOnRequest q t
      | none => t) := by
    cases q with
    | some q => exact actOnRequest_within q t
    | none => exact .refl _ t
  unfold completeShift
  split
  · exact .refl _ s
  · exact ((((((within_gear s _).comp (raise_within _ _)).comp (announce_within _ _)).comp
      (settleTriggers_within [] _)).comp (shifted _ _)).comp (release_within _ _)).comp (begun _ _) |>.mono (by decide)

theorem gearStageWork_within (s : State) :
    Within [.clamps, .bank, .gear, .coolant, .flags, .comp] s (gearStageWork s) := by
  unfold gearStageWork
  split
  · exact .refl _ s
  · dsimp only
    split
    · split
      · split
        · exact .refl _ s
        · exact (enterEngaged_within _ s).mono (by decide)
      · exact .refl _ s
    · split
      · exact (enterValveWait_within s).mono (by decide)
      · exact .refl _ s
    · split
      · split
        · exact (within_gear s _).comp (completeShift_within _) |>.mono (by decide)
        · exact (within_gear s _).mono (by decide)
      · exact (within_gear s _).mono (by decide)
    all_goals exact .refl _ s

theorem gearLeaveWork_within (s : State) : Within [.gear, .bank] s (gearLeaveWork s) := by
  unfold gearLeaveWork
  have left (t : State) : Within [.gear, .bank] t (reevaluate (withdraw .gearbox
      { t with gear := { stopGearTimers t.gear with target := none } })) :=
    ((within_gear t _).comp (withdraw_within _ _)).comp (reevaluate_within _) |>.mono (by decide)
  have cleared : Within [.gear, .bank] s { s with gear := { s.gear with next := none } } :=
    (within_gear s _).mono (by decide)
  dsimp only
  split
  · split
    all_goals first
      | exact cleared.trans (left _)
      | exact cleared
  · exact .refl _ s

theorem gearHalt_within (s : State) : Within [.gear] s (gearHalt s) := by
  unfold gearHalt
  dsimp only
  split
  all_goals first
    | exact (within_gear s _).trans (reevaluate_within _)
    | exact within_gear s _

theorem abandonChange_within (s : State) : Within bankParts s (abandonChange s) := (abandonChange_bankOnly s).within

theorem gearCommitted_within (s : State) : Within bankParts s (gearCommitted s) := (gearCommitted_bankOnly s).within

theorem forkFirstWork_within (s : State) : Within bankParts s (forkFirstWork s) := by
  have first (t : State) : Within bankParts t { t with gear :=
      { t.gear with forks := forkValues t, forksDelivered := true } } := (within_gear t _).mono (by decide)
  unfold forkFirstWork
  split
  · dsimp only
    split
    all_goals first
      | exact (first s).trans ((reevaluateKeeping_within _).mono (by decide))
      | exact (first s).trans (abandonChange_within _)
      | exact (first s).trans ((reevaluate_within _).mono (by decide))
  · exact .refl _ s

theorem forkWork_within (i : ForkSwitch) (s : State) : Within [.gear, .flags] s (forkWork i s) := by
  unfold forkWork
  split
  · split
    · split
      · exact .refl _ s
      · exact forksChanged_within _ s
    · exact .refl _ s
  · exact .refl _ s

theorem drainCeilingEnds_within (s : State) : Within bankParts s (drainCeilingEnds s) := by
  unfold drainCeilingEnds
  split
  · exact enterValveWait_within s
  · exact .refl _ s

theorem shiftCeilingEnds_within (s : State) : Within [.clamps, .bank, .gear, .flags] s (shiftCeilingEnds s) := by
  unfold shiftCeilingEnds
  split
  · exact gearToFault_within s
  · exact .refl _ s

theorem dropAbsentClaim_within (s : State) (a : ClampAxis) : Within [.bank] s (dropAbsentClaim s a) := by
  unfold dropAbsentClaim
  split
  · exact withdraw_within _ s
  · exact .refl _ s

theorem clampTableCommitted_within (old : Option (List Byte)) (order : List ClampAxis) (s : State) :
    Within bankParts s (clampTableCommitted old order s) := by
  have released (t : State) : Within bankParts t (match t.bank.holder with
      | some (.clamp a) => if clampAbsent t a then release (.clamp a) t else t
      | some .gearbox | none => t) := by
    split
    · split
      · exact release_within _ t
      · exact .refl _ t
    all_goals exact .refl _ t
  unfold clampTableCommitted
  exact (((foldl_within dropAbsentClaim_within allClamps s).comp (within_clamps_bank _ _ _)).comp
    (released _)).comp (recoverDropped_within order _) |>.mono (by decide)

/-! ## Input conditioner and hand-over -/

theorem conditionerWork_within (v : Samples) (s : State) : Within [.inputs] s (conditionerWork v s) := within_inputs s _

theorem handSelector_within (s : State) : Within [.pendant, .axes, .flags] s (handSelector s) := by
  unfold handSelector
  split
  · exact selectorChange_within _ s
  · exact .refl _ s

theorem handEnable_within (s : State) : Within [.pendant] s (handEnable s) := by
  unfold handEnable
  split
  · exact enableChange_within _ s
  · exact .refl _ s

theorem handPanel_within (s : State) : Within [.pendant, .coolant] s (handPanel s) :=
  ((((within_pendant s _).comp (announceIf_within _ _ _)).comp (announceIf_within _ _ _)).comp
    (announceIf_within _ _ _)).comp (announceIf_within _ _ _) |>.mono (by decide)

theorem pendantFirstWork_within (s : State) : Within [.pendant, .axes, .flags, .coolant] s (pendantFirstWork s) := by
  unfold pendantFirstWork
  split
  · exact (((within_pendant s _).comp (handSelector_within _)).comp (handEnable_within _)).comp (handPanel_within _)
      |>.mono (by decide)
  · exact .refl _ s

theorem delivered_within {l : List Part} {work : State → State} (h : ∀ s, Within l s (work s)) (s : State) :
    Within l s (delivered work s) := by
  unfold delivered
  split
  · exact h s
  · exact .refl l s

/-! ## Link controller -/

/-- What the link controller's transitions reach: every block's own state, but no input, table, frame or answer. -/
abbrev blockParts : List Part := [.link, .axes, .comp, .clamps, .bank, .gear, .coolant, .pendant, .flags]

theorem enterRest_within (st : LinkState) (s : State) : Within blockParts s (enterRest st s) :=
  (((((((settleTriggers_within [] s).comp (within_link _ _)).comp (endGrant_within _)).comp (clearAxes_within _)).comp
    (discardWindow_within _)).comp (dropClamps_within _)).comp (gearHalt_within _)).comp (coolantRest_within _)
    |>.mono (by decide)

theorem enterHalted_within (cause : HaltCause) (s : State) : Within blockParts s (enterHalted cause s) :=
  ((enterRest_within .halted s).comp (within_link _ _)).comp (raise_within _ _) |>.mono (by decide)

theorem halt_within (cause : HaltCause) (s : State) : Within blockParts s (halt cause s) := by
  unfold halt
  split
  · exact enterHalted_within cause s
  · exact .refl _ s

theorem enterOffline_within (s : State) : Within blockParts s (enterOffline s) :=
  (enterRest_within .offline s).comp (within_link _ _) |>.mono (by decide)

theorem enterStandby_within (order : List ClampAxis) (s : State) :
    Within [.link, .axes, .coolant, .clamps, .bank, .gear] s (enterStandby order s) :=
  (((within_link s _).comp (clearAxes_within _)).comp (coolantResume_within _)).comp (recoverDropped_within order _)

theorem enterActivating_within (p : Period) (s : State) : Within [.link, .axes] s (enterActivating p s) :=
  (within_link s _).comp (clearAxes_within _)

theorem enterRunning_within (s : State) : Within [.link, .axes, .gear, .pendant] s (enterRunning s) :=
  ((within_link s _).comp (startAxes_within _)).comp (within_gear_pendant _ _ _)

theorem leaveRunning_within (st : LinkState) (s : State) :
    Within [.link, .pendant, .axes, .flags, .coolant] s (leaveRunning st s) :=
  ((within_link s _).comp (endGrant_within _)).comp (announce_within _ _)

theorem enterLinkLost_within (s : State) : Within [.link, .pendant, .axes, .flags, .coolant] s (enterLinkLost s) := by
  unfold enterLinkLost
  split
  · exact (leaveRunning_within .linkLost s).comp (raise_within _ _) |>.mono (by decide)
  · exact (within_link s _).comp (raise_within _ _) |>.mono (by decide)

theorem estopOpens_within (s : State) : Within (.inputs :: blockParts) s (estopOpens s) := by
  unfold estopOpens
  dsimp only
  split
  · exact (within_inputs s _).comp (enterHalted_within .estop _)
  · exact (within_inputs s _).mono (by decide)

theorem estopCloses_within (s : State) : Within [.inputs] s (estopCloses s) := within_inputs s _

theorem activationEnds_within (s : State) : Within blockParts s (activationEnds s) := by
  unfold activationEnds
  split
  · exact (enterStandby_within [] s).comp (raise_within _ _) |>.mono (by decide)
  · exact .refl _ s

theorem acceptFrame_within (f : CycleFrame) (s : State) : Within [.link, .flags] s (acceptFrame f s) :=
  ((within_link s _).comp (raiseIf_within _ _ _)).comp (raiseIf_within _ _ _) |>.mono (by decide)

theorem leaveOffline_within (order : List ClampAxis) (s : State) : Within blockParts s (leaveOffline order s) := by
  have entered : Within blockParts s (enterStandby order { s with link := { s.link with missCount := 0 } }) :=
    (within_link s _).comp (enterStandby_within order _) |>.mono (by decide)
  unfold leaveOffline
  dsimp only
  split
  · exact entered.trans (enterHalted_within .estop _)
  · exact entered

theorem frameArrives_within (bytes : List Byte) (order : List ClampAxis) (s : State) :
    Within blockParts s (frameArrives bytes order s) := by
  unfold frameArrives
  split
  · exact .refl _ s
  · split
    · exact (acceptFrame_within _ s).comp (leaveOffline_within order _) |>.mono (by decide)
    · exact (acceptFrame_within _ s).mono (by decide)

theorem returnArrives_within (bytes : List Byte) (s : State) : Within blockParts s (returnArrives bytes s) := by
  unfold returnArrives
  split
  · exact .refl _ s
  · dsimp only
    split
    · exact (within_link s _).comp (halt_within .driveFault _) |>.mono (by decide)
    · split
      · exact (within_link s _).comp (enterRunning_within _) |>.mono (by decide)
      · exact (within_link s _).mono (by decide)

theorem missTransition_within (s : State) : Within blockParts s (missTransition s) := by
  unfold missTransition
  split
  all_goals first
    | exact enterOffline_within s
    | exact (enterLinkLost_within s).mono (by decide)
    | exact .refl _ s

theorem missWork_within (s : State) : Within blockParts s (missWork s) := by
  unfold missWork
  split
  · exact .refl _ s
  · dsimp only
    split
    · exact (within_link s _).comp (missTransition_within _) |>.mono (by decide)
    · exact (within_link s _).mono (by decide)

theorem slotWork_within (taken : Option CycleFrame) (s : State) : Within blockParts s (slotWork taken s) := by
  cases taken with
  | some f => exact (within_link s _).mono (by decide)
  | none => exact missWork_within s

theorem chainWork_within (s : State) : Within blockParts s (chainWork s) := by
  have counted (l : Link) : Within blockParts s { s with link := l } := (within_link s l).mono (by decide)
  unfold chainWork
  split
  · split
    · exact counted _
    · dsimp only
      split
      · exact (counted _).trans (halt_within .driveChainLost _)
      · exact counted _
  · exact counted _

theorem endWork_within (order : List ClampAxis) (s : State) : Within blockParts s (endWork order s) := by
  have standby : Within blockParts s (raise .standbyReached (enterStandby order s)) :=
    (enterStandby_within order s).comp (raise_within _ _) |>.mono (by decide)
  unfold endWork
  split
  · split
    · exact standby
    · split
      · exact standby
      · exact (enterOffline_within s).comp (raise_within _ _) |>.mono (by decide)
    all_goals exact .refl _ s
  · exact .refl _ s

theorem followingWork_within (s : State) : Within blockParts s (followingWork s) := by
  unfold followingWork
  split
  · exact halt_within .followingError s
  · exact .refl _ s

theorem linkWork_within (taken : Option CycleFrame) (order : List ClampAxis) (s : State) :
    Within blockParts s (linkWork taken order s) :=
  (((slotWork_within taken s).trans (chainWork_within _)).trans (endWork_within order _)).trans (followingWork_within _)

end Sys2Proof.Machine

/-! # Frames of the services and of an expiry, and what every step keeps -/

namespace Sys2Proof.Machine

-- Many short proofs that wait for the same case splitters: one after the other they need less memory.
set_option Elab.async false

/-! ## Services -/

theorem answer_within (k : ServiceKind) (st : Status) (body : List Byte) (s : State) :
    Within [.sent] s (answer k st body s) := within_sent s _

theorem refuse_within (k : ServiceKind) (st : Status) (s : State) : Within [.sent] s (refuse k st s) :=
  answer_within k st [] s

theorem answerUnknown_within (kind : Byte) (s : State) : Within [.sent] s (answerUnknown kind s) := within_sent s _

theorem judged_within {l : List Part} (k : ServiceKind) (body : List Byte) {act : State → State}
    (h : ∀ s, Within l s (act s)) (hl : Part.sent ∈ l) (s : State) : Within l s (judged k body act s) := by
  unfold judged
  split
  · exact h s
  · exact (refuse_within k _ s).mono (by simpa using hl)

theorem startService_within (body : List Byte) (s : State) : Within [.link, .axes, .sent] s (startService body s) := by
  have refused (st : Status) : Within [.link, .axes, .sent] s (refuse .start st s) :=
    (refuse_within _ _ s).mono (by decide)
  unfold startService
  split
  · exact refused _
  · split
    · exact refused _
    · split
      · exact refused _
      · split
        · exact (enterActivating_within _ s).comp (answer_within _ _ _ _)
        · exact refused _

theorem stopService_within (s : State) :
    Within [.link, .pendant, .axes, .flags, .coolant, .sent] s (stopService s) := by
  unfold stopService
  split
  · exact (leaveRunning_within _ s).comp (answer_within _ _ _ _)
  · exact (refuse_within _ _ s).mono (by decide)

theorem recoverService_within (order : List ClampAxis) (s : State) :
    Within [.link, .axes, .coolant, .clamps, .bank, .gear, .sent] s (recoverService order s) := by
  unfold recoverService
  split
  · exact ((within_link s _).comp (enterStandby_within order _)).comp (answer_within _ _ _ _) |>.mono (by decide)
  · exact (refuse_within _ _ s).mono (by decide)

theorem restartService_within (s : State) : Within [.sent] s (restartService s) := by
  unfold restartService
  split
  · exact refuse_within _ _ s
  · split
    · exact answer_within _ _ _ s
    · exact refuse_within _ _ s

/-- The link controller's services reach the blocks and the answer. -/
theorem linkService_within (k : ServiceKind) (body : List Byte) (order : List ClampAxis) (s : State) :
    Within (.sent :: blockParts) s (linkService k body order s) := by
  unfold linkService
  cases k
  case start =>
    exact judged_within _ _ (fun s => (startService_within body s).mono (by decide)) (by decide) s
  case stop => exact judged_within _ _ (fun s => (stopService_within s).mono (by decide)) (by decide) s
  case recover =>
    exact judged_within _ _ (fun s => (recoverService_within order s).mono (by decide)) (by decide) s
  case restart => exact judged_within _ _ (fun s => (restartService_within s).mono (by decide)) (by decide) s
  all_goals exact .refl _ s

theorem writeService_within (body : List Byte) (s : State) : Within [.store, .sent] s (writeService body s) := by
  have refused (st : Status) : Within [.store, .sent] s (refuse .writeSegment st s) :=
    (refuse_within _ _ s).mono (by decide)
  unfold writeService
  split
  · exact refused _
  · split
    · exact refused _
    · split
      · exact refused _
      · dsimp only
        split
        · exact (within_store s _).comp (answer_within _ _ _ _)
        · exact refused _

theorem setActive_within (t : TableId) (img : Image) (s : State) : Within [.store] s (setActive t img s) :=
  within_store s _

theorem commitEffects_within (t : TableId) (old : Option (List Byte)) (order : List ClampAxis) (s : State) :
    Within [.comp, .clamps, .bank, .gear, .coolant, .pendant] s (commitEffects t old order s) := by
  cases t
  case compensation => exact (compensationCommitted_within s).mono (by decide)
  case gear => exact (gearCommitted_within s).mono (by decide)
  case clamp => exact (clampTableCommitted_within old order s).mono (by decide)
  case programs => exact (programsCommitted_within s).mono (by decide)
  case triggers => exact (triggersCommitted_within s).mono (by decide)
  case pendant => exact (pendantCommitted_within s).mono (by decide)
  all_goals exact .refl _ s

theorem commitTable_within (t : TableId) (bs : List Byte) (order : List ClampAxis) (s : State) :
    Within [.store, .comp, .clamps, .bank, .gear, .coolant, .pendant, .sent] s (commitTable t bs order s) :=
  ((setActive_within t _ s).comp (commitEffects_within t _ order _)).comp (answer_within _ _ _ _)

theorem commitService_within (body : List Byte) (order : List ClampAxis) (s : State) :
    Within [.store, .comp, .clamps, .bank, .gear, .coolant, .pendant, .sent] s (commitService body order s) := by
  have answered (st : Status) (b : List Byte) :
      Within [.store, .comp, .clamps, .bank, .gear, .coolant, .pendant, .sent] s (answer .commit st b s) :=
    (answer_within _ _ _ s).mono (by decide)
  unfold commitService
  split
  · exact answered _ _
  · split
    · exact answered _ _
    · split
      · exact answered _ _
      · dsimp only
        split
        · split
          · exact answered _ _
          · exact commitTable_within _ _ order s
        · exact answered _ _

theorem storeService_within (s : State) : Within [.store, .sent] s (storeService s) := by
  unfold storeService
  split
  · exact (refuse_within _ _ s).mono (by decide)
  · split
    · exact (refuse_within _ _ s).mono (by decide)
    · exact (within_store s _).comp (answer_within _ _ _ _)

theorem storeDone_within (s : State) : Within [.store, .flags] s (storeDone s) := by
  unfold storeDone
  split
  · split
    · exact (within_store s _).comp (raise_within _ _)
    · exact .refl _ s
  · exact .refl _ s

theorem storeFails_within (s : State) : Within [.store, .flags] s (storeFails s) := by
  unfold storeFails
  split
  · exact (within_store s _).comp (raise_within _ _)
  · exact .refl _ s

theorem clearFlagsService_within (body : List Byte) (s : State) :
    Within [.flags, .sent] s (clearFlagsService body s) := by
  unfold clearFlagsService
  split
  · exact (refuse_within _ _ s).mono (by decide)
  · split
    · exact (refuse_within _ _ s).mono (by decide)
    · exact (lowerFlags_within _ s).comp (answer_within _ _ _ _)

theorem setMaskService_within (body : List Byte) (s : State) : Within [.flags, .sent] s (setMaskService body s) := by
  unfold setMaskService
  split
  · exact (refuse_within _ _ s).mono (by decide)
  · exact (replaceMask_within _ s).comp (answer_within _ _ _ _)

theorem coolantTriggerService_within (body : List Byte) (s : State) :
    Within [.coolant, .flags, .sent] s (coolantTriggerService body s) := by
  have refused (st : Status) : Within [.coolant, .flags, .sent] s (refuse .coolantTrigger st s) :=
    (refuse_within _ _ s).mono (by decide)
  unfold coolantTriggerService
  split
  · split
    · split
      · exact (triggerProgram_within _ s).comp (answer_within _ _ _ _)
      · exact refused _
    · exact refused _
  · exact refused _

theorem coolantStopService_within (s : State) : Within [.coolant, .sent] s (coolantStopService s) :=
  (stopCoolant_within s).comp (answer_within _ _ _ _)

theorem compTriggerService_within (body : List Byte) (s : State) :
    Within [.comp, .sent] s (compTriggerService body s) := by
  unfold compTriggerService
  split
  · split
    · exact (growthTrigger_within _ s).comp (answer_within _ _ _ _)
    · exact (growthTrigger_within _ s).comp (answer_within _ _ _ _)
    · exact (refuse_within _ _ s).mono (by decide)
  · exact (refuse_within _ _ s).mono (by decide)

theorem growthZeroService_within (s : State) : Within [.store, .sent] s (growthZeroService s) := by
  have refused (st : Status) : Within [.store, .sent] s (refuse .growthZero st s) :=
    (refuse_within _ _ s).mono (by decide)
  unfold growthZeroService
  split
  · split
    · exact refused _
    · split
      · exact refused _
      · exact (setActive_within _ _ s).comp (answer_within _ _ _ _)
  · exact refused _

theorem clearClampService_within (a : ClampAxis) (s : State) : Within [.clamps, .sent] s (clearClampService a s) := by
  have refused (st : Status) : Within [.clamps, .sent] s (refuse .clearFault st s) :=
    (refuse_within _ _ s).mono (by decide)
  unfold clearClampService
  split
  · exact refused _
  · split
    · split
      · exact (clearClampFault_within a s).comp (answer_within _ _ _ _)
      · exact refused _
    · exact refused _

theorem clearGearService_within (s : State) : Within [.gear, .sent] s (clearGearService s) := by
  have refused (st : Status) : Within [.gear, .sent] s (refuse .clearFault st s) :=
    (refuse_within _ _ s).mono (by decide)
  unfold clearGearService
  split
  · split
    · exact (reevaluate_within s).comp (answer_within _ _ _ _)
    · exact refused _
  · exact refused _

theorem clearFaultService_within (body : List Byte) (s : State) :
    Within [.clamps, .gear, .sent] s (clearFaultService body s) := by
  unfold clearFaultService
  split
  · exact (refuse_within _ _ s).mono (by decide)
  · exact (clearClampService_within _ s).mono (by decide)
  · exact (clearGearService_within s).mono (by decide)

/-- What the services that are taken with the blocks' work reach: neither the link, nor the axes, nor the inputs. -/
abbrev serviceParts : List Part := [.store, .comp, .clamps, .bank, .gear, .coolant, .pendant, .flags, .sent]

theorem blockService_within (k : ServiceKind) (body : List Byte) (order : List ClampAxis) (s : State) :
    Within serviceParts s (blockService k body order s) := by
  unfold blockService
  cases k
  case writeSegment =>
    exact judged_within _ _ (fun s => (writeService_within body s).mono (by decide)) (by decide) s
  case commit =>
    exact judged_within _ _ (fun s => (commitService_within body order s).mono (by decide)) (by decide) s
  case store => exact judged_within _ _ (fun s => (storeService_within s).mono (by decide)) (by decide) s
  case clearFlags =>
    exact judged_within _ _ (fun s => (clearFlagsService_within body s).mono (by decide)) (by decide) s
  case setMask => exact judged_within _ _ (fun s => (setMaskService_within body s).mono (by decide)) (by decide) s
  case coolantTrigger =>
    exact judged_within _ _ (fun s => (coolantTriggerService_within body s).mono (by decide)) (by decide) s
  case coolantStop => exact judged_within _ _ (fun s => (coolantStopService_within s).mono (by decide)) (by decide) s
  case compTrigger =>
    exact judged_within _ _ (fun s => (compTriggerService_within body s).mono (by decide)) (by decide) s
  case growthZero => exact judged_within _ _ (fun s => (growthZeroService_within s).mono (by decide)) (by decide) s
  case clearFault =>
    exact judged_within _ _ (fun s => (clearFaultService_within body s).mono (by decide)) (by decide) s
  all_goals exact .refl _ s

theorem readSegmentService_within (body : List Byte) (s : State) : Within [.sent] s (readSegmentService body s) := by
  unfold readSegmentService
  split
  · exact refuse_within _ _ s
  · dsimp only
    split
    · exact refuse_within _ _ s
    · split
      · split
        · exact refuse_within _ _ s
        · exact answer_within _ _ _ s
      · exact refuse_within _ _ s

theorem readStateService_within (body : List Byte) (s : State) : Within [.sent] s (readStateService body s) := by
  unfold readStateService
  split
  · exact answer_within _ _ _ s
  · exact refuse_within _ _ s

theorem refreshedAnswer_within (s : State) : Within [.sent] s (refreshedAnswer s) := by
  obtain ⟨a, h⟩ := refreshedAnswer_eq s
  exact h ▸ within_sent s _

/-- The reading services change the answer alone. -/
theorem readService_within (k : ServiceKind) (body : List Byte) (s : State) :
    Within [.sent] s (readService k body s) := by
  unfold readService
  cases k
  case readInfo => exact judged_within _ _ (fun s => answer_within _ _ _ s) (by decide) s
  case readSegment => exact judged_within _ _ (readSegmentService_within body) (by decide) s
  case readFlags => exact judged_within _ _ (fun s => answer_within _ _ _ s) (by decide) s
  case readState => exact judged_within _ _ (readStateService_within body) (by decide) s
  case clearFlags => exact refreshedAnswer_within s
  all_goals exact .refl _ s

/-- A state that differs in what has left the part alone. -/
theorem eq_of_within_sent {s t : State} (h : Within [.sent] s t) : t = { s with sent := t.sent } := by
  obtain ⟨⟩ := t
  simp only [State.mk.injEq, true_and]
  exact ⟨h.same_link, h.same_axes, h.same_comp, h.same_clamps, h.same_bank, h.same_gear, h.same_coolant,
    h.same_pendant, h.same_inputs, h.same_store, h.same_flags, h.same_seen, h.same_pending⟩

/-! ## The stages of an expiry -/

theorem passTime_within (c : ClockSpan) (s : State) : Within [.link, .clamps, .gear, .coolant] s (passTime c s) := by
  intro p hp
  cases p <;> first | rfl | exact absurd (by decide) hp

theorem framesLeave_within (rb : Bool) (taken : Option CycleFrame) (s : State) :
    Within [.sent, .seen, .link] s (framesLeave rb taken s) := by
  intro p hp
  cases p <;> first | rfl | exact absurd (by decide) hp

theorem intakeStage_within (inp : ExpiryInput) (taken : Option CycleFrame) (s : State) :
    Within [.gear, .inputs, .axes] s (intakeStage inp taken s) := by
  have pushed (t : State) : Within [.axes] t (if t.link.state = .running then pushCommands taken t else t) := by
    split
    · exact pushCommands_within taken t
    · exact .refl _ t
  exact (((within_gear s _).comp (conditionerWork_within inp.samples _)).comp (pushed _)).comp
    (interlockWork_within taken _) |>.mono (by decide)

theorem linkStage_within (taken : Option CycleFrame) (r : Record) (order : List ClampAxis) (s : State) :
    Within (.sent :: blockParts) s (linkStage taken r order s) := by
  have unknown (t : State) : Within (.sent :: blockParts) t (match taken with
      | some f => if unknownRecord f then answerUnknown f.kind t else t
      | none => t) := by
    split
    · split
      · exact (answerUnknown_within _ t).mono (by decide)
      · exact .refl _ t
    · exact .refl _ t
  have served (t : State) : Within (.sent :: blockParts) t (match r with
      | some (k, body) => linkService k body order t
      | none => t) := by
    split
    · exact linkService_within _ _ order t
    · exact .refl _ t
  exact ((((within_sent s _).comp (linkWork_within taken order _)).comp (unknown _)).comp (served _)).comp
    (settleTriggers_within [] _) |>.mono (by decide)

/-- What one task's work can reach. -/
def taskParts : Task → List Part
  | .forkFirst => bankParts
  | .fork _ => [.gear, .flags]
  | .pendantFirst => [.pendant, .axes, .flags, .coolant]
  | .selector => [.pendant, .axes, .flags]
  | .enableSwitch => [.pendant]
  | .panel => [.pendant, .coolant]
  | .clampFirst => [.inputs, .clamps, .bank, .gear]
  | .pressure => faultParts
  | .clamp _ => faultParts
  | .gearLeave => [.gear, .bank]
  | .rangeRequest => [.gear, .coolant, .flags]
  | .gearStage => [.clamps, .bank, .gear, .coolant, .flags, .comp]
  | .spindleOutput => [.gear]
  | .spindleHeld => [.flags]
  | .spindleAnnounce => [.gear, .comp, .coolant]
  | .stoppedTimer => [.comp]
  | .window => [.comp, .flags]
  | .droop => [.comp]
  | .absorb => [.axes, .flags]
  | .handwheel => [.pendant, .axes, .flags]
  | .strayCommand => [.pendant, .flags]
  | .axes => [.axes, .flags]
  | .coolantStopBit => [.coolant]
  | .coolantRequests => [.coolant]
  | .coolantWait => [.coolant, .flags]
  | .travel => [.coolant]
  | .tank => [.coolant, .flags]
  | .knobs => [.pendant, .flags]
  | .service => serviceParts

theorem onFrame_within {l : List Part} {work : CycleFrame → State → State} (h : ∀ f s, Within l s (work f s))
    (f : Option CycleFrame) (s : State) : Within l s (onFrame f work s) := by
  cases f with
  | some f => exact h f s
  | none => exact .refl l s

theorem runTask_within (c : Turn) (t : Task) (s : State) : Within (taskParts t) s (runTask c t s) := by
  cases t
  case forkFirst => exact forkFirstWork_within s
  case fork i => exact forkWork_within i s
  case pendantFirst => exact pendantFirstWork_within s
  case selector => exact delivered_within handSelector_within s
  case enableSwitch => exact delivered_within handEnable_within s
  case panel => exact delivered_within handPanel_within s
  case clampFirst => exact clampFirstWork_within _ s
  case pressure => exact pressureWork_within s
  case clamp a => exact clampWork_within _ a s
  case gearLeave => exact gearLeaveWork_within s
  case rangeRequest => exact onFrame_within rangeRequestWork_within _ s
  case gearStage => exact gearStageWork_within s
  case spindleOutput => exact spindleOutputWork_within _ s
  case spindleHeld => exact spindleHeldWork_within _ s
  case spindleAnnounce => exact spindleAnnounceWork_within s
  case stoppedTimer => exact stoppedTimerWork_within _ s
  case window => exact windowWork_within s
  case droop => exact droopWork_within s
  case absorb =>
    unfold runTask
    dsimp only
    split
    · exact onFrame_within absorbWork_within _ s
    · exact .refl _ s
  case handwheel => exact handwheelWork_within _ _ s
  case strayCommand => exact strayWork_within s
  case axes => exact axesWork_within s
  case coolantStopBit => exact onFrame_within stopBitWork_within _ s
  case coolantRequests => exact onFrame_within requestsWork_within _ s
  case coolantWait => exact coolantWaitWork_within s
  case travel => exact travelWork_within s
  case tank => exact tankWork_within s
  case knobs => exact knobsWork_within s
  case service =>
    unfold runTask
    dsimp only
    split
    · exact blockService_within _ _ _ s
    · exact .refl _ s

/-- What the blocks' work at an expiry reaches: neither the link nor what stood when the previous drive frame left. -/
abbrev workParts : List Part :=
  [.axes, .comp, .clamps, .bank, .gear, .coolant, .pendant, .inputs, .store, .flags, .sent]

theorem taskParts_subset (t : Task) : taskParts t ⊆ workParts := by
  cases t <;> simp only [taskParts] <;> decide

theorem taskTurn_within (c : Turn) (s : State) (t : Task) :
    Within (taskParts t ++ [.coolant, .flags]) s (taskTurn c s t) :=
  (runTask_within c t s).comp (settleTriggers_within _ _)

theorem taskTurn_within_work (c : Turn) (s : State) (t : Task) : Within workParts s (taskTurn c s t) :=
  (taskTurn_within c s t).mono (List.append_subset.mpr ⟨taskParts_subset t, by decide⟩)

theorem runTasks_within (c : Turn) (order : List Task) (s : State) : Within workParts s (runTasks c order s) :=
  foldl_within (taskTurn_within_work c) _ s

/-- What an event between expiries can reach. -/
def betweenParts : Between → List Part
  | .frameArrival _ _ | .returnFrame _ | .activationCeiling => blockParts
  | .estopOpening => .inputs :: blockParts
  | .estopClosing => [.inputs]
  | .valveBankGrant | .drainCeiling => bankParts
  | .unclampCeiling _ | .clampCeiling _ | .dropCeiling _ => faultParts
  | .shiftCeiling => [.clamps, .bank, .gear, .flags]
  | .wiggleTimer => [.gear]
  | .waitCeiling | .pauseEnd | .queuedProgramStart => [.coolant, .flags]
  | .lubeInterval => [.coolant]
  | .handwheelEdge _ _ => [.pendant, .flags]
  | .storeVerified | .storeMismatch | .storeCeiling => [.store, .flags]

theorem betweenWork_within (e : Between) (s : State) : Within (betweenParts e) s (betweenWork e s) := by
  cases e
  case frameArrival bytes order => exact frameArrives_within bytes order s
  case valveBankGrant => exact tryGrant_within s
  case unclampCeiling a => exact clampCeilingEnds_within _ a s
  case clampCeiling a => exact clampCeilingEnds_within _ a s
  case dropCeiling a => exact clampCeilingEnds_within _ a s
  case drainCeiling => exact drainCeilingEnds_within s
  case shiftCeiling => exact shiftCeilingEnds_within s
  case wiggleTimer => exact wiggleEnds_within s
  case waitCeiling => exact waitCeilingEnds_within s
  case pauseEnd => exact pauseEnds_within s
  case queuedProgramStart => exact startNext_within s
  case lubeInterval => exact lubeIntervalEnds_within s
  case returnFrame bytes => exact returnArrives_within bytes s
  case activationCeiling => exact activationEnds_within s
  case estopOpening => exact estopOpens_within s
  case estopClosing => exact estopCloses_within s
  case handwheelEdge a b => exact phasesSeen_within a b s
  case storeVerified => exact storeDone_within s
  case storeMismatch => exact storeFails_within s
  case storeCeiling => exact storeFails_within s

theorem betweenParts_subset (e : Between) : betweenParts e ⊆ .inputs :: .store :: blockParts := by
  cases e <;> simp only [betweenParts] <;> decide

theorem betweenTurn_within (s : State) (e : Between) : Within (.inputs :: .store :: blockParts) s (betweenTurn s e) :=
  (betweenWork_within e s).comp (settleTriggers_within [] _) |>.mono
    (List.append_subset.mpr ⟨betweenParts_subset e, by decide⟩)

/-! ## The stages of an expiry by name -/

section
variable (inp : ExpiryInput) (s : State)

/-- The frame that an expiry takes. -/
def takenAt : Option CycleFrame := takenFrame (passTime inp.clock s).link

/-- The service record that it takes. -/
def recordAt : Record := recordOfFrame (takenAt inp s)

/-- The state after the link controller's stage. -/
def linkedAt : State := linkStage (takenAt inp s) (recordAt inp s) inp.claimOrder (passTime inp.clock s)

/-- What the blocks are given. -/
def turnAt : Turn := turnOf s.link.period (takenAt inp s) (recordAt inp s) inp (linkedAt inp s)

/-- The state as the blocks' tasks begin. -/
def sampledAt : State := intakeStage inp (turnAt inp s).taken (linkedAt inp s)

/-- The state after the blocks' tasks. -/
def workedAt : State := runTasks (turnAt inp s) inp.order (sampledAt inp s)

/-- The state as the frames have left. -/
def closedAt : State :=
  closeStage (isRotary (linkedAt inp s) .b) (takenAt inp s) (recordAt inp s) (workedAt inp s)

theorem expiry_eq : expiry inp s = afterClearStage (recordAt inp s) inp.afterClear (closedAt inp s) := rfl

end

/-! ## What every step keeps

A property that each piece of work keeps, at an expiry and between expiries, is kept by every command. -/

/-- A property kept at each operation of a fold is kept by the fold. -/
theorem foldl_keeps {α : Type} {P : State → Prop} {f : State → α → State} (h : ∀ s a, P s → P (f s a)) (as : List α)
    {s : State} (hs : P s) : P (as.foldl f s) := by
  induction as generalizing s with
  | nil => exact hs
  | cons a as ih => exact ih (h s a hs)

/-- What each task of an expiry keeps, its triggers taken, all of them keep. -/
theorem runTasks_keeps {P : State → Prop} {c : Turn} (h : ∀ {s : State} (t : Task), P s → P (taskTurn c s t))
    (order : List Task) {s : State} (hs : P s) : P (runTasks c order s) := foldl_keeps (fun _ t hs => h t hs) _ hs

/-- A property that the work of every command but the expiry keeps. -/
structure CommandKept (P : State → Prop) : Prop where
  reset : ∀ (estop a b : Bool) {s : State}, P s → P (hardwareReset estop a b s)
  settle : ∀ (order : List TriggerSource) {s : State}, P s → P (settleTriggers order s)
  sent : ∀ (x : Sent) {s : State}, P s → P { s with sent := x }
  between : ∀ (e : Between) {s : State}, P s → P (betweenWork e s)
  linkService : ∀ (k : ServiceKind) (body : List Byte) (order : List ClampAxis) {s : State}, P s →
    P (linkService k body order s)
  blockService : ∀ (k : ServiceKind) (body : List Byte) (order : List ClampAxis) {s : State},
    s.link.state ≠ .offline → P s → P (blockService k body order s)
  gearLeave : ∀ {s : State}, P s → P (gearLeaveWork s)
  restart : ∀ {s : State}, P s → P (restart s)

namespace CommandKept
variable {P : State → Prop} (k : CommandKept P) {s t : State}
include k

theorem of_sent (hw : Within [.sent] s t) (h : P s) : P t := by
  rw [eq_of_within_sent hw]
  exact k.sent _ h

/-- The link controller's stage, where its handling of R5 keeps the property. -/
theorem linkStage (taken : Option CycleFrame) (r : Record) (order : List ClampAxis)
    (hwork : ∀ (f : Option CycleFrame) (o : List ClampAxis) {u : State}, P u → P (linkWork f o u)) (h : P s) :
    P (linkStage taken r order s) := by
  have unknown (u : State) (hu : P u) : P (match taken with
      | some f => if unknownRecord f then answerUnknown f.kind u else u
      | none => u) := by
    split
    · split
      · exact k.of_sent (answerUnknown_within _ u) hu
      · exact hu
    · exact hu
  have served (u : State) (hu : P u) : P (match r with
      | some (kind, body) => Machine.linkService kind body order u
      | none => u) := by
    split
    · exact k.linkService _ _ order hu
    · exact hu
  exact k.settle [] (served _ (unknown _ (hwork taken order (k.sent { s.sent with answer := noAnswer } h))))

/-- The end of an expiry, where the property holds as the frames leave. -/
theorem closeStage (rb : Bool) (taken : Option CycleFrame) (r : Record)
    (hleave : ∀ {u : State}, Within [.sent] s u → P (framesLeave rb taken u)) : P (closeStage rb taken r s) := by
  have read : Within [.sent] s (match r with
      | some (kind, body) => readService kind body s
      | none => s) := by
    split
    · exact readService_within _ _ s
    · exact .refl _ s
  have left (u : State) (hu : Within [.sent] s u) :
      P (if restartTaken u then Machine.restart (framesLeave rb taken u) else framesLeave rb taken u) := by
    split
    · exact k.restart (hleave hu)
    · exact hleave hu
  exact left _ read

theorem betweenTurn (e : Between) (h : P s) : P (betweenTurn s e) := k.settle [] (k.between e h)

theorem afterClearStage (r : Record) (events : List Between) (h : P s) : P (afterClearStage r events s) := by
  rcases afterClearStage_cases r events s with e | ⟨a, x, e⟩
  · exact e.symm ▸ h
  · rw [e]
    exact k.sent _ (foldl_keeps (fun _ e hs => k.betweenTurn e hs) events h)

theorem settled {act : State → State} (hact : P (act s)) (e : settled (act s) = .next t) : P t := by
  cases e
  exact k.settle [] hact

theorem served {act : State → State} (h : P s) (hact : s.link.state ≠ .offline → P (act s))
    (e : served act s = .next t) : P t := by
  unfold Machine.served at e
  split at e
  · cases e; exact h
  · rename_i hl
    exact k.settled (hact hl) e

/-- A STOP at once settles what it announces before the gearbox reacts. -/
theorem stopNow (body : List Byte) (h : P s) : P (stopNow body s) := by
  unfold Machine.stopNow
  split
  · exact k.gearLeave (k.settle [] (k.linkService _ _ _ h))
  · exact k.linkService _ _ _ h

theorem restartNow (body : List Byte) (h : P s) : P (restartNow body s) := by
  unfold Machine.restartNow
  dsimp only
  split
  · exact k.restart (k.linkService _ _ _ (k.sent _ h))
  · exact k.linkService _ _ _ (k.sent _ h)

/-- A property that the work of the commands and the expiry keep is kept by every command. -/
theorem exec (hexp : ∀ (inp : ExpiryInput) {u : State}, P u → P (expiry inp u)) (c : Instr) (h : P s)
    (e : exec c s = .next t) : P t := by
  cases c
  case hardwareReset estop a b => cases e; exact k.reset estop a b h
  case cycleFrameArrival bytes order => exact k.settled (k.between (.frameArrival bytes order) h) e
  case cycleTimerExpiry inp => cases e; exact hexp inp h
  case valveBankGrant => exact k.settled (k.between .valveBankGrant h) e
  case unclampCeilingExpiry a => exact k.settled (k.between (.unclampCeiling a) h) e
  case clampCeilingExpiry a => exact k.settled (k.between (.clampCeiling a) h) e
  case dropCeilingExpiry a => exact k.settled (k.between (.dropCeiling a) h) e
  case drainCeilingExpiry => exact k.settled (k.between .drainCeiling h) e
  case shiftCeilingExpiry => exact k.settled (k.between .shiftCeiling h) e
  case wiggleTimerExpiry => exact k.settled (k.between .wiggleTimer h) e
  case waitCeilingExpiry => exact k.settled (k.between .waitCeiling h) e
  case pauseEnd => exact k.settled (k.between .pauseEnd h) e
  case queuedProgramStart => exact k.settled (k.between .queuedProgramStart h) e
  case lubeIntervalExpiry => exact k.settled (k.between .lubeInterval h) e
  case returnFrameArrival bytes => exact k.settled (k.between (.returnFrame bytes) h) e
  case activationCeilingExpiry => exact k.settled (k.between .activationCeiling h) e
  case estopOpening => exact k.settled (k.between .estopOpening h) e
  case estopClosing => exact k.settled (k.between .estopClosing h) e
  case handwheelEdge a b => exact k.settled (k.between (.handwheelEdge a b) h) e
  case storeVerified => exact k.settled (k.between .storeVerified h) e
  case storeMismatch => exact k.settled (k.between .storeMismatch h) e
  case storeCeilingExpiry => exact k.settled (k.between .storeCeiling h) e
  case readInfo body => exact k.served h (fun _ => k.of_sent (readService_within _ body s) h) e
  case readSegment body => exact k.served h (fun _ => k.of_sent (readService_within _ body s) h) e
  case readFlags body => exact k.served h (fun _ => k.of_sent (readService_within _ body s) h) e
  case readState body => exact k.served h (fun _ => k.of_sent (readService_within _ body s) h) e
  case unknownKind n body => exact k.served h (fun _ => k.of_sent (answerUnknown_within _ s) h) e
  case start body => exact k.served h (fun _ => k.linkService _ body _ h) e
  case stop body => exact k.served h (fun _ => k.stopNow body h) e
  case recover body order => exact k.served h (fun _ => k.linkService _ body order h) e
  case restart body => exact k.served h (fun _ => k.restartNow body h) e
  case commit body order => exact k.served h (fun hl => k.blockService _ body order hl h) e
  case writeSegment body => exact k.served h (fun hl => k.blockService _ body [] hl h) e
  case store body => exact k.served h (fun hl => k.blockService _ body [] hl h) e
  case clearFlags body => exact k.served h (fun hl => k.blockService _ body [] hl h) e
  case setMask body => exact k.served h (fun hl => k.blockService _ body [] hl h) e
  case coolantTrigger body => exact k.served h (fun hl => k.blockService _ body [] hl h) e
  case coolantStop body => exact k.served h (fun hl => k.blockService _ body [] hl h) e
  case compTrigger body => exact k.served h (fun hl => k.blockService _ body [] hl h) e
  case growthZero body => exact k.served h (fun hl => k.blockService _ body [] hl h) e
  case clearFault body => exact k.served h (fun hl => k.blockService _ body [] hl h) e

/-- A property of the part, not of its queue, that every command keeps is kept by every step. -/
theorem step (hexp : ∀ (inp : ExpiryInput) {u : State}, P u → P (expiry inp u))
    (hq : ∀ (q : List Instr) {u : State}, P u → P (u.withPending q)) (h : P s) (e : Machine.step s = .next t) : P t := by
  unfold Machine.step at e
  split at e
  · cases e; exact h
  · exact k.exec hexp _ (hq _ h) e

end CommandKept

/-- A property that every piece of work keeps, at an expiry too. -/
structure Kept (P : State → Prop) : Prop where
  reset : ∀ (estop a b : Bool) {s : State}, P s → P (hardwareReset estop a b s)
  settle : ∀ (order : List TriggerSource) {s : State}, P s → P (settleTriggers order s)
  sent : ∀ (x : Sent) {s : State}, P s → P { s with sent := x }
  between : ∀ (e : Between) {s : State}, P s → P (betweenWork e s)
  linkService : ∀ (k : ServiceKind) (body : List Byte) (order : List ClampAxis) {s : State}, P s →
    P (linkService k body order s)
  restart : ∀ {s : State}, P s → P (restart s)
  passTime : ∀ (c : ClockSpan) {s : State}, P s → P (passTime c s)
  linkWork : ∀ (taken : Option CycleFrame) (order : List ClampAxis) {s : State}, P s → P (linkWork taken order s)
  intake : ∀ (inp : ExpiryInput) (taken : Option CycleFrame) {s : State}, P s → P (intakeStage inp taken s)
  task : ∀ (c : Turn) (t : Task) {s : State}, P s → P (runTask c t s)
  leave : ∀ (rb : Bool) (taken : Option CycleFrame) {s : State}, P s → P (framesLeave rb taken s)

namespace Kept
variable {P : State → Prop} (k : Kept P) {s t : State}
include k

theorem command : CommandKept P where
  reset := k.reset
  settle := k.settle
  sent := k.sent
  between := k.between
  linkService := k.linkService
  blockService kind body order _ _ h := k.task ⟨none, none, some (kind, body), order, [], 0⟩ .service h
  gearLeave h := k.task ⟨none, none, none, [], [], 0⟩ .gearLeave h
  restart := k.restart

theorem taskTurn (c : Turn) (u : Task) (h : P s) : P (taskTurn c s u) := k.settle _ (k.task c u h)

theorem runTasks (c : Turn) (order : List Task) (h : P s) : P (runTasks c order s) :=
  runTasks_keeps (fun t hs => k.taskTurn c t hs) order h

theorem linkStage (taken : Option CycleFrame) (r : Record) (order : List ClampAxis) (h : P s) :
    P (linkStage taken r order s) := k.command.linkStage taken r order k.linkWork h

theorem closeStage (rb : Bool) (taken : Option CycleFrame) (r : Record) (h : P s) : P (closeStage rb taken r s) :=
  k.command.closeStage rb taken r fun hu => k.leave rb taken (k.command.of_sent hu h)

theorem expiry (inp : ExpiryInput) (h : P s) : P (expiry inp s) := by
  rw [expiry_eq]
  exact k.command.afterClearStage _ _ (k.closeStage _ _ _ (k.runTasks _ _
    (k.intake _ _ (k.linkStage _ _ _ (k.passTime _ h)))))

/-- A property that every piece of work keeps is kept by every command. -/
theorem exec (c : Instr) (h : P s) (e : exec c s = .next t) : P t := k.command.exec (fun inp _ => k.expiry inp) c h e

theorem step (hq : ∀ (q : List Instr) {u : State}, P u → P (u.withPending q)) (h : P s)
    (e : Machine.step s = .next t) : P t := k.command.step (fun inp _ => k.expiry inp) hq h e

end Kept

/-! ## Every command completes -/

theorem settled_next (s : State) : ∃ t, settled s = .next t := ⟨_, rfl⟩

theorem served_next (act : State → State) (s : State) : ∃ t, served act s = .next t := by
  unfold served
  split
  · exact ⟨s, rfl⟩
  · exact settled_next _

theorem exec_next (c : Instr) (s : State) : ∃ t, exec c s = .next t := by
  cases c
  case hardwareReset estop a b => exact ⟨_, rfl⟩
  case cycleTimerExpiry inp => exact ⟨_, rfl⟩
  all_goals first
    | exact settled_next _
    | exact served_next _ s

theorem restart_within (s : State) :
    Within [.link, .axes, .comp, .clamps, .bank, .gear, .coolant, .pendant, .store] s (restart s) := by
  have base : Within [.link, .axes, .comp, .clamps, .bank, .gear, .coolant, .pendant, .store] s
      { s with
        link := { linkReset with period := s.link.period, returns := s.link.returns }
        axes := PerAxis.of fun a => { axisReset with out := actualPos s a }
        comp := compReset
        clamps := PerClamp.of (restartedClamp s)
        bank := bankReset
        gear := restartedGear s
        coolant := coolantReset
        pendant := pendantReset s.pendant.phaseA s.pendant.phaseB
        store := { s.store with staging := stagingZero, snapshot := none } } := by
    intro p hp
    cases p <;> first | rfl | exact absurd (by decide) hp
  exact ((base.comp (reevaluate_within _)).comp (startLube_within _)).comp (droopWork_within _) |>.mono (by decide)

/-- No piece of work touches the queue of waiting commands. -/
theorem pending_kept (q : List Instr) : Kept fun s => s.pending = q where
  reset _ _ _ _ h := h
  settle order _ h := (settleTriggers_within order _).same_pending.trans h
  sent _ _ h := h
  between e _ h := ((betweenWork_within e _).mono (betweenParts_subset e)).same_pending.trans h
  linkService kind body order _ h := (linkService_within kind body order _).same_pending.trans h
  restart h := (restart_within _).same_pending.trans h
  passTime c _ h := (passTime_within c _).same_pending.trans h
  linkWork taken order _ h := (linkWork_within taken order _).same_pending.trans h
  intake inp taken _ h := (intakeStage_within inp taken _).same_pending.trans h
  task c u _ h := ((runTask_within c u _).mono (taskParts_subset u)).same_pending.trans h
  leave rb taken _ h := (framesLeave_within rb taken _).same_pending.trans h

/-- Settles O2: each command answers a next state, and no piece of its work touches the queue. -/
theorem everyCommandCompletes : Obligations.EveryCommandCompletes := by
  intro c s
  obtain ⟨t, ht⟩ := exec_next c s
  exact ⟨t, ht, (pending_kept s.pending).exec c rfl ht⟩

/-- Settles O1: the front command is run on the state with the rest of the queue. -/
theorem stepRunsFrontCommand : Obligations.StepRunsFrontCommand := by
  constructor
  · intro c rest s h
    simp only [step, h]
    rfl
  · intro s h
    simp only [step, h]

end Sys2Proof.Machine

/-! # The link controller: what each entry into a link state does, and drive enable (R8) -/

namespace Sys2Proof.Machine

-- Many short proofs that wait for the same case splitters: one after the other they need less memory.
set_option Elab.async false

/-! ## Entry into HALTED or OFFLINE -/

section
variable (st : LinkState) (s : State)

/-- The state at an entry into HALTED or OFFLINE once the grant has ended; the other blocks react from here. -/
def restBegun : State :=
  endGrant { settleTriggers [] s with link := disabledLink st (settleTriggers [] s).link }

theorem enterRest_eq :
    enterRest st s = coolantRest (gearHalt (dropClamps (discardWindow (clearAxes (restBegun st s))))) := rfl

theorem restBegun_within : Within [.link, .coolant, .flags, .pendant, .axes] s (restBegun st s) :=
  ((settleTriggers_within [] s).comp (within_link _ _)).comp (endGrant_within _) |>.mono (by decide)

theorem enterRest_link : (enterRest st s).link = disabledLink st s.link := by
  have h : (restBegun st s).link = disabledLink st (settleTriggers [] s).link := (endGrant_within _).same_link
  rw [(settleTriggers_within [] s).same_link] at h
  rw [enterRest_eq, (coolantRest_within _).same_link, (gearHalt_within _).same_link]
  exact h

theorem enterRest_clamps (a : ClampAxis) :
    (enterRest st s).clamps.get a = ⟨droppedState (s.clamps.get a).state, none, 0⟩ := by
  rw [enterRest_eq, (coolantRest_within _).same_clamps, (gearHalt_within _).same_clamps]
  unfold dropClamps
  rw [PerClamp.get_of, (discardWindow_within _).same_clamps, (clearAxes_within _).same_clamps,
    (restBegun_within st s).same_clamps]

theorem enterRest_bank : (enterRest st s).bank = { s.bank with queue := [], holder := none } := by
  rw [enterRest_eq, (coolantRest_within _).same_bank, (gearHalt_within _).same_bank]
  unfold dropClamps
  rw [(discardWindow_within _).same_bank, (clearAxes_within _).same_bank, (restBegun_within st s).same_bank]

theorem enterRest_store : (enterRest st s).store = s.store := (enterRest_within st s).same_store

/-- An axis channel after the entry: its history and output stand, everything else is cleared (R38). -/
theorem enterRest_axes (a : Axis) :
    (enterRest st s).axes.get a = clearedAxis ((restBegun st s).axes.get a) := by
  rw [enterRest_eq, (coolantRest_within _).same_axes, (gearHalt_within _).same_axes, (dropClamps_within _).same_axes,
    (discardWindow_within _).same_axes]
  exact PerAxis.get_of _ a

/-- R112: the sequencer at rest. -/
theorem coolantRest_coolant (t : State) : (coolantRest t).coolant = { t.coolant with
    running := none, queue := [], requested := outputsOff, withheld := false, lube := t.coolant.lube.hold
    announced := [] } := rfl

theorem enterRest_coolant : ∃ c : Coolant, (enterRest st s).coolant = { c with
    running := none, queue := [], requested := outputsOff, withheld := false, announced := [] } :=
  ⟨{ (gearHalt (dropClamps (discardWindow (clearAxes (restBegun st s))))).coolant with
      lube := (gearHalt (dropClamps (discardWindow (clearAxes (restBegun st s))))).coolant.lube.hold }, rfl⟩

/-- No axis is granted after the entry (R139). -/
theorem enterRest_not_granted (a : Axis) : (enterRest st s).pendant.grant ≠ .granted a := by
  rw [enterRest_eq, (coolantRest_within _).same_pendant, (gearHalt_within _).same_pendant,
    (dropClamps_within _).same_pendant, (discardWindow_within _).same_pendant, (clearAxes_within _).same_pendant]
  exact endGrant_not_granted _ a

theorem enterRest_comp :
    (enterRest st s).comp = { s.comp with windowSum := 0, windowCount := 0, windowFaulted := false } := by
  rw [enterRest_eq, (coolantRest_within _).same_comp, (gearHalt_within _).same_comp, (dropClamps_within _).same_comp]
  unfold discardWindow
  rw [(clearAxes_within _).same_comp, (restBegun_within st s).same_comp]

end

/-! ### The gearbox at rest (R104) -/

/-- A re-evaluation ends in ENGAGED or UNKNOWN and leaves a zero output at 0. -/
theorem reevaluate_state (s : State) :
    (reevaluate s).gear.state = .engaged ∨ (reevaluate s).gear.state = .unknown := by
  rcases reevaluate_cases s with ⟨r, -, h⟩ | ⟨-, h⟩
  · rw [h]; exact .inl rfl
  · rw [h]; exact .inr rfl

theorem reevaluate_output {s : State} (h : s.gear.output = 0) : (reevaluate s).gear.output = 0 := by
  rcases reevaluate_cases s with ⟨r, -, e⟩ | ⟨-, e⟩
  · rw [e]; exact h
  · rw [e]; rfl

/-- Either no change was in progress and only the output and the slot are cleared, or the change is abandoned. -/
theorem gearHalt_cases (s : State) :
    (s.gear.state.changing = false ∧ gearHalt s = { s with gear := { s.gear with next := none, output := 0 } }) ∨
    (s.gear.state.changing = true ∧ gearHalt s = reevaluate { s with gear :=
      { stopGearTimers s.gear with next := none, output := 0, target := none } }) := by
  unfold gearHalt
  cases h : s.gear.state
  case engaged | unknown | fault => exact .inl ⟨rfl, by simp only [h]⟩
  all_goals exact .inr ⟨rfl, by simp only [h]; rfl⟩

theorem gearHalt_output (s : State) : (gearHalt s).gear.output = 0 := by
  rcases gearHalt_cases s with ⟨-, h⟩ | ⟨-, h⟩
  · rw [h]
  · rw [h]; exact reevaluate_output rfl

theorem gearHalt_state (s : State) : (gearHalt s).gear.state.changing = false := by
  rcases gearHalt_cases s with ⟨k, h⟩ | ⟨-, h⟩
  · rw [h]; exact k
  · rw [h]
    rcases reevaluate_state { s with gear := { stopGearTimers s.gear with next := none, output := 0, target := none } }
      with e | e <;> rw [e] <;> rfl

theorem enterRest_gear (st : LinkState) (s : State) :
    (enterRest st s).gear = (gearHalt (dropClamps (discardWindow (clearAxes (restBegun st s))))).gear := by
  rw [enterRest_eq, (coolantRest_within _).same_gear]

theorem enterRest_output (st : LinkState) (s : State) : (enterRest st s).gear.output = 0 := by
  rw [enterRest_gear]; exact gearHalt_output _

theorem enterRest_changing (st : LinkState) (s : State) : (enterRest st s).gear.state.changing = false := by
  rw [enterRest_gear]; exact gearHalt_state _

/-! ## The entries and the link -/

theorem enterHalted_within_rest (cause : HaltCause) (s : State) :
    Within [.link, .flags] (enterRest .halted s) (enterHalted cause s) :=
  (within_link _ _).comp (raise_within _ _)

theorem enterOffline_within_rest (s : State) : Within [.link] (enterRest .offline s) (enterOffline s) :=
  within_link _ _

theorem enterHalted_link (cause : HaltCause) (s : State) :
    (enterHalted cause s).link = { disabledLink .halted s.link with cause := cause } := by
  have h := enterRest_link .halted s
  unfold enterHalted
  dsimp only [raise_link]
  rw [h]

theorem enterOffline_link (s : State) : (enterOffline s).link =
    { disabledLink .offline s.link with lastSeq := none, missCount := 0, takenSeq := none } := by
  have h := enterRest_link .offline s
  unfold enterOffline
  dsimp only
  rw [h]

theorem enterStandby_link (order : List ClampAxis) (s : State) :
    (enterStandby order s).link = disabledLink .standby s.link := (recoverDropped_within order _).same_link

theorem leaveRunning_link (st : LinkState) (s : State) : (leaveRunning st s).link = { s.link with state := st } :=
  (endGrant_within _).same_link

theorem enterLinkLost_link (s : State) : (enterLinkLost s).link = { s.link with state := .linkLost } := by
  unfold enterLinkLost
  rw [raise_link]
  split
  · exact leaveRunning_link _ s
  · rfl

theorem enterRunning_link (s : State) :
    (enterRunning s).link = { s.link with state := .running, activation := none } := rfl

/-- A halting event enters HALTED where drive enable is ON and does nothing elsewhere. -/
theorem halt_cases (cause : HaltCause) (s : State) :
    (s.link.state.enabled = true ∧ halt cause s = enterHalted cause s) ∨
    (s.link.state.enabled = false ∧ halt cause s = s) := by
  unfold halt
  cases h : s.link.state.enabled
  · exact .inr ⟨rfl, rfl⟩
  · exact .inl ⟨rfl, rfl⟩

/-- What a miss can do: nothing in OFFLINE, be counted, or be counted and reach the limit. -/
theorem missWork_cases (s : State) :
    (s.link.state = .offline ∧ missWork s = s) ∨
    (s.link.state ≠ .offline ∧ s.link.missCount + 1 ≠ missLimit s ∧
      missWork s = { s with link := { s.link with missCount := min 255 (s.link.missCount + 1) } }) ∨
    (s.link.state ≠ .offline ∧ s.link.missCount + 1 = missLimit s ∧
      missWork s = missTransition { s with link := { s.link with missCount := min 255 (s.link.missCount + 1) } }) := by
  unfold missWork
  by_cases h : s.link.state = .offline
  · exact .inl ⟨h, if_pos h⟩
  rw [if_neg h]
  by_cases hm : s.link.missCount + 1 = missLimit s
  · exact .inr (.inr ⟨h, hm, if_pos hm⟩)
  · exact .inr (.inl ⟨h, hm, if_neg hm⟩)

/-- The transition of a miss that reaches the limit, by the link state. -/
theorem missTransition_cases (s : State) :
    ((s.link.state = .standby ∨ s.link.state = .activating ∨ s.link.state = .halted) ∧
      missTransition s = enterOffline s) ∨
    ((s.link.state = .running ∨ s.link.state = .stopping) ∧ missTransition s = enterLinkLost s) ∨
    ((s.link.state = .offline ∨ s.link.state = .linkLost) ∧ missTransition s = s) := by
  unfold missTransition
  cases s.link.state <;> simp

/-- The drive-chain miss count is set, and where the count reaches its limit a halt follows. -/
theorem chainWork_cases (s : State) :
    (∃ n, chainWork s = { s with link := { s.link with chainMiss := n } }) ∨
    (s.link.enable = true ∧ s.link.returnFresh = false ∧
      chainWork s = halt .driveChainLost { s with link := { s.link with chainMiss := 3 } }) := by
  unfold chainWork
  split
  · rename_i he
    split
    · exact .inl ⟨_, rfl⟩
    · rename_i hf
      dsimp only
      split
      · rename_i h3
        exact .inr ⟨he, by simpa using hf, by rw [h3]⟩
      · exact .inl ⟨_, rfl⟩
  · exact .inl ⟨_, rfl⟩

/-- STOPPING and LINK_LOST end in STANDBY, LINK_LOST in OFFLINE where the expiry is a miss; no other state ends. -/
theorem endWork_cases (order : List ClampAxis) (s : State) :
    (stopEnded s = true ∧ (s.link.state = .stopping ∨ (s.link.state = .linkLost ∧ s.link.missCount = 0)) ∧
      endWork order s = raise .standbyReached (enterStandby order s)) ∨
    (stopEnded s = true ∧ s.link.state = .linkLost ∧ s.link.missCount ≠ 0 ∧
      endWork order s = raise .standbyReached (enterOffline s)) ∨
    ((stopEnded s = false ∨ (s.link.state ≠ .stopping ∧ s.link.state ≠ .linkLost)) ∧ endWork order s = s) := by
  unfold endWork
  cases he : stopEnded s
  · exact .inr (.inr ⟨.inl rfl, rfl⟩)
  cases hl : s.link.state
  case stopping => exact .inl ⟨rfl, .inl rfl, rfl⟩
  case linkLost =>
    by_cases hm : s.link.missCount = 0
    · exact .inl ⟨rfl, .inr ⟨rfl, hm⟩, by simp [hm]⟩
    · exact .inr (.inl ⟨rfl, rfl, hm, by simp [hm]⟩)
  all_goals exact .inr (.inr ⟨.inr ⟨by decide, by decide⟩, rfl⟩)

theorem followingWork_cases (s : State) :
    (s.link.state.moving = true ∧ followingExcess s = true ∧ followingWork s = enterHalted .followingError s) ∨
    ((s.link.state.moving = false ∨ followingExcess s = false) ∧ followingWork s = s) := by
  unfold followingWork
  cases hm : s.link.state.moving
  · exact .inr ⟨.inl rfl, rfl⟩
  cases hf : followingExcess s
  · exact .inr ⟨.inr rfl, rfl⟩
  · refine .inl ⟨rfl, rfl, ?_⟩
    have he : s.link.state.enabled = true := by
      revert hm
      cases s.link.state <;> decide
    simp [halt, he]

/-- What a frame on the drive chain does: it is dropped, or its values stand and the part halts, starts to run, or goes
on. -/
theorem returnArrives_cases (bytes : List Byte) (s : State) :
    (returnsOf bytes = none ∧ returnArrives bytes s = s) ∨
    (∃ r u, returnsOf bytes = some r ∧ u = { s with link := { s.link with
        returns := some r, returnFresh := s.link.returnFresh || s.link.enableSent } } ∧
      ((anyStation (· = .fault) r = true ∧ returnArrives bytes s = halt .driveFault u) ∨
       (anyStation (· = .fault) r = false ∧ s.link.state = .activating ∧ s.link.enableSent = true ∧
         allStations (· = .ready) r = true ∧ returnArrives bytes s = enterRunning u) ∨
       (anyStation (· = .fault) r = false ∧
         ¬ (s.link.state = .activating ∧ s.link.enableSent = true ∧ allStations (· = .ready) r = true) ∧
         returnArrives bytes s = u))) := by
  unfold returnArrives
  cases hr : returnsOf bytes with
  | none => exact .inl ⟨rfl, rfl⟩
  | some r =>
    refine .inr ⟨r, _, rfl, rfl, ?_⟩
    dsimp only
    cases hf : anyStation (· = .fault) r
    · by_cases h : s.link.state = .activating ∧ s.link.enableSent = true ∧ allStations (· = .ready) r = true
      · exact .inr (.inl ⟨rfl, h.1, h.2.1, h.2.2, by simp [h]⟩)
      · exact .inr (.inr ⟨rfl, h, by simp [h]⟩)
    · exact .inl ⟨rfl, by simp⟩

/-- A frame on the command link is dropped, accepted into the slot, or accepted and the end of OFFLINE. -/
theorem frameArrives_cases (bytes : List Byte) (order : List ClampAxis) (s : State) :
    (cycleFrameOf bytes = none ∧ frameArrives bytes order s = s) ∨
    (∃ f, cycleFrameOf bytes = some f ∧ s.link.state = .offline ∧
      frameArrives bytes order s = leaveOffline order (acceptFrame f s)) ∨
    (∃ f, cycleFrameOf bytes = some f ∧ s.link.state ≠ .offline ∧ frameArrives bytes order s = acceptFrame f s) := by
  unfold frameArrives
  cases hf : cycleFrameOf bytes with
  | none => exact .inl ⟨rfl, rfl⟩
  | some f =>
    by_cases h : s.link.state = .offline
    · exact .inr (.inl ⟨f, rfl, h, if_pos h⟩)
    · exact .inr (.inr ⟨f, rfl, h, if_neg h⟩)

/-- An acceptance ends OFFLINE in STANDBY, or with the E-stop open in HALTED. -/
theorem leaveOffline_cases (order : List ClampAxis) (s : State) :
    ∃ u, u = enterStandby order { s with link := { s.link with missCount := 0 } } ∧
      ((s.inputs.estopOpen = false ∧ leaveOffline order s = u) ∨
       (s.inputs.estopOpen = true ∧ leaveOffline order s = enterHalted .estop u)) := by
  refine ⟨_, rfl, ?_⟩
  have hi : (enterStandby order { s with link := { s.link with missCount := 0 } }).inputs = s.inputs :=
    (enterStandby_within order _).same_inputs
  unfold leaveOffline
  dsimp only
  rw [hi]
  cases s.inputs.estopOpen
  · exact .inl ⟨rfl, rfl⟩
  · exact .inr ⟨rfl, rfl⟩

/-- An E-stop opening halts the part outside OFFLINE and HALTED. -/
theorem estopOpens_cases (s : State) :
    ∃ u, u = { s with inputs := { s.inputs with estopOpen := true } } ∧
      ((s.link.state ≠ .offline ∧ s.link.state ≠ .halted ∧ estopOpens s = enterHalted .estop u) ∨
       ((s.link.state = .offline ∨ s.link.state = .halted) ∧ estopOpens s = u)) := by
  refine ⟨_, rfl, ?_⟩
  unfold estopOpens
  dsimp only
  cases s.link.state <;> simp [LinkState.enabled]

theorem activationEnds_cases (s : State) :
    (s.link.state = .activating ∧ s.link.activation.isSome = true ∧
      activationEnds s = raise .activateFault (enterStandby [] s)) ∨
    (¬ (s.link.state = .activating ∧ s.link.activation.isSome = true) ∧ activationEnds s = s) := by
  unfold activationEnds
  by_cases h : s.link.state = .activating ∧ s.link.activation.isSome = true
  · exact .inl ⟨h.1, h.2, if_pos h⟩
  · exact .inr ⟨h, if_neg h⟩

/-- A link controller's service is refused, or is one of the four with its effect; its answer stands over it. -/
theorem linkService_cases (k : ServiceKind) (body : List Byte) (order : List ClampAxis) (s : State) :
    ∃ u, Within [.sent] u (linkService k body order s) ∧
      (u = s ∨
       (k = .start ∧ s.link.state = .standby ∧ allPresent s = true ∧ ∃ p, u = enterActivating p s) ∨
       (k = .stop ∧ s.link.state = .running ∧ u = leaveRunning .stopping s) ∨
       (k = .recover ∧ s.link.state = .halted ∧ s.inputs.estopOpen = false ∧
         u = enterStandby order { s with link := { s.link with cause := .none } })) := by
  have unchanged {v : State} (h : Within [.sent] s v) :
      ∃ u, Within [.sent] u v ∧ (u = s ∨
       (k = .start ∧ s.link.state = .standby ∧ allPresent s = true ∧ ∃ p, u = enterActivating p s) ∨
       (k = .stop ∧ s.link.state = .running ∧ u = leaveRunning .stopping s) ∨
       (k = .recover ∧ s.link.state = .halted ∧ s.inputs.estopOpen = false ∧
         u = enterStandby order { s with link := { s.link with cause := .none } })) := ⟨s, h, .inl rfl⟩
  unfold linkService
  cases k
  case start =>
    dsimp only
    unfold judged
    split
    · unfold startService
      split
      · exact unchanged (refuse_within _ _ s)
      split
      · exact unchanged (refuse_within _ _ s)
      · rename_i hst
        split
        · exact unchanged (refuse_within _ _ s)
        split
        · rename_i p _ hp
          exact ⟨_, answer_within _ _ _ _, .inr (.inl ⟨rfl, by simpa using hst, hp, p, rfl⟩)⟩
        · exact unchanged (refuse_within _ _ s)
    · exact unchanged (refuse_within _ _ s)
  case stop =>
    dsimp only
    unfold judged
    split
    · unfold stopService
      split
      · rename_i h
        exact ⟨_, answer_within _ _ _ _, .inr (.inr (.inl ⟨rfl, h, rfl⟩))⟩
      · exact unchanged (refuse_within _ _ s)
    · exact unchanged (refuse_within _ _ s)
  case recover =>
    dsimp only
    unfold judged
    split
    · unfold recoverService
      split
      · rename_i h
        exact ⟨_, answer_within _ _ _ _, .inr (.inr (.inr ⟨rfl, h.1, h.2, rfl⟩))⟩
      · exact unchanged (refuse_within _ _ s)
    · exact unchanged (refuse_within _ _ s)
  case restart => exact unchanged (judged_within _ _ restartService_within (by decide) s)
  all_goals exact unchanged (.refl _ s)

/-! ## RESTART -/

/-- R19: every block at its reset values; what then remains is formed anew from them. -/
def restartBase (s : State) : State :=
  { s with
    link := { linkReset with period := s.link.period, returns := s.link.returns }
    axes := PerAxis.of fun a => { axisReset with out := actualPos s a }
    comp := compReset
    clamps := PerClamp.of (restartedClamp s)
    bank := bankReset
    gear := restartedGear s
    coolant := coolantReset
    pendant := pendantReset s.pendant.phaseA s.pendant.phaseB
    store := { s.store with staging := stagingZero, snapshot := none } }

theorem restart_eq (s : State) : restart s = droopWork (startLube (reevaluate (restartBase s))) := rfl

theorem restart_within_base (s : State) : Within [.gear, .coolant, .comp] (restartBase s) (restart s) :=
  ((reevaluate_within _).comp (startLube_within _)).comp (droopWork_within _)

theorem restart_link (s : State) :
    (restart s).link = { linkReset with period := s.link.period, returns := s.link.returns } :=
  (restart_within_base s).same_link

theorem restart_coolant (s : State) : ∃ l, (restart s).coolant = { coolantReset with lube := l } := by
  refine ⟨(startLube (reevaluate (restartBase s))).coolant.lube, ?_⟩
  rw [restart_eq, (droopWork_within _).same_coolant]
  unfold startLube
  dsimp only
  rw [(reevaluate_within _).same_coolant]
  rfl

theorem restart_gear (s : State) : (restart s).gear = (reevaluate (restartBase s)).gear :=
  ((startLube_within _).comp (droopWork_within _)).same_gear

/-! ## What the block services can do -/

/-- The effect of a service taken with the blocks' work, less its answer: nothing, or the effect of one that passed its
checks. -/
inductive BlockEffect (order : List ClampAxis) (s : State) : State → Prop
  | none : BlockEffect order s s
  | write (t : TableId) (off : Nat) (data : List Byte) (hl : s.link.state = .standby)
      (hf : off + data.length ≤ tableSizes.get t) :
      BlockEffect order s { s with store := { s.store with
        staging := s.store.staging.set t (overwrite (s.store.staging.get t) off data) } }
  | commit (t : TableId) (hl : s.link.state = .standby) (hs : storing s = false)
      (ht : tableFailure t (s.store.staging.get t) = Option.none) :
      BlockEffect order s (commitEffects t (activeBytes s t) order (setActive t (imageOf (s.store.staging.get t)) s))
  | store (hl : s.link.state = .standby) : BlockEffect order s (beginStore s)
  | flags {t : State} (hw : Within [.flags] s t) : BlockEffect order s t
  | trigger (p : Fin 8) (hc : coolantWorks s = true) (hp : present s .programs = true) :
      BlockEffect order s (triggerProgram p s)
  | stop : BlockEffect order s (stopCoolant s)
  | growth (hard : Bool) : BlockEffect order s (growthTrigger hard s)
  | zero (bs : List Byte) (sum : Nat) (hb : activeBytes s .compensation = some bs) (hm : s.comp.lastSum = some sum)
      (hl : s.link.state = .standby ∨ s.link.state = .running) :
      BlockEffect order s (setActive .compensation (imageOf (overwrite bs 42 (be16 (growthRef sum)))) s)
  | clamp (a : ClampAxis) (hf : (s.clamps.get a).state = .fault) (hp : clampInForce s a = true) :
      BlockEffect order s (clearClampFault a s)
  | gear (hf : s.gear.state = .fault) : BlockEffect order s (reevaluate s)

/-- A service's effect with an answer over it. -/
def Served (order : List ClampAxis) (s t : State) : Prop := ∃ u, BlockEffect order s u ∧ Within [.sent] u t

section
variable {order : List ClampAxis} {s : State}

theorem Served.same : Served order s s := ⟨s, .none, .refl _ s⟩

theorem Served.refuse (k : ServiceKind) (st : Status) : Served order s (refuse k st s) :=
  ⟨s, .none, refuse_within k st s⟩

theorem Served.of_effect {u : State} (h : BlockEffect order s u) (k : ServiceKind) (st : Status) (body : List Byte) :
    Served order s (answer k st body u) := ⟨u, h, answer_within k st body u⟩

theorem Served.judged (k : ServiceKind) (body : List Byte) {act : State → State} (h : Served order s (act s)) :
    Served order s (judged k body act s) := by
  unfold Machine.judged
  split
  · exact h
  · exact .refuse k _

theorem writeService_served (body : List Byte) : Served order s (writeService body s) := by
  unfold writeService
  split
  · exact .refuse _ _
  split
  · exact .refuse _ _
  rename_i hl
  split
  · exact .refuse _ _
  rename_i t _
  dsimp only
  split
  · rename_i hf
    exact .of_effect (.write t _ _ (by simpa using hl) hf) _ _ _
  · exact .refuse _ _

theorem commitService_served (body : List Byte) : Served order s (commitService body order s) := by
  unfold commitService
  split
  · exact .refuse _ _
  rename_i hs
  split
  · exact .refuse _ _
  rename_i hl
  split
  · exact .refuse _ _
  rename_i t _
  dsimp only
  split
  · split
    · exact .of_effect .none _ _ _
    · rename_i ht
      exact .of_effect (.commit t (by simpa using hl) (by simpa using hs) ht) _ _ _
  · exact .of_effect .none _ _ _

theorem storeService_served : Served order s (storeService s) := by
  unfold storeService
  split
  · exact .refuse _ _
  split
  · exact .refuse _ _
  · rename_i hl
    exact .of_effect (.store (by simpa using hl)) _ _ _

theorem clearFlagsService_served (body : List Byte) : Served order s (clearFlagsService body s) := by
  unfold clearFlagsService
  split
  · exact .refuse _ _
  split
  · exact .refuse _ _
  · exact .of_effect (.flags (lowerFlags_within _ s)) _ _ _

theorem setMaskService_served (body : List Byte) : Served order s (setMaskService body s) := by
  unfold setMaskService
  split
  · exact .refuse _ _
  · exact .of_effect (.flags (replaceMask_within _ s)) _ _ _

theorem coolantTriggerService_served (body : List Byte) : Served order s (coolantTriggerService body s) := by
  unfold coolantTriggerService
  split
  · rename_i hc
    split
    · rename_i hp
      split
      · exact .of_effect (.trigger _ hc hp) _ _ _
      · exact .refuse _ _
    · exact .refuse _ _
  · exact .refuse _ _

theorem compTriggerService_served (body : List Byte) : Served order s (compTriggerService body s) := by
  unfold compTriggerService
  split
  · split
    · exact .of_effect (.growth false) _ _ _
    · exact .of_effect (.growth true) _ _ _
    · exact .refuse _ _
  · exact .refuse _ _

theorem growthZeroService_served : Served order s (growthZeroService s) := by
  unfold growthZeroService
  split
  · rename_i hl
    split
    · exact .refuse _ _
    · rename_i bs hb
      split
      · exact .refuse _ _
      · rename_i sum hm
        exact .of_effect (.zero bs sum hb hm hl) _ _ _
  · exact .refuse _ _

theorem clearClampService_served (a : ClampAxis) : Served order s (clearClampService a s) := by
  unfold clearClampService
  split
  · exact .refuse _ _
  rename_i bs hb
  split
  · rename_i hp
    split
    · rename_i hf
      exact .of_effect (.clamp a hf (by unfold clampInForce; rw [hb]; exact hp)) _ _ _
    · exact .refuse _ _
  · exact .refuse _ _

theorem clearGearService_served : Served order s (clearGearService s) := by
  unfold clearGearService
  split
  · split
    · rename_i hf
      exact .of_effect (.gear hf) _ _ _
    · exact .refuse _ _
  · exact .refuse _ _

theorem clearFaultService_served (body : List Byte) : Served order s (clearFaultService body s) := by
  unfold clearFaultService
  split
  · exact .refuse _ _
  · exact clearClampService_served _
  · exact clearGearService_served

/-- What a service taken with the blocks' work can do. -/
theorem blockService_served (k : ServiceKind) (body : List Byte) : Served order s (blockService k body order s) := by
  unfold blockService
  cases k
  case writeSegment => exact .judged _ _ (writeService_served body)
  case commit => exact .judged _ _ (commitService_served body)
  case store => exact .judged _ _ storeService_served
  case clearFlags => exact .judged _ _ (clearFlagsService_served body)
  case setMask => exact .judged _ _ (setMaskService_served body)
  case coolantTrigger => exact .judged _ _ (coolantTriggerService_served body)
  case coolantStop => exact .judged _ _ (.of_effect .stop _ _ _)
  case compTrigger => exact .judged _ _ (compTriggerService_served body)
  case growthZero => exact .judged _ _ growthZeroService_served
  case clearFault => exact .judged _ _ (clearFaultService_served body)
  all_goals exact .same

/-- The service of an expiry is its record's, or nothing. -/
theorem runTask_service_served (c : Turn) : Served c.claimOrder s (runTask c .service s) := by
  unfold runTask
  dsimp only
  split
  · exact blockService_served _ _
  · exact .same

end

/-! ## What a law reads -/

/-- A property that looks at the listed parts of the state alone. -/
def Reads (d : List Part) (P : State → Prop) : Prop := ∀ {s t : State}, (∀ p ∈ d, Same s t p) → P s → P t

/-- Work that reaches none of the parts that a property reads keeps it. -/
theorem Reads.keep {d l : List Part} {P : State → Prop} (h : Reads d P) {s t : State} (hw : Within l s t) (hs : P s)
    (hd : ∀ p ∈ d, p ∉ l := by exact of_decide_eq_true rfl) : P t := h (fun p hp => hw p (hd p hp)) hs

/-! ## What the link controller's transitions keep -/

/-- A property that each transition of the link controller keeps, with the link state from which it is made. The end of
STOPPING and LINK_LOST, which an expiry alone makes, is left out where `ends` is FALSE. -/
structure LinkKept (P : State → Prop) (ends : Bool := true) : Prop where
  quiet : ∀ (l : Link) {s : State}, l.state = s.link.state → l.enable = s.link.enable →
    l.enableSent = s.link.enableSent → P s → P { s with link := l }
  raise : ∀ (f : Flag) {s : State}, P s → P (raise f s)
  estop : ∀ (b : Bool) {s : State}, P s → P { s with inputs := { s.inputs with estopOpen := b } }
  rest : ∀ (st : LinkState) {s : State}, st.atRest = true → P s → P (enterRest st s)
  standby : ∀ (order : List ClampAxis) {s : State}, s.link.state ≠ .running →
    (ends = false → s.link.state.moving = false) → P s → P (enterStandby order s)
  activating : ∀ (p : Period) {s : State}, s.link.state = .standby → allPresent s = true → P s →
    P (enterActivating p s)
  running : ∀ {s : State}, s.link.state = .activating → s.link.enableSent = true → P s → P (enterRunning s)
  leave : ∀ (st : LinkState) {s : State}, st = .stopping ∨ st = .linkLost → s.link.state = .running → P s →
    P (leaveRunning st s)
  lost : ∀ {s : State}, s.link.state = .stopping → P s → P { s with link := { s.link with state := .linkLost } }

namespace LinkKept
variable {P : State → Prop} {ends : Bool} (k : LinkKept P ends) {s : State}
include k

theorem raiseIf (c : Bool) (f : Flag) (h : P s) : P (raiseIf c f s) := by
  unfold Machine.raiseIf
  split
  · exact k.raise f h
  · exact h

theorem enterHalted (cause : HaltCause) (h : P s) : P (enterHalted cause s) :=
  k.raise .halted (k.quiet _ rfl rfl rfl (k.rest .halted rfl h))

theorem enterOffline (h : P s) : P (enterOffline s) := k.quiet _ rfl rfl rfl (k.rest .offline rfl h)

theorem halt (cause : HaltCause) (h : P s) : P (halt cause s) := by
  rcases halt_cases cause s with ⟨-, e⟩ | ⟨-, e⟩
  · exact e.symm ▸ k.enterHalted cause h
  · exact e.symm ▸ h

theorem enterLinkLost (hl : s.link.state = .running ∨ s.link.state = .stopping) (h : P s) : P (enterLinkLost s) := by
  unfold Machine.enterLinkLost
  split
  · rename_i hr
    exact k.raise _ (k.leave _ (.inr rfl) hr h)
  · rename_i hr
    exact k.raise _ (k.lost (hl.resolve_left hr) h)

theorem missWork (h : P s) : P (missWork s) := by
  rcases missWork_cases s with ⟨-, e⟩ | ⟨-, -, e⟩ | ⟨-, -, e⟩
  · exact e.symm ▸ h
  · exact e.symm ▸ k.quiet _ rfl rfl rfl h
  · have counted := k.quiet { s.link with missCount := min 255 (s.link.missCount + 1) } rfl rfl rfl h
    rw [e]
    rcases missTransition_cases { s with link := { s.link with missCount := min 255 (s.link.missCount + 1) } }
      with ⟨-, e⟩ | ⟨hl, e⟩ | ⟨-, e⟩
    · exact e.symm ▸ k.enterOffline counted
    · exact e.symm ▸ k.enterLinkLost hl counted
    · exact e.symm ▸ counted

theorem slotWork (taken : Option CycleFrame) (h : P s) : P (slotWork taken s) := by
  cases taken with
  | some f => exact k.quiet _ rfl rfl rfl h
  | none => exact k.missWork h

theorem chainWork (h : P s) : P (chainWork s) := by
  rcases chainWork_cases s with ⟨n, e⟩ | ⟨-, -, e⟩
  · exact e.symm ▸ k.quiet _ rfl rfl rfl h
  · exact e.symm ▸ k.halt _ (k.quiet _ rfl rfl rfl h)

theorem endWork (he : ends = true) (order : List ClampAxis) (h : P s) : P (endWork order s) := by
  rcases endWork_cases order s with ⟨-, hl, e⟩ | ⟨-, -, -, e⟩ | ⟨-, e⟩
  · have hr : s.link.state ≠ .running := by rcases hl with hl | ⟨hl, -⟩ <;> rw [hl] <;> decide
    exact e.symm ▸ k.raise _ (k.standby order hr (fun hf => by rw [he] at hf; cases hf) h)
  · exact e.symm ▸ k.raise _ (k.enterOffline h)
  · exact e.symm ▸ h

theorem followingWork (h : P s) : P (followingWork s) := by
  rcases followingWork_cases s with ⟨-, -, e⟩ | ⟨-, e⟩
  · exact e.symm ▸ k.enterHalted _ h
  · exact e.symm ▸ h

theorem linkWork (he : ends = true) (taken : Option CycleFrame) (order : List ClampAxis) (h : P s) :
    P (linkWork taken order s) := k.followingWork (k.endWork he order (k.chainWork (k.slotWork taken h)))

theorem acceptFrame (f : CycleFrame) (h : P s) : P (acceptFrame f s) :=
  k.raiseIf _ _ (k.raiseIf _ _ (k.quiet _ rfl rfl rfl h))

theorem leaveOffline (order : List ClampAxis) (hl : s.link.state = .offline) (h : P s) : P (leaveOffline order s) := by
  have hr : s.link.state ≠ .running := by rw [hl]; decide
  have entered := k.standby order (s := { s with link := { s.link with missCount := 0 } }) hr
    (fun _ => by rw [hl]; rfl) (k.quiet _ rfl rfl rfl h)
  obtain ⟨u, rfl, ⟨-, e⟩ | ⟨-, e⟩⟩ := leaveOffline_cases order s
  · exact e.symm ▸ entered
  · exact e.symm ▸ k.enterHalted _ entered

theorem frameArrives (bytes : List Byte) (order : List ClampAxis) (h : P s) : P (frameArrives bytes order s) := by
  rcases frameArrives_cases bytes order s with ⟨-, e⟩ | ⟨f, -, hl, e⟩ | ⟨f, -, -, e⟩
  · exact e.symm ▸ h
  · have hl' : (Machine.acceptFrame f s).link.state = .offline := by
      unfold Machine.acceptFrame
      rw [(raiseIf_within _ _ _).same_link, (raiseIf_within _ _ _).same_link]
      exact hl
    exact e.symm ▸ k.leaveOffline order hl' (k.acceptFrame f h)
  · exact e.symm ▸ k.acceptFrame f h

theorem returnArrives (bytes : List Byte) (h : P s) : P (returnArrives bytes s) := by
  rcases returnArrives_cases bytes s with ⟨-, e⟩ | ⟨r, u, -, rfl, he⟩
  · exact e.symm ▸ h
  have stored := k.quiet { s.link with returns := some r, returnFresh := s.link.returnFresh || s.link.enableSent }
    rfl rfl rfl h
  rcases he with ⟨-, e⟩ | ⟨-, ha, hs, -, e⟩ | ⟨-, -, e⟩
  · exact e.symm ▸ k.halt _ stored
  · exact e.symm ▸ k.running ha hs stored
  · exact e.symm ▸ stored

theorem activationEnds (h : P s) : P (activationEnds s) := by
  rcases activationEnds_cases s with ⟨hl, -, e⟩ | ⟨-, e⟩
  · exact e.symm ▸ k.raise _ (k.standby [] (by rw [hl]; decide) (fun _ => by rw [hl]; rfl) h)
  · exact e.symm ▸ h

theorem estopOpens (h : P s) : P (estopOpens s) := by
  obtain ⟨u, rfl, ⟨-, -, e⟩ | ⟨-, e⟩⟩ := estopOpens_cases s
  · exact e.symm ▸ k.enterHalted _ (k.estop true h)
  · exact e.symm ▸ k.estop true h

theorem estopCloses (h : P s) : P (estopCloses s) := k.estop false h

theorem linkService (hsent : ∀ {u t : State}, Within [.sent] u t → P u → P t) (kind : ServiceKind) (body : List Byte)
    (order : List ClampAxis) (h : P s) : P (linkService kind body order s) := by
  obtain ⟨u, hw, hu⟩ := linkService_cases kind body order s
  refine hsent hw ?_
  rcases hu with rfl | ⟨-, hl, hp, p, rfl⟩ | ⟨-, hl, rfl⟩ | ⟨-, hl, -, rfl⟩
  · exact h
  · exact k.activating p hl hp h
  · exact k.leave _ (.inl rfl) hl h
  · have hr : s.link.state ≠ .running := by rw [hl]; decide
    exact k.standby order (s := { s with link := { s.link with cause := .none } }) hr (fun _ => by rw [hl]; rfl)
      (k.quiet _ rfl rfl rfl h)

end LinkKept

/-! ## Drive enable (R8) -/

theorem enableLaw_reads : Reads [.link] EnableLaw := by
  intro s t h hs
  have hl : t.link = s.link := h .link (by decide)
  unfold EnableLaw at *
  rw [hl]
  exact hs

/-- Each transition sets drive enable with the link state. -/
theorem enableLaw_link : LinkKept EnableLaw where
  quiet l s hst hen _ h := by
    unfold EnableLaw at *
    exact hen.trans (h.trans (by rw [← hst]))
  raise _ _ h := h
  estop _ _ h := h
  rest st s hr _ := by
    unfold EnableLaw
    rw [enterRest_link]
    cases st <;> first | rfl | cases hr
  standby order s _ _ _ := by
    unfold EnableLaw
    rw [enterStandby_link]
    rfl
  activating _ _ _ _ _ := rfl
  running {s} hl _ h := by
    unfold EnableLaw at *
    rw [enterRunning_link, h, hl]
    rfl
  leave st s hst hl h := by
    unfold EnableLaw at *
    rw [leaveRunning_link, h, hl]
    rcases hst with rfl | rfl <;> rfl
  lost {s} hl h := by
    unfold EnableLaw at *
    rw [h, hl]
    rfl


/-- Apart from the link controller's transitions nothing touches the link state or drive enable. -/
theorem enableLaw_kept : Kept EnableLaw where
  reset _ _ _ _ _ := rfl
  settle order _ h := enableLaw_reads.keep (settleTriggers_within order _) h
  sent _ _ h := h
  between e s h := by
    cases e
    case frameArrival bytes order => exact enableLaw_link.frameArrives bytes order h
    case returnFrame bytes => exact enableLaw_link.returnArrives bytes h
    case activationCeiling => exact enableLaw_link.activationEnds h
    case estopOpening => exact enableLaw_link.estopOpens h
    all_goals exact enableLaw_reads.keep (betweenWork_within _ s) h
  linkService kind body order _ h := enableLaw_link.linkService (fun hw hu => enableLaw_reads.keep hw hu) kind body order h
  restart {s} _ := by unfold EnableLaw; rw [restart_link]; rfl
  passTime _ _ h := h
  linkWork taken order _ h := enableLaw_link.linkWork rfl taken order h
  intake inp taken _ h := enableLaw_reads.keep (intakeStage_within inp taken _) h
  task c u _ h := enableLaw_reads.keep ((runTask_within c u _).mono (taskParts_subset u)) h
  leave _ _ _ h := h

/-- Settles O4: the link controller's transitions set drive enable with the link state, and nothing else touches it. -/
theorem enableLawKept : Obligations.EnableLawKept := fun _ _ h e => enableLaw_kept.step (fun _ _ hu => hu) h e

end Sys2Proof.Machine

/-! # The coolant program queue (R116, R120) -/

namespace Sys2Proof.Machine

-- Many short proofs that wait for the same case splitters: one after the other they need less memory.
set_option Elab.async false

/-! ## Tables -/

theorem present_eq_true_iff (s : State) (t : TableId) : present s t = true ↔ ∃ bs, activeBytes s t = some bs := by
  unfold present activeBytes
  cases s.store.active.get t <;> simp

theorem present_of_activeBytes {s : State} {t : TableId} {bs : List Byte} (h : activeBytes s t = some bs) :
    present s t = true := (present_eq_true_iff s t).mpr ⟨bs, h⟩

theorem activeBytes_congr {s t : State} (h : t.store = s.store) (q : TableId) : activeBytes t q = activeBytes s q := by
  unfold activeBytes
  rw [h]

theorem present_congr {s t : State} (h : t.store = s.store) (q : TableId) : present t q = present s q := by
  unfold present
  rw [h]

/-- A table that has become active is present, and no other table goes. -/
theorem present_setActive {s : State} {q : TableId} (t : TableId) (img : Image) (h : present s q = true) :
    present (setActive t img s) q = true := by
  unfold present setActive at *
  by_cases e : q = t
  · subst e
    dsimp only
    rw [PerTable.get_set_self]
    rfl
  · dsimp only
    rw [PerTable.get_set_ne _ _ e]
    exact h

/-! ## The law -/

/-- The law looks at the queue, the running program and the presence of the programs table alone. -/
theorem CoolantLaw.of_same {s t : State} (h : CoolantLaw s) (hq : t.coolant.queue = s.coolant.queue)
    (hr : t.coolant.running.map Run.program = s.coolant.running.map Run.program)
    (hp : present s .programs = true → present t .programs = true) : CoolantLaw t := by
  obtain ⟨hlen, hnodup, hrun, hidle⟩ := h
  unfold CoolantLaw
  rw [hq]
  refine ⟨hlen, hnodup, fun r e => ?_, fun e => hidle ?_⟩
  · rw [e] at hr
    cases hs : s.coolant.running with
    | none => rw [hs] at hr; cases hr
    | some r' =>
      rw [hs] at hr
      obtain ⟨hmem, hpres⟩ := hrun r' hs
      have hprog : r.program = r'.program := by simpa using hr
      exact ⟨hprog ▸ hmem, hp hpres⟩
  · rw [e] at hr
    cases hs : s.coolant.running with
    | none => rfl
    | some r' => rw [hs] at hr; cases hr

/-- With nothing running and nothing queued the law holds. -/
theorem CoolantLaw.of_idle {t : State} (hr : t.coolant.running = none) (hq : t.coolant.queue = []) : CoolantLaw t := by
  unfold CoolantLaw
  rw [hr, hq]
  exact ⟨by decide, List.nodup_nil, fun r e => (nomatch e), fun _ => rfl⟩

theorem coolantLaw_reads : Reads [.coolant, .store] CoolantLaw := by
  intro s t h hs
  have hc : t.coolant = s.coolant := h .coolant (by decide)
  have ht : t.store = s.store := h .store (by decide)
  exact hs.of_same (by rw [hc]) (by rw [hc]) (by rw [present_congr ht]; exact id)

/-- A program is under way with the rest of the queue behind it, and fuel enough to leave it: the state in which `advance`
is called. -/
structure Advancing (fuel : Nat) (p : Fin 8) (i : Nat) (s : State) : Prop where
  length : s.coolant.queue.length ≤ 4
  nodup : s.coolant.queue.Nodup
  mem : p ∉ s.coolant.queue
  present : present s .programs = true
  fuel : 8 * s.coolant.queue.length + max 1 (8 - i) ≤ fuel

theorem programSteps_le (s : State) (p : Fin 8) : programSteps s p ≤ 6 := by
  unfold programSteps
  split
  · exact min_le_left _ _
  · exact Nat.zero_le _

/-- `advance` has fuel enough to end in a step that takes time, or with the queue empty. -/
theorem Advancing.law {fuel : Nat} {p : Fin 8} {i : Nat} {s : State} (h : Advancing fuel p i s) :
    CoolantLaw (advance fuel p i s) := by
  induction fuel generalizing p i s with
  | zero =>
    have := h.fuel
    omega
  | succ fuel ih =>
    obtain ⟨hlen, hnodup, hmem, hpres, hfuel⟩ := h
    obtain ⟨bs, hbs⟩ := (present_eq_true_iff s .programs).mp hpres
    unfold advance
    simp only [hbs]
    split
    · rename_i hi
      have := programSteps_le s p
      cases he : (stepEntry s bs p i).2 with
      | some ph =>
        exact ⟨hlen, hnodup, fun r e => by cases e; exact ⟨hmem, hpres⟩, fun e => by cases e⟩
      | none => exact ih ⟨hlen, hnodup, hmem, hpres, by dsimp only; omega⟩
    · cases hq : s.coolant.queue with
      | nil =>
        simp only [raise_coolant]
        exact .of_idle rfl rfl
      | cons q rest =>
        simp only [raise_coolant]
        rw [hq] at hlen hnodup hfuel
        rw [List.length_cons] at hlen hfuel
        obtain ⟨hqr, hrest⟩ := List.nodup_cons.mp hnodup
        exact ih ⟨by dsimp only; omega, hrest, hqr, hpres, by dsimp only; omega⟩

/-- A start has fuel enough. -/
theorem startProgram_law {p : Fin 8} {s : State} (hlen : s.coolant.queue.length ≤ 4) (hnodup : s.coolant.queue.Nodup)
    (hmem : p ∉ s.coolant.queue) (hpres : present s .programs = true) : CoolantLaw (startProgram p s) :=
  Advancing.law ⟨hlen, hnodup, hmem, hpres, by unfold runFuel; omega⟩

/-- Starting the oldest of a queue that may start keeps the law; with the queue empty nothing starts. -/
theorem startNext_law {s : State} (hr : s.coolant.running = none) (hlen : s.coolant.queue.length ≤ 4)
    (hnodup : s.coolant.queue.Nodup) (hpres : s.coolant.queue ≠ [] → present s .programs = true) :
    CoolantLaw (startNext s) := by
  unfold startNext
  rw [hr]
  cases hq : s.coolant.queue with
  | nil => exact .of_idle hr hq
  | cons q rest =>
    rw [hq] at hlen hnodup
    rw [List.length_cons] at hlen
    obtain ⟨hqr, hrest⟩ := List.nodup_cons.mp hnodup
    exact startProgram_law (by dsimp only; omega) hrest hqr (hpres (by rw [hq]; exact List.cons_ne_nil _ _))

section
variable {s : State} (h : CoolantLaw s)
include h

theorem CoolantLaw.raise (f : Flag) : CoolantLaw (raise f s) := h.of_same rfl rfl id

theorem CoolantLaw.announce (src : TriggerSource) : CoolantLaw (announce src s) := h.of_same rfl rfl id

theorem CoolantLaw.startNext : CoolantLaw (startNext s) := by
  cases hr : s.coolant.running with
  | none =>
    obtain ⟨hlen, hnodup, -, hidle⟩ := h
    exact startNext_law hr hlen hnodup fun hq => absurd (hidle hr) hq
  | some r =>
    have e : Machine.startNext s = s := by unfold Machine.startNext; rw [hr]
    rw [e]
    exact h

theorem CoolantLaw.completeStep {r r' : Run} (hr : s.coolant.running = some r') (hp : r.program = r'.program) :
    CoolantLaw (completeStep r s) := by
  obtain ⟨hlen, hnodup, hrun, -⟩ := h
  obtain ⟨hmem, hpres⟩ := hrun r' hr
  exact Advancing.law (s := { s with coolant := { s.coolant with running := none } })
    ⟨hlen, hnodup, hp ▸ hmem, hpres, by unfold runFuel; dsimp only; omega⟩

theorem CoolantLaw.pauseEnds : CoolantLaw (pauseEnds s) := by
  unfold Machine.pauseEnds
  split
  · rename_i hr
    exact h.completeStep hr rfl
  · exact h

theorem CoolantLaw.coolantWaitWork : CoolantLaw (coolantWaitWork s) := by
  unfold Machine.coolantWaitWork
  split
  · rename_i p i c bs hr hbs
    split
    · unfold waitEnds
      simp only [hbs]
      split
      · exact h.completeStep hr rfl
      · exact h.of_same rfl (by rw [hr]; rfl) id
    · exact h
  · exact h

theorem CoolantLaw.waitCeilingEnds : CoolantLaw (waitCeilingEnds s) := by
  unfold Machine.waitCeilingEnds
  split
  · rename_i hr
    obtain ⟨hlen, hnodup, hrun, -⟩ := h
    exact startNext_law rfl hlen hnodup fun _ => (hrun _ hr).2
  · exact h

/-- R120: a merged or dropped trigger leaves the queue, a queued one is neither running nor queued yet, and a start finds
the queue empty. -/
theorem CoolantLaw.triggerProgram (p : Fin 8) : CoolantLaw (triggerProgram p s) := by
  unfold Machine.triggerProgram triggerOutcome
  split
  · exact h
  · rename_i he
    split at he
    · cases he
    rename_i hsteps
    have hpres : present s .programs = true := by
      cases hb : activeBytes s .programs with
      | none => exact absurd (by unfold programSteps; rw [hb]) hsteps
      | some bs => exact present_of_activeBytes hb
    split at he
    · rename_i hr
      obtain ⟨hlen, hnodup, -, hidle⟩ := h
      exact startProgram_law hlen hnodup (by rw [hidle hr]; exact List.not_mem_nil) hpres
    · split at he
      · cases he
      · split at he <;> cases he
  · exact h.raise _
  · exact h.raise _
  · rename_i he
    split at he
    · cases he
    split at he
    · cases he
    rename_i r hr
    split at he
    · cases he
    rename_i hn
    split at he
    · cases he
    rename_i hlt
    obtain ⟨hrp, hpq⟩ := not_or.mp hn
    obtain ⟨hlen, hnodup, hrun, -⟩ := h
    obtain ⟨hmem, hpres⟩ := hrun r hr
    refine ⟨?_, ?_, fun r' e => ?_, fun e => ?_⟩
    · simp only [List.length_append, List.length_singleton]
      omega
    · exact List.nodup_append.mpr ⟨hnodup, List.nodup_singleton p, fun a ha b hb e => hpq (by simp_all)⟩
    · rw [show r' = r from Option.some.inj (e.symm.trans hr)]
      exact ⟨by simp [hmem, hrp], hpres⟩
    · exact absurd (hr.symm.trans e) (by simp)

theorem CoolantLaw.triggerSource (src : TriggerSource) : CoolantLaw (triggerSource src s) := by
  unfold Machine.triggerSource
  split
  · split
    · split
      · exact h.triggerProgram _
      · exact h
    · exact h
  · exact h

theorem CoolantLaw.settleDemand : CoolantLaw (settleDemand s) := by
  unfold Machine.settleDemand
  dsimp only
  split <;> exact h.of_same rfl rfl id

end

/-- What is kept by the judging of withheld demand, by a trigger and by a change of the announcements is kept as they are
taken. -/
theorem settleTriggers_keeps {P : State → Prop} (demand : ∀ {s}, P s → P (settleDemand s))
    (trigger : ∀ src {s}, P s → P (triggerSource src s))
    (announced : ∀ l {s : State}, P s → P { s with coolant := { s.coolant with announced := l } })
    (order : List TriggerSource) {s : State} (h : P s) : P (settleTriggers order s) := by
  have drained (n : Nat) {u : State} (hu : P u) : P (drainTriggers order n u) := by
    induction n generalizing u with
    | zero => exact announced [] hu
    | succ n ih =>
      unfold drainTriggers
      split
      · exact ih (demand (trigger _ (announced _ hu)))
      · exact hu
  exact drained _ (demand h)

theorem CoolantLaw.settleTriggers (order : List TriggerSource) {s : State} (h : CoolantLaw s) :
    CoolantLaw (settleTriggers order s) :=
  settleTriggers_keeps (fun h => h.settleDemand) (fun src _ h => h.triggerSource src)
    (fun _ _ h => h.of_same rfl rfl id) order h

/-! ## The work of an expiry that reaches the queue -/

section
variable {s : State}

/-- Work that announces at most: the requested values, the running program and the queue stand. -/
structure AnnouncesOnly (s t : State) : Prop where
  queue : t.coolant.queue = s.coolant.queue
  running : t.coolant.running = s.coolant.running
  requested : t.coolant.requested = s.coolant.requested
  store : t.store = s.store

theorem AnnouncesOnly.refl (s : State) : AnnouncesOnly s s := ⟨rfl, rfl, rfl, rfl⟩

theorem AnnouncesOnly.trans {t u : State} (h : AnnouncesOnly s t) (k : AnnouncesOnly t u) : AnnouncesOnly s u :=
  ⟨k.queue.trans h.queue, k.running.trans h.running, k.requested.trans h.requested, k.store.trans h.store⟩

theorem AnnouncesOnly.of_within {l : List Part} {t : State} (h : Within l s t)
    (hd : ∀ p ∈ [Part.coolant, Part.store], p ∉ l := by exact of_decide_eq_true rfl) : AnnouncesOnly s t := by
  have hc : t.coolant = s.coolant := h .coolant (hd _ (by decide))
  exact ⟨by rw [hc], by rw [hc], by rw [hc], h .store (hd _ (by decide))⟩

theorem CoolantLaw.of_announcesOnly {t : State} (h : CoolantLaw s) (k : AnnouncesOnly s t) : CoolantLaw t :=
  h.of_same k.queue (by rw [k.running]) (by rw [present_congr k.store]; exact id)

theorem announce_only (src : TriggerSource) (s : State) : AnnouncesOnly s (announce src s) := ⟨rfl, rfl, rfl, rfl⟩

theorem announceIf_only (c : Bool) (src : TriggerSource) (s : State) : AnnouncesOnly s (announceIf c src s) := by
  unfold announceIf
  split
  · exact announce_only src s
  · exact .refl s

theorem lubeDue_only (s : State) : AnnouncesOnly s (lubeDue s) := ⟨rfl, rfl, rfl, rfl⟩

theorem handPanel_only (s : State) : AnnouncesOnly s (handPanel s) :=
  AnnouncesOnly.trans (t := { s with pendant := { s.pendant with
      increment := s.inputs.increment.value.getD s.pendant.increment, buttons := buttonsNow s } }) ⟨rfl, rfl, rfl, rfl⟩
    ((((announceIf_only _ _ _).trans (announceIf_only _ _ _)).trans (announceIf_only _ _ _)).trans (announceIf_only _ _ _))

theorem pendantFirstWork_only (s : State) : AnnouncesOnly s (pendantFirstWork s) := by
  unfold pendantFirstWork
  split
  · exact AnnouncesOnly.trans (t := handEnable (handSelector { s with pendant := { s.pendant with delivered := true } }))
      (.of_within (((within_pendant s _).comp (handSelector_within _)).comp (handEnable_within _))) (handPanel_only _)
  · exact .refl s

theorem delivered_only {work : State → State} (h : ∀ s, AnnouncesOnly s (work s)) (s : State) :
    AnnouncesOnly s (delivered work s) := by
  unfold delivered
  split
  · exact h s
  · exact .refl s

theorem actOnRequest_only (r : Range) (s : State) : AnnouncesOnly s (actOnRequest r s) := by
  unfold actOnRequest beginChange
  split
  · split
    · exact .of_within (raise_within _ s)
    · exact ⟨rfl, rfl, rfl, rfl⟩
  · exact ⟨rfl, rfl, rfl, rfl⟩
  · exact ⟨rfl, rfl, rfl, rfl⟩
  · exact ⟨rfl, rfl, rfl, rfl⟩
  · exact ⟨rfl, rfl, rfl, rfl⟩
  · exact ⟨rfl, rfl, rfl, rfl⟩
  · exact .of_within (raise_within _ s)

theorem rangeRequestWork_only (f : CycleFrame) (s : State) : AnnouncesOnly s (rangeRequestWork f s) := by
  unfold rangeRequestWork
  dsimp only
  split
  · split
    · refine AnnouncesOnly.trans ?_ (actOnRequest_only _ _)
      exact ⟨rfl, rfl, rfl, rfl⟩
    · exact ⟨rfl, rfl, rfl, rfl⟩
  · exact ⟨rfl, rfl, rfl, rfl⟩

theorem spindleAnnounceWork_only (s : State) : AnnouncesOnly s (spindleAnnounceWork s) := by
  unfold spindleAnnounceWork
  dsimp only
  split
  · exact (AnnouncesOnly.of_within ((within_gear s _).comp (growthSpindleStart_within _))).trans (announce_only _ _)
  · split
    · exact (AnnouncesOnly.of_within ((within_gear s _).comp (growthSpindleStop_within _))).trans (announce_only _ _)
    · exact ⟨rfl, rfl, rfl, rfl⟩

theorem requestsWork_only (f : CycleFrame) (s : State) : AnnouncesOnly s (requestsWork f s) :=
  ((((announceIf_only _ _ s).trans (announceIf_only _ _ _)).trans (announceIf_only _ _ _)).trans
    (announceIf_only _ _ _)).trans ⟨rfl, rfl, rfl, rfl⟩

theorem travelWork_only (s : State) : AnnouncesOnly s (travelWork s) := by
  unfold travelWork
  split
  · exact .refl s
  · dsimp only
    split
    · exact .refl s
    · split <;> exact ⟨rfl, rfl, rfl, rfl⟩

theorem tankWork_only (s : State) : AnnouncesOnly s (tankWork s) := by
  unfold tankWork
  split
  · exact .refl s
  · dsimp only
    split <;> exact ⟨rfl, rfl, rfl, rfl⟩

theorem onFrame_only {work : CycleFrame → State → State} (h : ∀ f s, AnnouncesOnly s (work f s))
    (f : Option CycleFrame) (s : State) : AnnouncesOnly s (onFrame f work s) := by
  cases f with
  | some f => exact h f s
  | none => exact .refl s

end

/-! ### A gear stage that completes a shift takes GEAR_END within its work -/

/-- A completed shift, before GEAR_END is taken. -/
def shiftCompleted (r : Range) (s : State) : State :=
  announce .gearEnd (raise .gearDone { s with gear := { stopGearTimers s.gear with
    state := .engaged, engaged := some r, target := none, next := none, output := 0, interlock := true } })

/-- After GEAR_END: the growth's trigger, the release of the bank and the request in the slot. -/
def shiftReleased (differs : Bool) (s : State) : State :=
  release .gearbox (if differs then enabledTrigger 1 s else s)

/-- R101 in its steps. -/
theorem completeShift_cases (s : State) :
    (s.gear.target = none ∧ completeShift s = s) ∨
    (∃ r u, s.gear.target = some r ∧
      u = shiftReleased (decide (s.gear.engaged ≠ some r)) (settleTriggers [] (shiftCompleted r s)) ∧
      ((s.gear.next = none ∧ completeShift s = u) ∨
       ∃ q, s.gear.next = some q ∧ completeShift s = actOnRequest q u)) := by
  unfold completeShift
  cases ht : s.gear.target with
  | none => exact .inl ⟨rfl, rfl⟩
  | some r =>
    refine .inr ⟨r, _, rfl, rfl, ?_⟩
    cases hn : s.gear.next with
    | none => exact .inl ⟨rfl, rfl⟩
    | some q => exact .inr ⟨q, rfl, rfl⟩

theorem shiftCompleted_within (r : Range) (s : State) : Within [.gear, .flags, .coolant] s (shiftCompleted r s) :=
  ((within_gear s _).comp (raise_within _ _)).comp (announce_within _ _)

theorem shiftReleased_within (differs : Bool) (s : State) : Within (.comp :: bankParts) s (shiftReleased differs s) := by
  unfold shiftReleased
  split
  · exact (enabledTrigger_within 1 s).comp (release_within _ _)
  · exact (release_within _ s).mono (by decide)

/-- What the gear stage does: nothing, another range, a claim, a count, or a completion. -/
theorem gearStageWork_cases (s : State) :
    gearStageWork s = s ∨
    (∃ bs r, activeBytes s .gear = some bs ∧ s.gear.state = .unknown ∧ shownRange s = some r ∧
      s.gear.forkLoss = false ∧ gearStageWork s = enterEngaged r s) ∨
    (∃ bs, activeBytes s .gear = some bs ∧ s.gear.state = .draining ∧ gearStageWork s = enterValveWait s) ∨
    (∃ bs n, activeBytes s .gear = some bs ∧ s.gear.state = .shifting ∧
      gearStageWork s = { s with gear := { s.gear with settle := n } }) ∨
    (∃ bs n, activeBytes s .gear = some bs ∧ s.gear.state = .shifting ∧ showsRange s s.gear.target = true ∧
      gearStageWork s = completeShift { s with gear := { s.gear with settle := n } }) := by
  unfold gearStageWork
  cases hb : activeBytes s .gear with
  | none => exact .inl rfl
  | some bs =>
    dsimp only
    cases hg : s.gear.state
    case unknown =>
      cases hr : shownRange s with
      | none => exact .inl rfl
      | some r =>
        cases hf : s.gear.forkLoss
        · exact .inr (.inl ⟨bs, r, rfl, rfl, rfl, rfl, by simp⟩)
        · exact .inl (by simp)
    case draining =>
      dsimp only
      split
      · exact .inr (.inr (.inl ⟨bs, rfl, rfl, rfl⟩))
      · exact .inl rfl
    case shifting =>
      dsimp only
      split
      · rename_i hs
        split
        · exact .inr (.inr (.inr (.inr ⟨bs, _, rfl, rfl, hs, rfl⟩)))
        · exact .inr (.inr (.inr (.inl ⟨bs, _, rfl, rfl, rfl⟩)))
      · exact .inr (.inr (.inr (.inl ⟨bs, _, rfl, rfl, rfl⟩)))
    all_goals exact .inl rfl

section
variable {s : State} (h : CoolantLaw s)
include h

theorem CoolantLaw.completeShift : CoolantLaw (completeShift s) := by
  rcases completeShift_cases s with ⟨-, e⟩ | ⟨r, u, -, hu, he⟩
  · exact e.symm ▸ h
  have taken : CoolantLaw u := by
    rw [hu]
    refine CoolantLaw.of_announcesOnly ?_ (.of_within (shiftReleased_within _ _))
    exact ((h.of_announcesOnly ⟨rfl, rfl, rfl, rfl⟩ : CoolantLaw (shiftCompleted r s))).settleTriggers []
  rcases he with ⟨-, e⟩ | ⟨q, -, e⟩
  · exact e.symm ▸ taken
  · exact e.symm ▸ taken.of_announcesOnly (actOnRequest_only q u)

theorem CoolantLaw.gearStageWork : CoolantLaw (gearStageWork s) := by
  rcases gearStageWork_cases s with e | ⟨bs, r, -, -, -, -, e⟩ | ⟨bs, -, -, e⟩ | ⟨bs, n, -, -, e⟩ | ⟨bs, n, -, -, -, e⟩
  · exact e.symm ▸ h
  · exact e.symm ▸ h.of_announcesOnly (.of_within (enterEngaged_within r s))
  · exact e.symm ▸ h.of_announcesOnly (.of_within (enterValveWait_within s))
  · exact e.symm ▸ h
  · rw [e]
    exact CoolantLaw.completeShift (h.of_announcesOnly ⟨rfl, rfl, rfl, rfl⟩)

theorem CoolantLaw.stopBitWork (f : CycleFrame) : CoolantLaw (stopBitWork f s) := by
  unfold Machine.stopBitWork
  split
  · exact .of_idle rfl rfl
  · exact h

/-- The effects of a COMMIT: only that of the programs table reaches the queue, which it empties. -/
theorem CoolantLaw.commitEffects (t : TableId) (old : Option (List Byte)) (order : List ClampAxis) :
    CoolantLaw (commitEffects t old order s) := by
  cases t
  case compensation => exact h.of_announcesOnly (.of_within (compensationCommitted_within s))
  case gear => exact h.of_announcesOnly (.of_within (gearCommitted_within s))
  case clamp => exact h.of_announcesOnly (.of_within (clampTableCommitted_within old order s))
  case programs => exact .of_idle rfl rfl
  case triggers =>
    show CoolantLaw (triggersCommitted s)
    unfold triggersCommitted
    dsimp only
    split <;> exact h.of_same rfl rfl id
  case pendant => exact h.of_announcesOnly (.of_within (pendantCommitted_within s))
  all_goals exact h

theorem CoolantLaw.effect {order : List ClampAxis} {t : State} (e : BlockEffect order s t) : CoolantLaw t := by
  cases e
  case none => exact h
  case write => exact h.of_same rfl rfl id
  case commit t _ _ _ =>
    exact CoolantLaw.commitEffects (s := setActive t _ s) (h.of_same rfl rfl (present_setActive t _)) t _ order
  case store => exact h.of_same rfl rfl id
  case flags hw => exact h.of_announcesOnly (.of_within hw)
  case trigger p _ _ => exact h.triggerProgram p
  case stop => exact .of_idle rfl rfl
  case growth hard => exact h.of_announcesOnly (.of_within (growthTrigger_within hard s))
  case zero => exact h.of_same rfl rfl (present_setActive _ _)
  case clamp => exact h.of_announcesOnly (.of_within (clearClampFault_within _ s))
  case gear => exact h.of_announcesOnly (.of_within (reevaluate_within s))

end

theorem coolantLaw_link : LinkKept CoolantLaw where
  quiet _ _ _ _ _ h := h
  raise _ _ h := h
  estop _ _ h := h
  rest st s _ _ := by
    obtain ⟨c, e⟩ := enterRest_coolant st s
    exact .of_idle (by rw [e]) (by rw [e])
  standby order s _ _ h := by
    refine CoolantLaw.of_announcesOnly ?_ (.of_within (recoverDropped_within order _))
    exact h.of_same rfl rfl id
  activating _ _ _ _ h := h
  running _ _ h := h
  leave st s _ _ h := (h.of_announcesOnly (.of_within ((within_link s _).comp (endGrant_within _)))).announce _
  lost _ h := h

theorem coolantLaw_kept : Kept CoolantLaw where
  reset _ _ _ _ _ := .of_idle rfl rfl
  settle order _ h := h.settleTriggers order
  sent _ _ h := h
  between e s h := by
    cases e
    case frameArrival bytes order => exact coolantLaw_link.frameArrives bytes order h
    case returnFrame bytes => exact coolantLaw_link.returnArrives bytes h
    case activationCeiling => exact coolantLaw_link.activationEnds h
    case estopOpening => exact coolantLaw_link.estopOpens h
    case waitCeiling => exact h.waitCeilingEnds
    case pauseEnd => exact h.pauseEnds
    case queuedProgramStart => exact h.startNext
    case lubeInterval =>
      show CoolantLaw (lubeIntervalEnds s)
      unfold lubeIntervalEnds
      split
      · exact h.of_announcesOnly (lubeDue_only s)
      all_goals exact h
    case storeVerified =>
      show CoolantLaw (storeDone s)
      unfold storeDone
      split
      · split
        · exact h.of_same rfl rfl id
        · exact h
      · exact h
    case storeMismatch | storeCeiling =>
      show CoolantLaw (storeFails s)
      unfold storeFails
      split
      · exact h.of_same rfl rfl id
      · exact h
    all_goals exact coolantLaw_reads.keep (betweenWork_within _ s) h
  linkService kind body order _ h :=
    coolantLaw_link.linkService (fun hw hu => coolantLaw_reads.keep hw hu) kind body order h
  restart {s} _ := by
    obtain ⟨l, e⟩ := restart_coolant s
    exact .of_idle (by rw [e]; rfl) (by rw [e]; rfl)
  passTime c s h := h.of_same rfl (by
    show (s.coolant.running.map fun r => { r with phase := elapsedPhase c r.phase }).map Run.program = _
    rw [Option.map_map]; rfl) id
  linkWork taken order _ h := coolantLaw_link.linkWork rfl taken order h
  intake inp taken _ h := coolantLaw_reads.keep (intakeStage_within inp taken _) h
  task c u s h := by
    cases u
    case pendantFirst => exact h.of_announcesOnly (pendantFirstWork_only s)
    case panel => exact h.of_announcesOnly (delivered_only handPanel_only s)
    case rangeRequest => exact h.of_announcesOnly (onFrame_only rangeRequestWork_only _ s)
    case gearStage => exact h.gearStageWork
    case spindleAnnounce => exact h.of_announcesOnly (spindleAnnounceWork_only s)
    case coolantStopBit =>
      cases hf : c.taken with
      | some f => simp only [runTask, onFrame, hf]; exact h.stopBitWork f
      | none => simp only [runTask, onFrame, hf]; exact h
    case coolantRequests => exact h.of_announcesOnly (onFrame_only requestsWork_only _ s)
    case coolantWait => exact h.coolantWaitWork
    case travel => exact h.of_announcesOnly (travelWork_only s)
    case tank => exact h.of_announcesOnly (tankWork_only s)
    case service =>
      obtain ⟨v, he, hw⟩ := runTask_service_served (s := s) c
      exact coolantLaw_reads.keep hw (h.effect he)
    all_goals exact coolantLaw_reads.keep (runTask_within c _ s) h
  leave _ _ _ h := h

/-- Settles O5: a program that ends makes room for the next only once, and no trigger queues a program that runs or waits. -/
theorem coolantQueueLawKept : Obligations.CoolantQueueLawKept := fun _ _ h e =>
  coolantLaw_kept.step (fun _ _ hu => hu) h e

end Sys2Proof.Machine

/-! # The clamp sequencers' work, and the laws of the axes and the grant -/

namespace Sys2Proof.Machine

-- Many short proofs that wait for the same case splitters: one after the other they need less memory.
set_option Elab.async false

/-! ## What the work of a clamp and of the pressure watch can do -/

/-- The effect of a clamp sequencer's work at an expiry, by the state in which it begins (R71 to R76, R81). -/
inductive ClampEffect (a : ClampAxis) (wanted : Bool) (s : State) : State → Prop
  | none : ClampEffect a wanted s s
  | fault (hst : (s.clamps.get a).state = .clamped ∧ s.seen.reading.get a ≠ .clampedConfirm ∨
      ((s.clamps.get a).state = .unclamped ∨ (s.clamps.get a).state = .clampWait false) ∧
        s.seen.reading.get a ≠ .unclampedConfirm)
      (ha : clampAbsent s a = false) : ClampEffect a wanted s (clampToFault a s)
  | want (hst : (s.clamps.get a).state = .clamped) (hw : wanted = true) (hp : clampInForce s a = true) :
      ClampEffect a wanted s (claim (.clamp a) (setClamp a .unclampWait Option.none s))
  | withdrawn (hst : (s.clamps.get a).state = .unclampWait) :
      ClampEffect a wanted s (setClamp a .clamped Option.none (withdraw (.clamp a) s))
  | count (n : Nat) : ClampEffect a wanted s (setSettle a n s)
  | unclamped (hst : (s.clamps.get a).state = .unclamping) : ClampEffect a wanted s
      (release (.clamp a) (raise .clampDone (setClamp a .unclamped Option.none s)))
  | clamped (hst : (s.clamps.get a).state = .clamping) : ClampEffect a wanted s
      (release (.clamp a) (raise .clampDone (setClamp a .clamped Option.none s)))
  | reclaim (hst : (s.clamps.get a).state = .unclamped) (hw : wanted = false) (hp : clampInForce s a = true) :
      ClampEffect a wanted s (claim (.clamp a) (setClamp a (.clampWait false) Option.none s))
  | kept (hst : (s.clamps.get a).state = .clampWait false) :
      ClampEffect a wanted s (setClamp a .unclamped Option.none (withdraw (.clamp a) s))

theorem clampAbsent_eq_false_of_inForce {s : State} {a : ClampAxis} (h : clampInForce s a = true) :
    clampAbsent s a = false := by
  unfold clampInForce at h
  unfold clampAbsent
  cases hb : activeBytes s .clamp with
  | none => rfl
  | some bs =>
    rw [hb] at h
    simp only [h, Bool.not_true]

theorem clampInForceWork_effect (wanted : Bool) (a : ClampAxis) (s : State) (hp : clampInForce s a = true) :
    ClampEffect a wanted s (clampInForceWork wanted a s) := by
  have ha := clampAbsent_eq_false_of_inForce hp
  unfold clampInForceWork transitWork
  cases hst : (s.clamps.get a).state with
  | clamped =>
    dsimp only
    split
    · rename_i hr
      exact .fault (.inl ⟨hst, hr⟩) ha
    · split
      · rename_i hw
        exact .want hst hw hp
      · exact .none
  | unclampWait =>
    dsimp only
    split
    · exact .none
    · exact .withdrawn hst
  | unclamping =>
    dsimp only
    split
    · split
      · exact .unclamped hst
      · exact .count _
    · exact .count _
  | unclamped =>
    dsimp only
    split
    · rename_i hr
      exact .fault (.inr ⟨.inl hst, hr⟩) ha
    · split
      · rename_i hw
        split
        · exact .reclaim hst (by simpa using hw.1) hp
        · exact .count _
      · exact .count _
  | clampWait recovery =>
    cases recovery
    · dsimp only
      split
      · rename_i hr
        exact .fault (.inr ⟨.inr hst, hr⟩) ha
      · split
        · exact .kept hst
        · exact .none
    · exact .none
  | clamping =>
    dsimp only
    split
    · split
      · exact .clamped hst
      · exact .count _
    · exact .count _
  | dropped => exact .none
  | fault => exact .none

theorem clampWork_effect (held : Option CycleFrame) (a : ClampAxis) (s : State) :
    ClampEffect a (wantedUnclamped held a s) s (clampWork held a s) := by
  unfold clampWork
  split
  · rename_i hp
    exact clampInForceWork_effect _ a s hp
  · split
    · exact .none
    · rename_i ha
      split
      · rename_i h
        exact .fault (.inl h) (by simpa using ha)
      · exact .none

/-- What the pressure watch can do: count, grant at OK, or abort the holder's transit at LOW. -/
inductive PressureEffect (s : State) : State → Prop
  | none : PressureEffect s s
  | count (n : Nat) : PressureEffect s { s with bank := { s.bank with disagree := n } }
  | good : PressureEffect s (tryGrant { s with bank := { s.bank with disagree := 0, pressureOk := true } })
  | low : PressureEffect s
      (abortTransit (raise .pressureLow { s with bank := { s.bank with disagree := 0, pressureOk := false } }))

theorem pressureWork_effect (s : State) : PressureEffect s (pressureWork s) := by
  unfold pressureWork
  split
  · exact .none
  · dsimp only
    split
    · exact .count 0
    · split
      · exact .count _
      · split
        · rename_i hk
          rw [hk]
          exact .good
        · rename_i hk
          rw [show (!(readingOf s.inputs.readings.an0).2 && decide (pressureThreshold _ ≤ s.inputs.hydraulic.getD 0)) =
            false by simpa using hk]
          exact .low

/-- R68: the abort reaches the holder alone. -/
theorem abortTransit_cases (s : State) :
    (s.bank.holder = none ∧ abortTransit s = s) ∨
    (∃ a, s.bank.holder = some (.clamp a) ∧ abortTransit s = clampToFault a s) ∨
    (s.bank.holder = some .gearbox ∧ abortTransit s = gearToFault s) := by
  unfold abortTransit
  cases s.bank.holder with
  | none => exact .inl ⟨rfl, rfl⟩
  | some c =>
    cases c with
    | clamp a => exact .inr (.inl ⟨a, rfl, rfl⟩)
    | gearbox => exact .inr (.inr ⟨rfl, rfl⟩)

theorem clampCeilingEnds_cases (bounded : ClampState) (a : ClampAxis) (s : State) :
    ((s.clamps.get a).state = bounded ∧ (s.clamps.get a).ceiling.isSome = true ∧
      clampCeilingEnds bounded a s = clampToFault a s) ∨
    (¬ ((s.clamps.get a).state = bounded ∧ (s.clamps.get a).ceiling.isSome = true) ∧
      clampCeilingEnds bounded a s = s) := by
  unfold clampCeilingEnds
  by_cases h : (s.clamps.get a).state = bounded ∧ (s.clamps.get a).ceiling.isSome = true
  · exact .inl ⟨h.1, h.2, if_pos h⟩
  · exact .inr ⟨h, if_neg h⟩

/-- The five steps of a clamp's entry into FAULT. -/
theorem clampToFault_eq (a : ClampAxis) (s : State) : clampToFault a s =
    release (.clamp a) (pendantClampFault a (withdraw (.clamp a) (raise .clampFault (setClamp a .fault none s)))) := rfl

/-! ## Work that may end a wait or a grant and does nothing else to the axes and the pendant unit -/

/-- The offsets, outputs, steps and histories of the axes stand and a frozen base at most ends; the grant state stands or
becomes FREE. -/
structure Eased (s t : State) : Prop where
  axis : ∀ a, t.axes.get a = s.axes.get a ∨ t.axes.get a = { s.axes.get a with frozen := none }
  grant : t.pendant.grant = s.pendant.grant ∨ t.pendant.grant = .free
  selector : t.pendant.selector = s.pendant.selector

theorem Eased.refl (s : State) : Eased s s := ⟨fun _ => .inl rfl, .inl rfl, rfl⟩

theorem Eased.trans {s t u : State} (h : Eased s t) (k : Eased t u) : Eased s u where
  axis c := by
    rcases k.axis c with e | e <;> rcases h.axis c with e' | e' <;> rw [e, e'] <;> simp
  grant := by
    rcases k.grant with e | e
    · rcases h.grant with e' | e' <;> rw [e, e'] <;> simp
    · exact .inr e
  selector := k.selector.trans h.selector

theorem Eased.of_same {s t : State} (ha : t.axes = s.axes) (hp : t.pendant = s.pendant) : Eased s t :=
  ⟨fun a => .inl (by rw [ha]), .inl (by rw [hp]), by rw [hp]⟩

theorem Eased.of_within {l : List Part} {s t : State} (h : Within l s t)
    (hd : ∀ p ∈ [Part.axes, Part.pendant], p ∉ l := by exact of_decide_eq_true rfl) : Eased s t :=
  .of_same (h .axes (hd _ (by decide))) (h .pendant (hd _ (by decide)))

theorem endGrant_eased (s : State) : Eased s (endGrant s) := by
  unfold endGrant
  split
  · rename_i a ha
    refine ⟨fun c => ?_, .inr rfl, rfl⟩
    by_cases e : c = a
    · subst e
      exact .inr (PerAxis.get_set_self _ _ _)
    · exact .inl (PerAxis.get_set_ne _ _ e)
  · exact .refl s
  · exact .refl s

theorem pendantClampFault_eased (a : ClampAxis) (s : State) : Eased s (pendantClampFault a s) := by
  unfold pendantClampFault
  split
  · exact endGrant_eased s
  · split
    · exact ⟨fun _ => .inl rfl, .inr rfl, rfl⟩
    · exact .refl s

theorem clampToFault_eased (a : ClampAxis) (s : State) : Eased s (clampToFault a s) := by
  rw [clampToFault_eq]
  exact (Eased.of_same rfl rfl : Eased s (withdraw (.clamp a) (raise .clampFault (setClamp a .fault none s)))).trans
    ((pendantClampFault_eased a _).trans (.of_within (release_within _ _)))

theorem ClampEffect.eased {a : ClampAxis} {wanted : Bool} {s t : State} (e : ClampEffect a wanted s t) :
    Eased s t := by
  cases e
  case none => exact .refl s
  case fault => exact clampToFault_eased a s
  case want | reclaim => exact .of_within ((setClamp_within _ _ _ s).comp (claim_within _ _))
  case unclamped | clamped =>
    exact .of_within (((setClamp_within _ _ _ s).comp (raise_within _ _)).comp (release_within _ _))
  all_goals exact .of_same rfl rfl

theorem abortTransit_eased (s : State) : Eased s (abortTransit s) := by
  rcases abortTransit_cases s with ⟨-, e⟩ | ⟨a, -, e⟩ | ⟨-, e⟩
  · exact e.symm ▸ .refl s
  · exact e.symm ▸ clampToFault_eased a s
  · exact e.symm ▸ .of_within (gearToFault_within s)

theorem PressureEffect.eased {s t : State} (e : PressureEffect s t) : Eased s t := by
  cases e
  case none => exact .refl s
  case count => exact .of_same rfl rfl
  case good => exact .of_within ((within_bank s _).comp (tryGrant_within _))
  case low =>
    exact .trans (t := raise .pressureLow { s with bank := { s.bank with disagree := 0, pressureOk := false } })
      (.of_same rfl rfl) (abortTransit_eased _)

theorem clampCeilingEnds_eased (bounded : ClampState) (a : ClampAxis) (s : State) :
    Eased s (clampCeilingEnds bounded a s) := by
  rcases clampCeilingEnds_cases bounded a s with ⟨-, -, e⟩ | ⟨-, e⟩
  · exact e.symm ▸ clampToFault_eased a s
  · exact e.symm ▸ .refl s

/-- An event between expiries that is neither the link controller's nor the handwheel's leaves a wait or a grant alone or
ends it. -/
theorem betweenWork_eased (e : Between) (s : State) (hl : Part.link ∉ betweenParts e)
    (hw : ∀ a b, e ≠ .handwheelEdge a b) : Eased s (betweenWork e s) := by
  cases e
  case unclampCeiling a => exact clampCeilingEnds_eased _ a s
  case clampCeiling a => exact clampCeilingEnds_eased _ a s
  case dropCeiling a => exact clampCeilingEnds_eased _ a s
  case handwheelEdge a b => exact absurd rfl (hw a b)
  case frameArrival | returnFrame | activationCeiling | estopOpening =>
    exact absurd (of_decide_eq_true rfl) hl
  all_goals exact .of_within (betweenWork_within _ s)

/-! ## Stillness (R38, R135) -/

theorem stillLaw_reads : Reads [.link, .axes] StillLaw := by
  intro s t h hs
  have hl : t.link = s.link := h .link (by decide)
  have ha : t.axes = s.axes := h .axes (by decide)
  unfold StillLaw at *
  rw [hl, ha]
  exact hs

/-- Where every axis stands, or has its frozen base ended, stillness is kept. -/
theorem StillLaw.of_axes {s t : State} (h : StillLaw s) (hl : t.link = s.link)
    (k : ∀ a, t.axes.get a = s.axes.get a ∨ t.axes.get a = { s.axes.get a with frozen := none }) : StillLaw t := by
  intro hm a
  rw [hl] at hm
  obtain ⟨ho, hf, hs⟩ := h hm a
  rcases k a with e | e
  · rw [e]; exact ⟨ho, hf, hs⟩
  · rw [e]; exact ⟨ho, rfl, hs⟩

theorem StillLaw.of_eased {s t : State} (h : StillLaw s) (hl : t.link = s.link) (k : Eased s t) : StillLaw t :=
  h.of_axes hl k.axis

/-- A moving state asks for nothing. -/
theorem StillLaw.of_moving {t : State} (h : t.link.state.moving = true) : StillLaw t := fun hm => by
  rw [h] at hm; cases hm

theorem StillLaw.of_cleared {t u : State} (h : ∀ a, t.axes.get a = clearedAxis (u.axes.get a)) : StillLaw t :=
  fun _ a => by rw [h a]; exact ⟨rfl, rfl, rfl⟩

theorem clearAxes_axes (s : State) (a : Axis) : (clearAxes s).axes.get a = clearedAxis (s.axes.get a) :=
  PerAxis.get_of _ a

theorem enterStandby_axes (order : List ClampAxis) (s : State) (a : Axis) :
    (enterStandby order s).axes.get a = clearedAxis (s.axes.get a) := by
  have h : (enterStandby order s).axes = (clearAxes { s with link := disabledLink .standby s.link }).axes :=
    (recoverDropped_within order _).same_axes
  rw [h]
  exact clearAxes_axes _ a

theorem stillLaw_link : LinkKept StillLaw where
  quiet l s hst _ _ h := by
    unfold StillLaw at *
    dsimp only
    rw [hst]
    exact h
  raise _ _ h := h
  estop _ _ h := h
  rest st s _ _ := .of_cleared (u := restBegun st s) (enterRest_axes st s)
  standby order s _ _ _ := .of_cleared (u := s) (enterStandby_axes order s)
  activating p s _ _ _ := .of_cleared (u := s) (clearAxes_axes _)
  running _ _ _ := .of_moving rfl
  leave st s hst _ _ := .of_moving (by rw [leaveRunning_link]; rcases hst with rfl | rfl <;> rfl)
  lost _ _ := .of_moving rfl

/-! ## The axis channels' work -/

/-- An axis channel's computation looks at its own channel, the link, the tables and what the previous drive frame left. -/
theorem axisMotion_congr {s t : State} {a : Axis} (hl : t.link = s.link) (hs : t.store = s.store)
    (hn : t.seen = s.seen) (ha : t.axes.get a = s.axes.get a) : axisMotion t a = axisMotion s a := by
  simp only [axisMotion, axisTarget, baseOf, commandOf, compensationOf, clampHold, clampAbsent, tracked, actualPos,
    actualRaw, isRotary, axisParams, activeBytes, hl, hs, hn, ha]

theorem axisWork_axes_self (a : Axis) (s : State) :
    (axisWork a s).axes.get a = movedAxis (axisMotion s a) (s.axes.get a) := by
  unfold axisWork
  dsimp only
  rw [(raiseIf_within _ _ _).same_axes, (raiseIf_within _ _ _).same_axes, (raiseIf_within _ _ _).same_axes]
  exact PerAxis.get_set_self _ _ _

theorem axisWork_axes_ne {a c : Axis} (h : c ≠ a) (s : State) : (axisWork a s).axes.get c = s.axes.get c := by
  unfold axisWork
  dsimp only
  rw [(raiseIf_within _ _ _).same_axes, (raiseIf_within _ _ _).same_axes, (raiseIf_within _ _ _).same_axes]
  exact PerAxis.get_set_ne _ _ h

theorem foldl_axisWork_axes (a : Axis) (l : List Axis) (h : l.Nodup) (s : State) :
    (l.foldl (fun s a => axisWork a s) s).axes.get a =
      if a ∈ l then movedAxis (axisMotion s a) (s.axes.get a) else s.axes.get a := by
  induction l generalizing s with
  | nil => rfl
  | cons c l ih =>
    obtain ⟨hc, hl⟩ := List.nodup_cons.mp h
    have w := axisWork_within c s
    rw [List.foldl_cons, ih hl]
    by_cases e : a = c
    · subst e
      simp [hc, axisWork_axes_self]
    · rw [axisMotion_congr w.same_link w.same_store w.same_seen (axisWork_axes_ne e s), axisWork_axes_ne e]
      simp [e]

/-- The five channels compute independently of each other (2.3). -/
theorem axesWork_axes (s : State) (a : Axis) :
    (axesWork s).axes.get a = movedAxis (axisMotion s a) (s.axes.get a) := by
  have hm : a ∈ allAxes := by cases a <;> decide
  have h := foldl_axisWork_axes a allAxes (by decide) s
  rwa [if_pos hm] at h

/-- R36: outside the moving states an axis tracks. -/
theorem axisMotion_of_not_moving {s : State} (h : s.link.state.moving = false) (a : Axis) :
    axisMotion s a = tracked s a := by
  unfold axisMotion
  cases axisParams s a with
  | none => rfl
  | some p =>
    revert h
    cases s.link.state <;> intro h <;> first | rfl | cases h

theorem StillLaw.axesWork {s : State} (h : StillLaw s) : StillLaw (axesWork s) := by
  intro hm a
  rw [(axesWork_within s).same_link] at hm
  obtain ⟨ho, hf, -⟩ := h hm a
  rw [axesWork_axes, axisMotion_of_not_moving hm]
  exact ⟨ho, hf, rfl⟩

theorem absorbAxis_axes_self (f : CycleFrame) (s : State) (a : Axis) : (absorbAxis f s a).axes.get a =
    if (f.axes.get a).absorb ∧ s.seen.grant ≠ .granted a then { s.axes.get a with offset := 0 } else s.axes.get a := by
  unfold absorbAxis
  by_cases hb : (f.axes.get a).absorb = true
  · by_cases hg : s.seen.grant = .granted a
    · simp [hb, hg]
    · simp [hb, hg, PerAxis.get_set_self]
  · simp [hb]

theorem absorbAxis_axes_ne (f : CycleFrame) {a c : Axis} (h : c ≠ a) (s : State) :
    (absorbAxis f s a).axes.get c = s.axes.get c := by
  unfold absorbAxis
  split
  · split
    · rfl
    · exact PerAxis.get_set_ne _ _ h
  · rfl

theorem foldl_absorbAxis_axes (f : CycleFrame) (a : Axis) (l : List Axis) (h : l.Nodup) (s : State) :
    (l.foldl (absorbAxis f) s).axes.get a =
      if a ∈ l ∧ (f.axes.get a).absorb ∧ s.seen.grant ≠ .granted a then { s.axes.get a with offset := 0 }
      else s.axes.get a := by
  induction l generalizing s with
  | nil => simp
  | cons c l ih =>
    obtain ⟨hc, hl⟩ := List.nodup_cons.mp h
    rw [List.foldl_cons, ih hl, (absorbAxis_within f s c).same_seen]
    by_cases e : a = c
    · subst e
      simp [hc, absorbAxis_axes_self]
    · rw [absorbAxis_axes_ne f e]
      simp [e]

/-- R141: an ABSORB sets the offset of an axis that does not count as granted to 0. -/
theorem absorbWork_axes (f : CycleFrame) (s : State) (a : Axis) : (absorbWork f s).axes.get a =
    if (f.axes.get a).absorb ∧ s.seen.grant ≠ .granted a then { s.axes.get a with offset := 0 } else s.axes.get a := by
  have hm : a ∈ allAxes := by cases a <;> decide
  have h := foldl_absorbAxis_axes f a allAxes (by decide) s
  simpa [absorbWork, hm] using h

/-! ## The hand-overs of the pendant group -/

theorem selectorChange_axes (sel : Selector) (s : State) : (selectorChange sel s).axes = (endGrant s).axes := by
  cases sel <;> rfl

/-- Nothing is handed over, or the selector's new value is. -/
theorem handSelector_cases (s : State) :
    (changedTo s.inputs.selector s.pendant.selector = none ∧ handSelector s = s) ∨
    (∃ v, changedTo s.inputs.selector s.pendant.selector = some v ∧ handSelector s = selectorChange v s) := by
  unfold handSelector
  cases h : changedTo s.inputs.selector s.pendant.selector with
  | none => exact .inl ⟨rfl, rfl⟩
  | some v => exact .inr ⟨v, rfl, rfl⟩

theorem handSelector_axes (s : State) (a : Axis) : (handSelector s).axes.get a = s.axes.get a ∨
    (handSelector s).axes.get a = { s.axes.get a with frozen := none } := by
  rcases handSelector_cases s with ⟨-, e⟩ | ⟨v, -, e⟩
  · rw [e]; exact .inl rfl
  · rw [e, selectorChange_axes]; exact (endGrant_eased s).axis a

theorem delivered_selector_axes (s : State) (a : Axis) : (delivered handSelector s).axes.get a = s.axes.get a ∨
    (delivered handSelector s).axes.get a = { s.axes.get a with frozen := none } := by
  unfold delivered
  split
  · exact handSelector_axes s a
  · exact .inl rfl

theorem pendantFirstWork_axes (s : State) (a : Axis) : (pendantFirstWork s).axes.get a = s.axes.get a ∨
    (pendantFirstWork s).axes.get a = { s.axes.get a with frozen := none } := by
  unfold pendantFirstWork
  split
  · rw [(handPanel_within _).same_axes, (handEnable_within _).same_axes]
    exact handSelector_axes { s with pendant := { s.pendant with delivered := true } } a
  · exact .inl rfl

/-! ## Stillness after every step -/

theorem handwheelWork_of_not_running {taken held : Option CycleFrame} {s : State} (h : s.link.state ≠ .running) :
    Within [.pendant] s (handwheelWork taken held s) := by
  unfold handwheelWork
  rw [if_neg h]
  split
  · exact permitUpdate_within taken _ s
  all_goals exact .refl _ s

theorem running_of_not_still {s : State} (h : s.link.state.moving = false) : s.link.state ≠ .running := by
  intro e
  rw [e] at h
  cases h

theorem StillLaw.handwheelWork {s : State} (h : StillLaw s) (taken held : Option CycleFrame) :
    StillLaw (handwheelWork taken held s) := by
  by_cases hr : s.link.state = .running
  · exact .of_moving (by rw [(handwheelWork_within taken held s).same_link, hr]; rfl)
  · exact stillLaw_reads.keep (handwheelWork_of_not_running hr) h

theorem StillLaw.intake {s : State} (h : StillLaw s) (inp : ExpiryInput) (taken : Option CycleFrame) :
    StillLaw (intakeStage inp taken s) := by
  by_cases hr : s.link.state = .running
  · exact .of_moving (by rw [(intakeStage_within inp taken s).same_link, hr]; rfl)
  · unfold intakeStage
    dsimp only
    rw [if_neg (by rw [(conditionerWork_within _ _).same_link]; exact hr)]
    exact stillLaw_reads.keep (((within_gear s _).comp (conditionerWork_within _ _)).comp (interlockWork_within _ _)) h

theorem restart_axes (s : State) (a : Axis) : (restart s).axes.get a = { axisReset with out := actualPos s a } := by
  rw [(restart_within_base s).same_axes]
  exact PerAxis.get_of _ a

theorem stillLaw_kept : Kept StillLaw where
  reset _ _ _ _ _ := fun _ a => by cases a <;> exact ⟨rfl, rfl, rfl⟩
  settle order _ h := stillLaw_reads.keep (settleTriggers_within order _) h
  sent _ _ h := h
  between e s h := by
    cases e
    case frameArrival bytes order => exact stillLaw_link.frameArrives bytes order h
    case returnFrame bytes => exact stillLaw_link.returnArrives bytes h
    case activationCeiling => exact stillLaw_link.activationEnds h
    case estopOpening => exact stillLaw_link.estopOpens h
    case unclampCeiling a => exact h.of_eased (clampCeilingEnds_within _ a s).same_link (clampCeilingEnds_eased _ a s)
    case clampCeiling a => exact h.of_eased (clampCeilingEnds_within _ a s).same_link (clampCeilingEnds_eased _ a s)
    case dropCeiling a => exact h.of_eased (clampCeilingEnds_within _ a s).same_link (clampCeilingEnds_eased _ a s)
    all_goals exact stillLaw_reads.keep (betweenWork_within _ s) h
  linkService kind body order _ h :=
    stillLaw_link.linkService (fun hw hu => stillLaw_reads.keep hw hu) kind body order h
  restart {s} _ := fun _ a => by rw [restart_axes]; exact ⟨rfl, rfl, rfl⟩
  passTime _ _ h := h
  linkWork taken order _ h := stillLaw_link.linkWork rfl taken order h
  intake inp taken _ h := h.intake inp taken
  task c u s h := by
    have hl : (runTask c u s).link = s.link := ((runTask_within c u s).mono (taskParts_subset u)).same_link
    cases u
    case pendantFirst => exact h.of_axes hl (pendantFirstWork_axes s)
    case selector => exact h.of_axes hl (delivered_selector_axes s)
    case pressure => exact h.of_eased hl (pressureWork_effect s).eased
    case clamp a => exact h.of_eased hl (clampWork_effect _ a s).eased
    case absorb =>
      by_cases hr : s.link.state = .running
      · exact .of_moving (by rw [hl, hr]; rfl)
      · simp only [runTask, if_neg hr]
        exact h
    case handwheel => exact h.handwheelWork _ _
    case axes => exact h.axesWork
    all_goals exact stillLaw_reads.keep (runTask_within c _ s) h
  leave _ _ _ h := h

end Sys2Proof.Machine

/-! # Offsets, grants, and the settled state -/

namespace Sys2Proof.Machine

-- Many short proofs that wait for the same case splitters: one after the other they need less memory.
set_option Elab.async false

/-! ## The offset limit (R135) -/

/-- Every offset stands or becomes 0. -/
def OffsetsKept (s t : State) : Prop :=
  ∀ a, (t.axes.get a).offset = (s.axes.get a).offset ∨ (t.axes.get a).offset = 0

theorem OffsetsKept.refl (s : State) : OffsetsKept s s := fun _ => .inl rfl

theorem OffsetsKept.trans {s t u : State} (h : OffsetsKept s t) (k : OffsetsKept t u) : OffsetsKept s u := fun a => by
  rcases k a with e | e
  · rw [e]; exact h a
  · exact .inr e

theorem OffsetsKept.of_axes {s t : State}
    (k : ∀ a, t.axes.get a = s.axes.get a ∨ t.axes.get a = { s.axes.get a with frozen := none }) :
    OffsetsKept s t := fun a => by rcases k a with e | e <;> rw [e] <;> exact .inl rfl

theorem OffsetsKept.of_cleared {s t : State} (h : ∀ a, ∃ c, t.axes.get a = clearedAxis c) : OffsetsKept s t := fun a => by
  obtain ⟨c, e⟩ := h a
  rw [e]
  exact .inr rfl

theorem offsetLimitLaw_reads : Reads [.axes, .store] OffsetLimitLaw := by
  intro s t h hs a bs hb
  have ha : t.axes = s.axes := h .axes (by decide)
  have ht : t.store = s.store := h .store (by decide)
  rw [ha]
  exact hs a bs (by rwa [← activeBytes_congr ht])

section
variable {s t : State}

theorem OffsetLimitLaw.of_kept (h : OffsetLimitLaw s) (hb : activeBytes t .pendant = activeBytes s .pendant)
    (k : OffsetsKept s t) : OffsetLimitLaw t := by
  intro a bs e
  rcases k a with e' | e'
  · rw [e']; exact h a bs (by rwa [← hb])
  · rw [e']; exact Nat.zero_le _

theorem OffsetLimitLaw.of_zero (h : ∀ a, (t.axes.get a).offset = 0) : OffsetLimitLaw t := fun a bs _ => by
  rw [h a]; exact Nat.zero_le _

theorem OffsetLimitLaw.of_eased (h : OffsetLimitLaw s) (hs : t.store = s.store) (k : Eased s t) : OffsetLimitLaw t :=
  h.of_kept (activeBytes_congr hs _) (.of_axes k.axis)

theorem OffsetLimitLaw.transfer (h : OffsetLimitLaw s) : OffsetLimitLaw (transfer s) := by
  unfold Machine.transfer
  split
  · rename_i c _
    split
    · rename_i bs p hb _
      intro a bs' hb'
      have hs : (transferMove bs p c s).store = s.store := (transferMove_within bs p c s).same_store
      have ebs : bs' = bs := by
        rw [activeBytes_congr hs, hb] at hb'
        exact (Option.some.inj hb').symm
      rw [ebs]
      unfold transferMove
      dsimp only
      rw [(raiseIf_within _ _ _).same_axes]
      by_cases e : a = c
      · subst e
        dsimp only
        rw [PerAxis.get_set_self]
        dsimp only
        split
        · exact natAbs_clampInt_le _ _
        · exact h a bs hb
      · dsimp only
        rw [PerAxis.get_set_ne _ _ e]
        exact h a bs hb
    · exact h
  · exact h
  · exact h

theorem grantAxis_offsets (a : Axis) (s : State) : OffsetsKept s (grantAxis a s) := fun c => by
  unfold grantAxis
  rw [raise_axes]
  by_cases e : c = a
  · subst e
    dsimp only
    rw [PerAxis.get_set_self]
    exact .inl rfl
  · dsimp only
    rw [PerAxis.get_set_ne _ _ e]
    exact .inl rfl

end

/-- What the work on a wait does: nothing without a wait, and with one its mark and count, and a grant where it is due. -/
theorem waitWork_cases (taken held : Option CycleFrame) (s : State) :
    ((∀ a, s.pendant.grant ≠ .waiting a) ∧ waitWork taken held s = s) ∨
    (∃ a u, s.pendant.grant = .waiting a ∧ u = stillUpdate taken a (permitUpdate taken a s) ∧
      ((grantDue (permitOf held a) a u = true ∧ waitWork taken held s = grantAxis a u) ∨
       (grantDue (permitOf held a) a u = false ∧ waitWork taken held s = u))) := by
  unfold waitWork
  cases hg : s.pendant.grant with
  | free => exact .inl ⟨fun a e => (nomatch e), rfl⟩
  | granted a => exact .inl ⟨fun a e => (nomatch e), rfl⟩
  | waiting a =>
    refine .inr ⟨a, _, rfl, rfl, ?_⟩
    dsimp only
    cases hd : grantDue (permitOf held a) a (stillUpdate taken a (permitUpdate taken a s))
    · exact .inr ⟨rfl, rfl⟩
    · exact .inl ⟨rfl, rfl⟩

/-- A frame without the granted axis's permit ends the grant; otherwise nothing happens. -/
theorem permitWithdrawn_cases (taken : Option CycleFrame) (s : State) :
    permitWithdrawn taken s = s ∨
    (∃ f a, taken = some f ∧ s.pendant.grant = .granted a ∧ (f.axes.get a).permit = false ∧
      permitWithdrawn taken s = endGrant s) := by
  unfold permitWithdrawn
  split
  · rename_i f a hg
    split
    · exact .inl rfl
    · rename_i hp
      exact .inr ⟨f, a, rfl, hg, by simpa using hp, rfl⟩
  · exact .inl rfl

theorem permitWithdrawn_eased (taken : Option CycleFrame) (s : State) : Eased s (permitWithdrawn taken s) := by
  rcases permitWithdrawn_cases taken s with e | ⟨_, _, -, -, -, e⟩
  · exact e.symm ▸ .refl s
  · exact e.symm ▸ endGrant_eased s

theorem stillUpdate_permitUpdate_within (taken : Option CycleFrame) (a : Axis) (s : State) :
    Within [.pendant] s (stillUpdate taken a (permitUpdate taken a s)) :=
  ((permitUpdate_within taken a s).comp (stillUpdate_within taken a _)).mono (by decide)

theorem waitWork_offsets (taken held : Option CycleFrame) (s : State) : OffsetsKept s (waitWork taken held s) := by
  rcases waitWork_cases taken held s with ⟨-, e⟩ | ⟨a, u, -, rfl, ⟨-, e⟩ | ⟨-, e⟩⟩
  · exact e.symm ▸ .refl s
  · rw [e]
    have h := grantAxis_offsets a (stillUpdate taken a (permitUpdate taken a s))
    unfold OffsetsKept at h ⊢
    rwa [(stillUpdate_permitUpdate_within taken a s).same_axes] at h
  · rw [e]
    intro c
    rw [(stillUpdate_permitUpdate_within taken a s).same_axes]
    exact .inl rfl

theorem OffsetLimitLaw.handwheelWork {s : State} (h : OffsetLimitLaw s) (taken held : Option CycleFrame) :
    OffsetLimitLaw (handwheelWork taken held s) := by
  by_cases hr : s.link.state = .running
  · unfold Machine.handwheelWork
    rw [if_pos hr]
    refine OffsetLimitLaw.transfer (OffsetLimitLaw.of_kept ?_ (activeBytes_congr (waitWork_within _ _ _).same_store _)
      (waitWork_offsets taken held _))
    exact h.of_eased (permitWithdrawn_within taken s).same_store (permitWithdrawn_eased taken s)
  · exact offsetLimitLaw_reads.keep (handwheelWork_of_not_running hr) h

theorem pushCommands_offsets (taken : Option CycleFrame) (s : State) : OffsetsKept s (pushCommands taken s) := fun a => by
  unfold pushCommands
  dsimp only
  rw [PerAxis.get_of]
  cases taken <;> exact .inl rfl

theorem OffsetLimitLaw.intake {s : State} (h : OffsetLimitLaw s) (inp : ExpiryInput) (taken : Option CycleFrame) :
    OffsetLimitLaw (intakeStage inp taken s) := by
  have sampled : OffsetLimitLaw (conditionerWork inp.samples { s with gear := { s.gear with forkLoss := false } }) :=
    offsetLimitLaw_reads.keep ((within_gear s _).comp (conditionerWork_within _ _)) h
  unfold intakeStage
  dsimp only
  refine offsetLimitLaw_reads.keep (interlockWork_within _ _) ?_
  split
  · exact sampled.of_kept rfl (pushCommands_offsets taken _)
  · exact sampled

theorem axesWork_offsets (s : State) : OffsetsKept s (axesWork s) := fun a => by
  rw [axesWork_axes]
  exact .inl rfl

theorem absorbWork_offsets (f : CycleFrame) (s : State) : OffsetsKept s (absorbWork f s) := fun a => by
  rw [absorbWork_axes]
  split
  · exact .inr rfl
  · exact .inl rfl

theorem enterRunning_offsets (s : State) : OffsetsKept s (enterRunning s) := fun a => by
  have e : (enterRunning s).axes.get a = startedAxis { s with link := { s.link with state := .running, activation := none } } a :=
    PerAxis.get_of _ a
  rw [e]
  exact .inl rfl

theorem leaveRunning_axes (st : LinkState) (s : State) (a : Axis) : (leaveRunning st s).axes.get a = s.axes.get a ∨
    (leaveRunning st s).axes.get a = { s.axes.get a with frozen := none } :=
  (endGrant_eased { s with link := { s.link with state := st } }).axis a

theorem offsetLimitLaw_link : LinkKept OffsetLimitLaw where
  quiet _ _ _ _ _ h := h
  raise _ _ h := h
  estop _ _ h := h
  rest st s _ _ := .of_zero fun a => by rw [enterRest_axes]; rfl
  standby order s _ _ _ := .of_zero fun a => by rw [enterStandby_axes]; rfl
  activating p s _ _ _ := .of_zero fun a => congrArg AxisChannel.offset (clearAxes_axes _ a)
  running {s} _ _ h := h.of_kept (activeBytes_congr (enterRunning_within s).same_store _) (enterRunning_offsets s)
  leave st s _ _ h := h.of_kept (activeBytes_congr (leaveRunning_within st s).same_store _)
    (.of_axes (leaveRunning_axes st s))
  lost _ h := h

/-- A COMMIT, and a STORE and a WRITE_SEGMENT, meet no offset, and no other service reaches the pendant table. -/
theorem OffsetLimitLaw.effect {order : List ClampAxis} {s t : State} (hs : StillLaw s) (h : OffsetLimitLaw s)
    (e : BlockEffect order s t) : OffsetLimitLaw t := by
  have still (hl : s.link.state = .standby) (a : Axis) : (s.axes.get a).offset = 0 := (hs (by rw [hl]; rfl) a).1
  cases e
  case none => exact h
  case write hl _ => exact .of_zero (still hl)
  case commit q hl _ _ =>
    refine .of_zero fun a => ?_
    rw [(commitEffects_within q _ order _).same_axes]
    exact still hl a
  case store hl => exact .of_zero (still hl)
  case flags hw => exact offsetLimitLaw_reads.keep hw h
  case trigger p _ _ => exact offsetLimitLaw_reads.keep (triggerProgram_within p s) h
  case stop => exact h
  case growth hard => exact offsetLimitLaw_reads.keep (growthTrigger_within hard s) h
  case zero => exact h
  case clamp => exact h
  case gear => exact offsetLimitLaw_reads.keep (reevaluate_within s) h

theorem storeDone_active (s : State) : (storeDone s).store.active = s.store.active := by
  unfold storeDone
  split
  · split <;> rfl
  · rfl

theorem storeFails_active (s : State) : (storeFails s).store.active = s.store.active := by
  unfold storeFails
  split <;> rfl

theorem offsetLaws_kept : Kept fun s => StillLaw s ∧ OffsetLimitLaw s where
  reset estop a b _ h := ⟨stillLaw_kept.reset estop a b h.1, .of_zero fun a => by cases a <;> rfl⟩
  settle order _ h := ⟨stillLaw_kept.settle order h.1, offsetLimitLaw_reads.keep (settleTriggers_within order _) h.2⟩
  sent _ _ h := h
  between e s h := by
    refine ⟨stillLaw_kept.between e h.1, ?_⟩
    obtain ⟨-, h⟩ := h
    cases e
    case frameArrival bytes order => exact offsetLimitLaw_link.frameArrives bytes order h
    case returnFrame bytes => exact offsetLimitLaw_link.returnArrives bytes h
    case activationCeiling => exact offsetLimitLaw_link.activationEnds h
    case estopOpening => exact offsetLimitLaw_link.estopOpens h
    case unclampCeiling a => exact h.of_eased (clampCeilingEnds_within _ a s).same_store (clampCeilingEnds_eased _ a s)
    case clampCeiling a => exact h.of_eased (clampCeilingEnds_within _ a s).same_store (clampCeilingEnds_eased _ a s)
    case dropCeiling a => exact h.of_eased (clampCeilingEnds_within _ a s).same_store (clampCeilingEnds_eased _ a s)
    case storeVerified =>
      refine h.of_kept ?_ fun a => .inl (by rw [(betweenWork_within _ s).same_axes])
      unfold activeBytes
      rw [show betweenWork .storeVerified s = storeDone s from rfl, storeDone_active]
    case storeMismatch | storeCeiling =>
      refine h.of_kept ?_ fun a => .inl (by rw [(betweenWork_within _ s).same_axes])
      unfold activeBytes
      rw [show betweenWork _ s = storeFails s from rfl, storeFails_active]
    all_goals exact offsetLimitLaw_reads.keep (betweenWork_within _ s) h
  linkService kind body order _ h := ⟨stillLaw_kept.linkService kind body order h.1,
    offsetLimitLaw_link.linkService (fun hw hu => offsetLimitLaw_reads.keep hw hu) kind body order h.2⟩
  restart {s} h := ⟨stillLaw_kept.restart h.1, .of_zero fun a => by rw [restart_axes]; rfl⟩
  passTime _ _ h := h
  linkWork taken order _ h := ⟨stillLaw_kept.linkWork taken order h.1, offsetLimitLaw_link.linkWork rfl taken order h.2⟩
  intake inp taken _ h := ⟨stillLaw_kept.intake inp taken h.1, h.2.intake inp taken⟩
  task c u s h := by
    refine ⟨stillLaw_kept.task c u h.1, ?_⟩
    obtain ⟨hstill, h⟩ := h
    cases u
    case pendantFirst =>
      exact h.of_kept (activeBytes_congr (pendantFirstWork_within s).same_store _) (.of_axes (pendantFirstWork_axes s))
    case selector =>
      exact h.of_kept (activeBytes_congr (delivered_within handSelector_within s).same_store _)
        (.of_axes (delivered_selector_axes s))
    case pressure => exact h.of_eased (pressureWork_within s).same_store (pressureWork_effect s).eased
    case clamp a => exact h.of_eased (clampWork_within _ a s).same_store (clampWork_effect _ a s).eased
    case absorb =>
      simp only [runTask]
      split
      · cases c.taken with
        | none => exact h
        | some f => exact h.of_kept (activeBytes_congr (absorbWork_within f s).same_store _) (absorbWork_offsets f s)
      · exact h
    case handwheel => exact h.handwheelWork _ _
    case axes => exact h.of_kept (activeBytes_congr (axesWork_within s).same_store _) (axesWork_offsets s)
    case service =>
      obtain ⟨v, he, hw⟩ := runTask_service_served (s := s) c
      exact offsetLimitLaw_reads.keep hw (h.effect hstill he)
    all_goals exact offsetLimitLaw_reads.keep (runTask_within c _ s) h
  leave _ _ _ h := h

/-- Settles O6: entries into a still state clear the axes, only the transfer changes an offset in RUNNING, within the limit,
and the table changes in STANDBY alone. -/
theorem offsetLawKept : Obligations.OffsetLawKept :=
  ⟨fun _ _ h e => stillLaw_kept.step (fun _ _ hu => hu) h e,
   fun _ _ hs h e => (offsetLaws_kept.step (fun _ _ hu => hu) ⟨hs, h⟩ e).2⟩

/-! ## The settled state (R111, R120) -/

theorem settledLaw_reads : Reads [.coolant, .gear] SettledLaw := by
  intro s t h hs
  have hc : t.coolant = s.coolant := h .coolant (by decide)
  have hg : t.gear = s.gear := h .gear (by decide)
  exact hs.of_same hc (by rw [hg])

/-- What every command ends in: a hardware reset, an expiry, nothing, or the settling of its work. -/
theorem exec_cases {c : Instr} {s t : State} (h : exec c s = .next t) :
    (∃ estop a b, c = .hardwareReset estop a b ∧ t = hardwareReset estop a b s) ∨
    (∃ inp, c = .cycleTimerExpiry inp ∧ t = expiry inp s) ∨ t = s ∨ ∃ u, t = settleTriggers [] u := by
  have work {u : State} (e : settled u = .next t) : t = settleTriggers [] u := by cases e; rfl
  have serve {act : State → State} (e : served act s = .next t) : t = s ∨ t = settleTriggers [] (act s) := by
    unfold served at e
    split at e
    · cases e; exact .inl rfl
    · exact .inr (work e)
  cases c
  case hardwareReset estop a b => cases h; exact .inl ⟨estop, a, b, rfl, rfl⟩
  case cycleTimerExpiry inp => cases h; exact .inr (.inl ⟨inp, rfl, rfl⟩)
  all_goals first
    | exact .inr (.inr (.inr ⟨_, work h⟩))
    | rcases serve h with e | e
      · exact .inr (.inr (.inl e))
      · exact .inr (.inr (.inr ⟨_, e⟩))

theorem hardwareReset_settled (estop a b : Bool) (s : State) : SettledLaw (hardwareReset estop a b s) := ⟨rfl, rfl⟩

theorem restart_settled (s : State) : SettledLaw (restart s) := by
  obtain ⟨l, e⟩ := restart_coolant s
  refine ⟨by rw [e]; rfl, ?_⟩
  unfold demandNow
  rw [e]
  rfl

theorem interlockWork_state (taken : Option CycleFrame) (s : State) :
    (interlockWork taken s).gear.state = s.gear.state := by
  unfold interlockWork
  split
  · split <;> rfl
  · rfl

theorem intakeStage_state (inp : ExpiryInput) (taken : Option CycleFrame) (s : State) :
    (intakeStage inp taken s).gear.state = s.gear.state := by
  unfold intakeStage
  dsimp only
  rw [interlockWork_state]
  split <;> rfl

theorem linkStage_settled (taken : Option CycleFrame) (r : Record) (order : List ClampAxis) (s : State) :
    SettledLaw (linkStage taken r order s) := settleTriggers_settled [] _

theorem closeStage_settled {s : State} (h : SettledLaw s) (rb : Bool) (taken : Option CycleFrame) (r : Record) :
    SettledLaw (closeStage rb taken r s) := by
  have read (u : State) (hu : SettledLaw u) : SettledLaw (match r with
      | some (k, body) => readService k body u
      | none => u) := by
    split
    · exact settledLaw_reads.keep (readService_within _ _ u) hu
    · exact hu
  have left (u : State) (hu : SettledLaw u) :
      SettledLaw (if restartTaken u then Machine.restart (framesLeave rb taken u) else framesLeave rb taken u) := by
    split
    · exact restart_settled _
    · exact settledLaw_reads.keep (framesLeave_within rb taken u) hu
  exact left _ (read s h)

theorem afterClearStage_settled {s : State} (h : SettledLaw s) (r : Record) (events : List Between) :
    SettledLaw (afterClearStage r events s) := by
  rcases afterClearStage_cases r events s with e | ⟨a, x, e⟩
  · exact e.symm ▸ h
  · rw [e]
    exact settledLaw_reads.keep (within_sent _ _)
      (foldl_keeps (fun u e _ => settleTriggers_settled [] (betweenWork e u)) events h)

/-- The stages of an expiry each end settled: the last to announce anything is a task or an event, and both settle. -/
theorem expiry_settled (inp : ExpiryInput) (s : State) : SettledLaw (expiry inp s) := by
  rw [expiry_eq]
  refine afterClearStage_settled (closeStage_settled ?_ _ _ _) _ _
  refine runTasks_keeps (fun t _ => settleTriggers_settled _ (runTask _ t _)) _ ?_
  exact (linkStage_settled _ _ _ _).of_same (intakeStage_within _ _ _).same_coolant (intakeStage_state _ _ _)

/-- Settles O10: a reset leaves a settled state, and each other command ends by settling what it announces. -/
theorem settledLawKept : Obligations.SettledLawKept := by
  intro s t h e
  unfold step at e
  split at e
  · cases e; exact h
  · rcases exec_cases e with ⟨_, _, _, -, rfl⟩ | ⟨inp, -, rfl⟩ | rfl | ⟨u, rfl⟩
    · exact hardwareReset_settled _ _ _ _
    · exact expiry_settled inp _
    · exact h
    · exact settleTriggers_settled [] u

end Sys2Proof.Machine

/-! # Waits and grants (R136 to R139) -/

namespace Sys2Proof.Machine

-- Many short proofs that wait for the same case splitters: one after the other they need less memory.
set_option Elab.async false

/-! ## Work that leaves a wait or a grant alone -/

/-- The grant state and the selector of the pendant unit stand. -/
structure KeepsGrant (s t : State) : Prop where
  grant : t.pendant.grant = s.pendant.grant
  selector : t.pendant.selector = s.pendant.selector

theorem KeepsGrant.refl (s : State) : KeepsGrant s s := ⟨rfl, rfl⟩

theorem KeepsGrant.trans {s t u : State} (h : KeepsGrant s t) (k : KeepsGrant t u) : KeepsGrant s u :=
  ⟨k.grant.trans h.grant, k.selector.trans h.selector⟩

/-- An update of other fields of the unit comes first. -/
theorem KeepsGrant.after {s t u : State} (k : KeepsGrant t u) (h : KeepsGrant s t := by exact ⟨rfl, rfl⟩) :
    KeepsGrant s u := h.trans k

theorem KeepsGrant.of_pendant {s t : State} (h : t.pendant = s.pendant) : KeepsGrant s t := ⟨by rw [h], by rw [h]⟩

theorem raiseIf_keepsGrant (c : Bool) (f : Flag) (s : State) : KeepsGrant s (raiseIf c f s) :=
  .of_pendant (raiseIf_within c f s).same_pendant

theorem addDetent_keepsGrant (limit : Nat) (d : Int) (s : State) : KeepsGrant s (addDetent limit d s) :=
  (raiseIf_keepsGrant _ _ _).after

theorem countDetent_keepsGrant (sign : Int) (s : State) : KeepsGrant s (countDetent sign s) := by
  unfold countDetent
  split
  · split
    · exact addDetent_keepsGrant _ _ s
    · exact .refl s
  · exact .refl s

theorem countEdge_keepsGrant (e : Int) (s : State) : KeepsGrant s (countEdge e s) := by
  unfold countEdge
  dsimp only
  split
  · exact (countDetent_keepsGrant _ _).after
  · exact ⟨rfl, rfl⟩

theorem phasesSeen_keepsGrant (a b : Bool) (s : State) : KeepsGrant s (phasesSeen a b s) := by
  unfold phasesSeen
  dsimp only
  split
  · exact (countEdge_keepsGrant _ _).after
  · exact (countEdge_keepsGrant _ _).after
  · exact ⟨rfl, rfl⟩
  · exact ⟨rfl, rfl⟩

theorem handEnable_keepsGrant (s : State) : KeepsGrant s (handEnable s) := by
  unfold handEnable
  split
  · exact ⟨rfl, rfl⟩
  · exact .refl s

theorem handPanel_keepsGrant (s : State) : KeepsGrant s (handPanel s) := by
  have p (c : Bool) (src : TriggerSource) (u : State) : KeepsGrant u (announceIf c src u) :=
    .of_pendant (announceIf_within c src u).same_pendant
  exact KeepsGrant.trans (t := { s with pendant := { s.pendant with
      increment := s.inputs.increment.value.getD s.pendant.increment, buttons := buttonsNow s } }) ⟨rfl, rfl⟩
    ((((p _ _ _).trans (p _ _ _)).trans (p _ _ _)).trans (p _ _ _))

theorem delivered_keepsGrant {work : State → State} (h : ∀ s, KeepsGrant s (work s)) (s : State) :
    KeepsGrant s (delivered work s) := by
  unfold delivered
  split
  · exact h s
  · exact .refl s

theorem permitUpdate_keepsGrant (taken : Option CycleFrame) (a : Axis) (s : State) :
    KeepsGrant s (permitUpdate taken a s) := by
  cases taken <;> exact ⟨rfl, rfl⟩

theorem stillUpdate_keepsGrant (taken : Option CycleFrame) (a : Axis) (s : State) :
    KeepsGrant s (stillUpdate taken a s) := ⟨rfl, rfl⟩

theorem transfer_keepsGrant (s : State) : KeepsGrant s (transfer s) := by
  unfold transfer
  split
  · split
    · exact (raiseIf_keepsGrant _ _ _).after
    · exact .refl s
  · exact .refl s
  · exact .refl s

theorem strayWork_keepsGrant (s : State) : KeepsGrant s (strayWork s) := by
  unfold strayWork
  split
  · split
    · exact ⟨rfl, rfl⟩
    · exact .refl s
  · exact .refl s
  · exact .refl s

theorem knobsWork_keepsGrant (s : State) : KeepsGrant s (knobsWork s) :=
  (raiseIf_keepsGrant _ _ _).after

theorem commitEffects_keepsGrant (t : TableId) (old : Option (List Byte)) (order : List ClampAxis) (s : State) :
    KeepsGrant s (commitEffects t old order s) := by
  cases t
  case pendant => exact ⟨rfl, rfl⟩
  case compensation => exact .of_pendant (compensationCommitted_within s).same_pendant
  case gear => exact .of_pendant (gearCommitted_within s).same_pendant
  case clamp => exact .of_pendant (clampTableCommitted_within old order s).same_pendant
  case programs => exact ⟨rfl, rfl⟩
  case triggers => exact .of_pendant (triggersCommitted_within s).same_pendant
  all_goals exact .refl s

/-- No service taken with the blocks' work touches a wait or a grant. -/
theorem BlockEffect.keepsGrant {order : List ClampAxis} {s t : State} (e : BlockEffect order s t) : KeepsGrant s t := by
  cases e
  case commit t _ _ _ => exact (commitEffects_keepsGrant t _ order _).after
  case flags hw => exact .of_pendant hw.same_pendant
  case trigger p _ _ => exact .of_pendant (triggerProgram_within p s).same_pendant
  case growth hard => exact .of_pendant (growthTrigger_within hard s).same_pendant
  case gear => exact .of_pendant (reevaluate_within s).same_pendant
  all_goals exact ⟨rfl, rfl⟩

/-! ## The ends and beginnings of a wait or a grant -/

theorem endGrant_grant (s : State) :
    (endGrant s).pendant.grant = .free ∨
      ∃ a, (endGrant s).pendant.grant = .waiting a ∧ s.pendant.grant = .waiting a := by
  unfold endGrant
  cases h : s.pendant.grant with
  | free => exact .inl h
  | waiting a => exact .inr ⟨a, h, rfl⟩
  | granted a => exact .inl rfl

/-- A change of the selector leaves FREE, or a wait on the axis that it names. -/
theorem selectorChange_grant (sel : Selector) (s : State) : (selectorChange sel s).pendant.grant = .free ∨
    ∃ a, sel = .axis a ∧ (selectorChange sel s).pendant.grant = .waiting a := by
  cases sel with
  | off => exact .inl rfl
  | axis a =>
    show (if clampFaulted _ a then Grant.free else .waiting a) = _ ∨ _
    split
    · exact .inl rfl
    · rename_i h
      exact .inr ⟨a, rfl, if_neg h⟩

theorem selectorChange_selector (sel : Selector) (s : State) : (selectorChange sel s).pendant.selector = sel := by
  cases sel <;> rfl

/-- A hand-over is of the debounced value, which the unit's view did not have. -/
theorem changedTo_eq_some {α : Type} [DecidableEq α] {d : Debounced α} {view v : α} (h : changedTo d view = some v) :
    d.value = some v ∧ v ≠ view := by
  unfold changedTo at h
  split at h
  · rename_i w hw
    split at h
    · cases h
    · rename_i hne
      cases h
      exact ⟨hw, hne⟩
  · cases h

/-- A clamp's entry into FAULT ends the wait or the grant on its axis (R79, R139). -/
theorem pendantClampFault_ends (a : ClampAxis) (s : State) :
    (pendantClampFault a s).pendant.grant ≠ .granted a.axis ∧ (pendantClampFault a s).pendant.grant ≠ .waiting a.axis := by
  unfold pendantClampFault
  split
  · rename_i hg
    unfold endGrant
    rw [hg]
    exact ⟨nofun, nofun⟩
  · rename_i hg
    split
    · exact ⟨nofun, nofun⟩
    · rename_i hw
      exact ⟨hg, hw⟩

theorem clampToFault_pendant (a : ClampAxis) (s : State) : (clampToFault a s).pendant =
    (pendantClampFault a (withdraw (.clamp a) (raise .clampFault (setClamp a .fault none s)))).pendant := by
  rw [clampToFault_eq, (release_within _ _).same_pendant]

/-! ## A grant stands in RUNNING alone (R138) -/

theorem grantLaw_reads : Reads [.link, .pendant] GrantLaw := by
  intro s t h hs
  have hl : t.link = s.link := h .link (by decide)
  have hp : t.pendant = s.pendant := h .pendant (by decide)
  unfold GrantLaw at *
  rw [hl, hp]
  exact hs

section
variable {s t : State}

theorem GrantLaw.of_eased (h : GrantLaw s) (hl : t.link.state = s.link.state)
    (k : t.pendant.grant = s.pendant.grant ∨ t.pendant.grant = .free) : GrantLaw t := by
  intro a ha
  rw [hl]
  rcases k with e | e
  · exact h a (e ▸ ha)
  · rw [e] at ha; cases ha

theorem GrantLaw.of_not_granted (h : ∀ a, t.pendant.grant ≠ .granted a) : GrantLaw t := fun a ha => absurd ha (h a)

theorem GrantLaw.of_keeps (h : GrantLaw s) (hl : t.link = s.link) (k : KeepsGrant s t) : GrantLaw t :=
  h.of_eased (by rw [hl]) (.inl k.grant)

theorem selectorChange_grantLaw (sel : Selector) (s : State) : GrantLaw (selectorChange sel s) :=
  .of_not_granted fun a e => by
    rcases selectorChange_grant sel s with e' | ⟨c, -, e'⟩ <;> rw [e'] at e <;> cases e

theorem GrantLaw.handSelector (h : GrantLaw s) : GrantLaw (handSelector s) := by
  rcases handSelector_cases s with ⟨-, e⟩ | ⟨v, -, e⟩
  · exact e.symm ▸ h
  · exact e.symm ▸ selectorChange_grantLaw v s

theorem GrantLaw.pendantFirstWork (h : GrantLaw s) : GrantLaw (pendantFirstWork s) := by
  unfold Machine.pendantFirstWork
  split
  · have handed : GrantLaw (Machine.handSelector { s with pendant := { s.pendant with delivered := true } }) :=
      GrantLaw.handSelector h
    exact (handed.of_keeps (handEnable_within _).same_link (handEnable_keepsGrant _)).of_keeps
      (handPanel_within _).same_link (handPanel_keepsGrant _)
  · exact h

theorem GrantLaw.handwheelWork (h : GrantLaw s) (taken held : Option CycleFrame) :
    GrantLaw (handwheelWork taken held s) := by
  by_cases hr : s.link.state = .running
  · intro a _
    rw [(handwheelWork_within taken held s).same_link]
    exact hr
  · refine h.of_keeps (handwheelWork_within taken held s).same_link ?_
    unfold Machine.handwheelWork
    rw [if_neg hr]
    split
    · exact permitUpdate_keepsGrant taken _ s
    all_goals exact .refl s

end

theorem enterRest_grant (st : LinkState) (s : State) :
    (enterRest st s).pendant = (endGrant { settleTriggers [] s with
      link := disabledLink st (settleTriggers [] s).link }).pendant := by
  rw [enterRest_eq, (coolantRest_within _).same_pendant, (gearHalt_within _).same_pendant,
    (dropClamps_within _).same_pendant, (discardWindow_within _).same_pendant, (clearAxes_within _).same_pendant]
  rfl

theorem enterStandby_pendant (order : List ClampAxis) (s : State) : (enterStandby order s).pendant = s.pendant :=
  (recoverDropped_within order _).same_pendant

theorem not_granted_of_not_running {s : State} (h : GrantLaw s) (hl : s.link.state ≠ .running) (a : Axis) :
    s.pendant.grant ≠ .granted a := fun e => hl (h a e)

theorem leaveRunning_pendant (st : LinkState) (s : State) :
    (leaveRunning st s).pendant = (endGrant { s with link := { s.link with state := st } }).pendant := rfl

theorem grantLaw_link : LinkKept GrantLaw where
  quiet l s hst _ _ h := h.of_eased hst (.inl rfl)
  raise _ _ h := h
  estop _ _ h := h
  rest st s _ _ := .of_not_granted (enterRest_not_granted st s)
  standby order s hl _ h := .of_not_granted fun a => by
    rw [enterStandby_pendant]
    exact not_granted_of_not_running h hl a
  activating _ s hl _ h := .of_not_granted fun a => not_granted_of_not_running (s := s) h (by rw [hl]; decide) a
  running _ _ _ := fun _ _ => rfl
  leave st s _ _ _ := .of_not_granted fun a => by
    rw [leaveRunning_pendant]
    exact endGrant_not_granted _ a
  lost {s} hl h := .of_not_granted fun a => not_granted_of_not_running (s := s) h (by rw [hl]; decide) a

theorem grantLaw_kept : Kept GrantLaw where
  reset _ _ _ _ _ := .of_not_granted fun _ => nofun
  settle order _ h := grantLaw_reads.keep (settleTriggers_within order _) h
  sent _ _ h := h
  between e s h := by
    cases e
    case frameArrival bytes order => exact grantLaw_link.frameArrives bytes order h
    case returnFrame bytes => exact grantLaw_link.returnArrives bytes h
    case activationCeiling => exact grantLaw_link.activationEnds h
    case estopOpening => exact grantLaw_link.estopOpens h
    case unclampCeiling a =>
      exact h.of_eased (by rw [(betweenWork_within _ s).same_link]) (clampCeilingEnds_eased _ a s).grant
    case clampCeiling a =>
      exact h.of_eased (by rw [(betweenWork_within _ s).same_link]) (clampCeilingEnds_eased _ a s).grant
    case dropCeiling a =>
      exact h.of_eased (by rw [(betweenWork_within _ s).same_link]) (clampCeilingEnds_eased _ a s).grant
    case handwheelEdge a b => exact h.of_keeps (phasesSeen_within a b s).same_link (phasesSeen_keepsGrant a b s)
    all_goals exact grantLaw_reads.keep (betweenWork_within _ s) h
  linkService kind body order _ h :=
    grantLaw_link.linkService (fun hw hu => grantLaw_reads.keep hw hu) kind body order h
  restart {s} _ := .of_not_granted fun a => by rw [(restart_within_base s).same_pendant]; exact nofun
  passTime _ _ h := h
  linkWork taken order _ h := grantLaw_link.linkWork rfl taken order h
  intake inp taken _ h := grantLaw_reads.keep (intakeStage_within inp taken _) h
  task c u s h := by
    have hl : (runTask c u s).link = s.link := ((runTask_within c u s).mono (taskParts_subset u)).same_link
    cases u
    case pendantFirst => exact h.pendantFirstWork
    case selector =>
      simp only [runTask, delivered]
      split
      · exact h.handSelector
      · exact h
    case enableSwitch => exact h.of_keeps hl (delivered_keepsGrant handEnable_keepsGrant s)
    case panel => exact h.of_keeps hl (delivered_keepsGrant handPanel_keepsGrant s)
    case pressure => exact h.of_eased (by rw [hl]) (pressureWork_effect s).eased.grant
    case clamp a => exact h.of_eased (by rw [hl]) (clampWork_effect _ a s).eased.grant
    case handwheel => exact h.handwheelWork _ _
    case strayCommand => exact h.of_keeps hl (strayWork_keepsGrant s)
    case knobs => exact h.of_keeps hl (knobsWork_keepsGrant s)
    case service =>
      obtain ⟨v, he, hw⟩ := runTask_service_served (s := s) c
      exact h.of_keeps hl (he.keepsGrant.trans (.of_pendant hw.same_pendant))
    all_goals exact grantLaw_reads.keep (runTask_within c _ s) h
  leave _ _ _ h := h

/-! ## The wait or grant is on the selector's axis (R136) -/

/-- The half of `SelectorLaw` about the present: no axis waits or is granted but the one that the selector names. -/
def SelectorNow (s : State) : Prop :=
  ∀ a, s.pendant.selector ≠ .axis a → s.pendant.grant ≠ .waiting a ∧ s.pendant.grant ≠ .granted a

section
variable {s t : State}

theorem SelectorNow.of_eased (h : SelectorNow s) (hs : t.pendant.selector = s.pendant.selector)
    (k : t.pendant.grant = s.pendant.grant ∨ t.pendant.grant = .free) : SelectorNow t := by
  intro a ha
  rw [hs] at ha
  rcases k with e | e
  · rw [e]; exact h a ha
  · rw [e]; exact ⟨nofun, nofun⟩

theorem SelectorNow.of_keeps (h : SelectorNow s) (k : KeepsGrant s t) : SelectorNow t :=
  h.of_eased k.selector (.inl k.grant)

theorem selectorNow_reads : Reads [.pendant] SelectorNow := fun h hs => hs.of_keeps (.of_pendant (h .pendant (by decide)))

theorem selectorChange_selectorNow (sel : Selector) (s : State) : SelectorNow (selectorChange sel s) := by
  intro a ha
  rw [selectorChange_selector] at ha
  rcases selectorChange_grant sel s with e | ⟨c, hc, e⟩
  · rw [e]; exact ⟨nofun, nofun⟩
  · rw [e]
    refine ⟨fun h => ?_, nofun⟩
    cases h
    exact ha hc

theorem SelectorNow.handSelector (h : SelectorNow s) : SelectorNow (handSelector s) := by
  rcases handSelector_cases s with ⟨-, e⟩ | ⟨v, -, e⟩
  · exact e.symm ▸ h
  · exact e.symm ▸ selectorChange_selectorNow v s

theorem SelectorNow.pendantFirstWork (h : SelectorNow s) : SelectorNow (pendantFirstWork s) := by
  unfold Machine.pendantFirstWork
  split
  · have handed : SelectorNow (Machine.handSelector { s with pendant := { s.pendant with delivered := true } }) :=
      SelectorNow.handSelector h
    exact (handed.of_keeps (handEnable_keepsGrant _)).of_keeps (handPanel_keepsGrant _)
  · exact h

/-- A grant is on the axis that waited for it. -/
theorem SelectorNow.waitWork (h : SelectorNow s) (taken held : Option CycleFrame) :
    SelectorNow (waitWork taken held s) := by
  rcases waitWork_cases taken held s with ⟨-, e⟩ | ⟨a, u, hw, hu, he⟩
  · exact e.symm ▸ h
  have k : KeepsGrant s u := hu ▸ (permitUpdate_keepsGrant taken a s).trans (stillUpdate_keepsGrant taken a _)
  rcases he with ⟨-, e⟩ | ⟨-, e⟩
  · rw [e]
    intro c hc
    refine ⟨nofun, fun hg => ?_⟩
    have hca : a = c := Grant.granted.inj hg
    exact (h c (k.selector ▸ hc)).1 (hca ▸ hw)
  · exact e.symm ▸ h.of_keeps k

theorem SelectorNow.handwheelWork (h : SelectorNow s) (taken held : Option CycleFrame) :
    SelectorNow (handwheelWork taken held s) := by
  unfold Machine.handwheelWork
  split
  · have k := permitWithdrawn_eased taken s
    exact ((h.of_eased k.selector k.grant).waitWork taken held).of_keeps (transfer_keepsGrant _)
  · split
    · exact h.of_keeps (permitUpdate_keepsGrant taken _ s)
    all_goals exact h

/-- The work of every task leaves the wait or grant on the selector's axis. -/
theorem SelectorNow.task (h : SelectorNow s) (c : Turn) (u : Task) : SelectorNow (runTask c u s) := by
  cases u
  case pendantFirst => exact h.pendantFirstWork
  case selector =>
    simp only [runTask, delivered]
    split
    · exact h.handSelector
    · exact h
  case enableSwitch => exact h.of_keeps (delivered_keepsGrant handEnable_keepsGrant s)
  case panel => exact h.of_keeps (delivered_keepsGrant handPanel_keepsGrant s)
  case pressure => exact h.of_eased (pressureWork_effect s).eased.selector (pressureWork_effect s).eased.grant
  case clamp a => exact h.of_eased (clampWork_effect _ a s).eased.selector (clampWork_effect _ a s).eased.grant
  case handwheel => exact h.handwheelWork _ _
  case strayCommand => exact h.of_keeps (strayWork_keepsGrant s)
  case knobs => exact h.of_keeps (knobsWork_keepsGrant s)
  case service =>
    obtain ⟨v, he, hw⟩ := runTask_service_served (s := s) c
    exact h.of_keeps (he.keepsGrant.trans (.of_pendant hw.same_pendant))
  all_goals exact selectorNow_reads.keep (runTask_within c _ s) h

end

end Sys2Proof.Machine

/-! # A granted axis's clamp (R138) -/

namespace Sys2Proof.Machine

-- Many short proofs that wait for the same case splitters: one after the other they need less memory.
set_option Elab.async false

/-! ## An UNCLAMPED clamp stays so under the bank's operations -/

theorem setClamp_get_self (a : ClampAxis) (st : ClampState) (n : Option Nat) (s : State) :
    (setClamp a st n s).clamps.get a = { state := st, ceiling := n, settle := 0 } := PerClamp.get_set_self _ _ _

theorem setClamp_get_ne {a c : ClampAxis} (h : c ≠ a) (st : ClampState) (n : Option Nat) (s : State) :
    (setClamp a st n s).clamps.get c = s.clamps.get c := PerClamp.get_set_ne _ _ h

theorem setSettle_state (a c : ClampAxis) (n : Nat) (s : State) :
    ((setSettle a n s).clamps.get c).state = (s.clamps.get c).state := by
  unfold setSettle
  by_cases h : c = a
  · subst h
    dsimp only
    rw [PerClamp.get_set_self]
  · dsimp only
    rw [PerClamp.get_set_ne _ _ h]

/-- Every clamp that is UNCLAMPED stays so. -/
def UnclampedKept (s t : State) : Prop :=
  ∀ c, (s.clamps.get c).state = .unclamped → (t.clamps.get c).state = .unclamped

theorem UnclampedKept.refl (s : State) : UnclampedKept s s := fun _ h => h

theorem UnclampedKept.trans {s t u : State} (h : UnclampedKept s t) (k : UnclampedKept t u) : UnclampedKept s u :=
  fun c hc => k c (h c hc)

theorem UnclampedKept.of_clamps {s t : State} (h : t.clamps = s.clamps) : UnclampedKept s t := fun c hc => by
  rw [h]; exact hc

/-- A change of other parts comes first. -/
theorem UnclampedKept.after {s t u : State} (k : UnclampedKept t u) (h : t.clamps = s.clamps := by exact rfl) :
    UnclampedKept s u := .trans (.of_clamps h) k

theorem UnclampedKept.of_within {l : List Part} {s t : State} (h : Within l s t)
    (hd : Part.clamps ∉ l := by exact of_decide_eq_true rfl) : UnclampedKept s t := .of_clamps (h .clamps hd)

/-- A clamp in another state that is given a new one. -/
theorem setClamp_unclampedKept {a : ClampAxis} {s : State} (h : (s.clamps.get a).state ≠ .unclamped) (st : ClampState)
    (n : Option Nat) : UnclampedKept s (setClamp a st n s) := fun c hc => by
  rw [setClamp_get_ne (fun e : c = a => h (e ▸ hc))]
  exact hc

theorem setSettle_unclampedKept (a : ClampAxis) (n : Nat) (s : State) : UnclampedKept s (setSettle a n s) :=
  fun c hc => by rw [setSettle_state]; exact hc

theorem beginTransit_unclampedKept (c : Claimant) (s : State) : UnclampedKept s (beginTransit c s) := by
  cases c with
  | gearbox =>
    refine .of_clamps ?_
    show (beginShift s).clamps = s.clamps
    unfold beginShift
    split <;> rfl
  | clamp a =>
    show UnclampedKept s (beginClampTransit a s)
    unfold beginClampTransit
    split
    · rename_i h
      exact setClamp_unclampedKept (by rw [h]; exact nofun) _ _
    · rename_i h
      exact setClamp_unclampedKept (by rw [h]; exact nofun) _ _
    all_goals exact .refl s

theorem tryGrant_unclampedKept (s : State) : UnclampedKept s (tryGrant s) := by
  rcases tryGrant_cases s with ⟨-, e⟩ | ⟨c, rest, -, -, e⟩
  · exact e.symm ▸ .refl s
  · exact e.symm ▸ (beginTransit_unclampedKept c _).after

theorem claim_unclampedKept (c : Claimant) (s : State) : UnclampedKept s (claim c s) := by
  rcases claim_cases c s with ⟨-, e⟩ | ⟨-, -, e⟩
  · exact e.symm ▸ .refl s
  · exact e.symm ▸ (tryGrant_unclampedKept _).after

theorem release_unclampedKept (c : Claimant) (s : State) : UnclampedKept s (release c s) := by
  rcases release_cases c s with ⟨-, e⟩ | ⟨-, e⟩
  · exact e.symm ▸ .refl s
  · exact e.symm ▸ (tryGrant_unclampedKept _).after

theorem recoverClamp_unclampedKept (s : State) (a : ClampAxis) : UnclampedKept s (recoverClamp s a) := by
  rcases recoverClamp_cases s a with ⟨-, e⟩ | ⟨hr, e⟩
  · exact e.symm ▸ .refl s
  · have hd : (s.clamps.get a).state = .dropped := by
      simp only [recoverable, Bool.and_eq_true, decide_eq_true_eq] at hr
      exact hr.1.1.1
    exact e.symm ▸ (setClamp_unclampedKept (by rw [hd]; exact nofun) _ _).trans (claim_unclampedKept _ _)

theorem foldl_unclampedKept {α : Type} {f : State → α → State} (h : ∀ s a, UnclampedKept s (f s a)) (l : List α)
    (s : State) : UnclampedKept s (l.foldl f s) := by
  induction l generalizing s with
  | nil => exact .refl s
  | cons a l ih => exact (h s a).trans (ih (f s a))

theorem recoverDropped_unclampedKept (order : List ClampAxis) (s : State) : UnclampedKept s (recoverDropped order s) :=
  foldl_unclampedKept recoverClamp_unclampedKept _ s

theorem clampFirstWork_unclampedKept (order : List ClampAxis) (s : State) :
    UnclampedKept s (clampFirstWork order s) := by
  unfold clampFirstWork
  split
  · refine .trans (fun c hc => ?_) (recoverDropped_unclampedKept order _)
    dsimp only
    rw [PerClamp.get_of]
    split
    · rename_i h
      rw [h.2.1] at hc
      cases hc
    · exact hc
  · exact .refl s

/-! ### Faults and the grant -/

/-- Every clamp that is UNCLAMPED stays so, or the wait or grant on its axis ends. -/
def HoldsUnclamped (s t : State) : Prop :=
  ∀ c, (s.clamps.get c).state = .unclamped → (t.clamps.get c).state = .unclamped ∨
    t.pendant.grant ≠ .granted c.axis ∧ t.pendant.grant ≠ .waiting c.axis

theorem UnclampedKept.holds {s t : State} (h : UnclampedKept s t) : HoldsUnclamped s t := fun c hc => .inl (h c hc)

theorem clampToFault_ne_unclampedKept {a c : ClampAxis} (h : c ≠ a) (s : State)
    (hc : (s.clamps.get c).state = .unclamped) : ((clampToFault a s).clamps.get c).state = .unclamped := by
  rw [clampToFault_eq]
  refine release_unclampedKept _ _ c ?_
  rw [(pendantClampFault_within a _).same_clamps]
  show ((setClamp a .fault none s).clamps.get c).state = .unclamped
  rw [setClamp_get_ne h]
  exact hc

theorem clampToFault_holds (a : ClampAxis) (s : State) : HoldsUnclamped s (clampToFault a s) := fun c hc => by
  by_cases e : c = a
  · subst e
    right
    rw [clampToFault_pendant]
    exact pendantClampFault_ends c _
  · exact .inl (clampToFault_ne_unclampedKept e s hc)

theorem gearToFault_unclampedKept (s : State) : UnclampedKept s (gearToFault s) :=
  (release_unclampedKept _ _).after

theorem abortTransit_holds (s : State) : HoldsUnclamped s (abortTransit s) := by
  rcases abortTransit_cases s with ⟨-, e⟩ | ⟨a, -, e⟩ | ⟨-, e⟩
  · exact e.symm ▸ (UnclampedKept.refl s).holds
  · exact e.symm ▸ clampToFault_holds a s
  · exact e.symm ▸ (gearToFault_unclampedKept s).holds

theorem PressureEffect.holds {s t : State} (e : PressureEffect s t) : HoldsUnclamped s t := by
  cases e
  case none => exact (UnclampedKept.refl s).holds
  case count => exact (UnclampedKept.of_clamps rfl).holds
  case good => exact (UnclampedKept.after (tryGrant_unclampedKept _)).holds
  case low => exact fun c hc => abortTransit_holds _ c hc

/-- The clamp's own work leaves UNCLAMPED only for FAULT, or where the clamp is not wanted unclamped. -/
theorem ClampEffect.holds {a : ClampAxis} {wanted : Bool} {s t : State} (e : ClampEffect a wanted s t) :
    wanted = false ∧ (∀ c, c ≠ a → (s.clamps.get c).state = .unclamped → (t.clamps.get c).state = .unclamped) ∨
      HoldsUnclamped s t := by
  cases e
  case none => exact .inr (UnclampedKept.refl s).holds
  case fault => exact .inr (clampToFault_holds a s)
  case want hst _ _ =>
    exact .inr ((setClamp_unclampedKept (by rw [hst]; exact nofun) _ _).trans (claim_unclampedKept _ _)).holds
  case withdrawn hst =>
    exact .inr (UnclampedKept.trans (t := withdraw (.clamp a) s) (.of_clamps rfl)
      (setClamp_unclampedKept (by rw [withdraw_clamps, hst]; exact nofun) _ _)).holds
  case count n => exact .inr (setSettle_unclampedKept a n s).holds
  case unclamped hst =>
    exact .inr ((setClamp_unclampedKept (by rw [hst]; exact nofun) _ _).trans
      (UnclampedKept.after (t := raise .clampDone _) (release_unclampedKept _ _))).holds
  case clamped hst =>
    exact .inr ((setClamp_unclampedKept (by rw [hst]; exact nofun) _ _).trans
      (UnclampedKept.after (t := raise .clampDone _) (release_unclampedKept _ _))).holds
  case reclaim _ hw _ =>
    refine .inl ⟨hw, fun c hc h => claim_unclampedKept _ _ c ?_⟩
    rw [setClamp_get_ne hc]
    exact h
  case kept hst =>
    exact .inr (UnclampedKept.trans (t := withdraw (.clamp a) s) (.of_clamps rfl)
      (setClamp_unclampedKept (by rw [withdraw_clamps, hst]; exact nofun) _ _)).holds

theorem gearStageWork_unclampedKept (s : State) : UnclampedKept s (gearStageWork s) := by
  rcases gearStageWork_cases s with e | ⟨bs, r, -, -, -, -, e⟩ | ⟨bs, -, -, e⟩ | ⟨bs, n, -, -, e⟩ | ⟨bs, n, -, -, -, e⟩
  · exact e.symm ▸ .refl s
  · exact e.symm ▸ .of_clamps rfl
  · exact e.symm ▸ (claim_unclampedKept _ _).after
  · exact e.symm ▸ .of_clamps rfl
  · rw [e]
    refine .trans (t := { s with gear := { s.gear with settle := n } }) (.of_clamps rfl) ?_
    rcases completeShift_cases { s with gear := { s.gear with settle := n } } with ⟨-, e⟩ | ⟨r, u, -, hu, he⟩
    · exact e.symm ▸ .refl _
    · have ku : UnclampedKept { s with gear := { s.gear with settle := n } } u := by
        rw [hu]
        refine .trans (.of_within ((shiftCompleted_within r _).comp (settleTriggers_within [] _))) ?_
        unfold shiftReleased
        refine .trans ?_ (release_unclampedKept _ _)
        split
        · exact .of_within (enabledTrigger_within 1 _)
        · exact .refl _
      rcases he with ⟨-, e⟩ | ⟨q, -, e⟩
      · exact e.symm ▸ ku
      · exact e.symm ▸ ku.trans (.of_within (actOnRequest_within q u))

theorem abandonChange_unclampedKept (s : State) : UnclampedKept s (abandonChange s) :=
  .trans (.of_within (((within_gear s _).comp (withdraw_within _ _)).comp (reevaluate_within _)))
    (release_unclampedKept _ _)

theorem forkFirstWork_unclampedKept (s : State) : UnclampedKept s (forkFirstWork s) := by
  unfold forkFirstWork
  split
  · dsimp only
    refine .trans (t := { s with gear := { s.gear with forks := forkValues s, forksDelivered := true } })
      (.of_clamps rfl) ?_
    split
    · exact .of_within (reevaluateKeeping_within _)
    · exact .of_within (reevaluateKeeping_within _)
    · exact abandonChange_unclampedKept _
    · exact abandonChange_unclampedKept _
    · exact abandonChange_unclampedKept _
    · exact abandonChange_unclampedKept _
    · exact .of_within (reevaluate_within _)
  · exact .refl s

/-! ## The laws of a wait and a grant between two expiries -/

/-- What `GrantLawKept` keeps together. -/
structure GrantLaws (s : State) : Prop where
  enable : EnableLaw s
  grant : GrantLaw s
  enableSent : EnableSentLaw s
  seenClamp : SeenClampLaw s
  selector : SelectorLaw s
  grantClamp : GrantClampLaw s

/-- A drive frame with drive enable ON has left, so that what is read as of the previous drive frame is of this enabling. -/
def Sending (s : State) : Prop := s.link.state.enabled = true ∧ s.link.enableSent = true

section
variable {s t : State}

theorem GrantLaws.selectorNow (h : GrantLaws s) : SelectorNow s := fun a ha => ⟨(h.selector a ha).1, (h.selector a ha).2.1⟩

theorem enabled_of_moving {l : LinkState} (h : l.moving = true) : l.enabled = true := by
  cases l <;> first | rfl | cases h

theorem GrantLaws.sending_of_granted (he : EnableSentLaw s) (hg : GrantLaw s) {a : Axis}
    (ha : s.pendant.grant = .granted a) : Sending s := by
  have hm : s.link.state.moving = true := by rw [hg a ha]; rfl
  exact ⟨enabled_of_moving hm, he hm⟩

/-- Work after which the previous drive frame counts only where it did before, which ends a wait or grant or leaves it, and
which keeps UNCLAMPED clamps so while that frame counts. -/
theorem GrantLaws.of (h : GrantLaws s) (he : EnableLaw t) (hg : GrantLaw t) (hes : EnableSentLaw t)
    (hl : Sending t → Sending s) (hn : t.seen = s.seen) (hsel : t.pendant.selector = s.pendant.selector)
    (hgr : t.pendant.grant = s.pendant.grant ∨ t.pendant.grant = .free)
    (ha : Sending t → ∀ c, clampAbsent t c = clampAbsent s c) (hu : Sending t → UnclampedKept s t) : GrantLaws t where
  enable := he
  grant := hg
  enableSent := hes
  seenClamp hen hsent a hseen := by
    obtain ⟨hen', hsent'⟩ := hl ⟨hen, hsent⟩
    rw [hn] at hseen
    exact hu ⟨hen, hsent⟩ a (h.seenClamp hen' hsent' a hseen)
  selector a hne := by
    have now := h.selectorNow.of_eased hsel hgr a hne
    rw [hsel] at hne
    obtain ⟨-, -, hseen⟩ := h.selector a hne
    refine ⟨now.1, now.2, fun hen hsent => ?_⟩
    obtain ⟨hen', hsent'⟩ := hl ⟨hen, hsent⟩
    rw [hn]
    exact hseen hen' hsent'
  grantClamp a hga := by
    have sending := GrantLaws.sending_of_granted hes hg hga
    have before : s.pendant.grant = .granted a := by
      rcases hgr with e | e
      · exact e ▸ hga
      · rw [e] at hga; cases hga
    obtain ⟨hseen, hclamp⟩ := h.grantClamp a before
    rw [hn]
    refine ⟨hseen, fun c hc habs => ?_⟩
    rw [ha sending] at habs
    exact hu sending c (hclamp c hc habs)

/-- Where no previous drive frame counts and no axis is granted. -/
theorem GrantLaws.of_silent (he : EnableLaw t) (hm : t.link.state.moving = false) (hl : ¬ Sending t)
    (hg : ∀ a, t.pendant.grant ≠ .granted a) (hs : SelectorNow t) : GrantLaws t where
  enable := he
  grant := .of_not_granted hg
  enableSent h := by rw [hm] at h; cases h
  seenClamp hen hsent := absurd ⟨hen, hsent⟩ hl
  selector a hne := ⟨(hs a hne).1, (hs a hne).2, fun hen hsent => absurd ⟨hen, hsent⟩ hl⟩
  grantClamp a hga := absurd hga (hg a)

theorem clampAbsent_congr (h : t.store = s.store) (c : ClampAxis) : clampAbsent t c = clampAbsent s c := by
  unfold clampAbsent
  rw [activeBytes_congr h]

/-- Work that does not reach the link, what the previous frame left, or the tables. -/
theorem GrantLaws.of_quiet (h : GrantLaws s) (hl : t.link = s.link) (hn : t.seen = s.seen)
    (ha : ∀ c, clampAbsent t c = clampAbsent s c) (hsel : t.pendant.selector = s.pendant.selector)
    (hgr : t.pendant.grant = s.pendant.grant ∨ t.pendant.grant = .free) (hu : UnclampedKept s t) : GrantLaws t := by
  have sending : Sending t → Sending s := fun h => by unfold Sending at *; rwa [hl] at h
  refine h.of ?_ (h.grant.of_eased (by rw [hl]) hgr) ?_ sending hn hsel hgr (fun _ => ha) (fun _ => hu)
  · have he := h.enable
    unfold EnableLaw at *
    rwa [hl]
  · have hes := h.enableSent
    unfold EnableSentLaw at *
    rwa [hl]

theorem grantLaws_reads : Reads [.link, .clamps, .pendant, .store, .seen] GrantLaws := by
  intro s t k h
  have hs : t.store = s.store := k .store (by decide)
  have hp : t.pendant = s.pendant := k .pendant (by decide)
  exact h.of_quiet (k .link (by decide)) (k .seen (by decide)) (clampAbsent_congr hs) (by rw [hp]) (.inl (by rw [hp]))
    (.of_clamps (k .clamps (by decide)))

/-- Work on the bank that keeps UNCLAMPED clamps so. -/
theorem GrantLaws.of_bank (h : GrantLaws s) {l : List Part} (hw : Within l s t) (hu : UnclampedKept s t)
    (hd : ∀ p ∈ [Part.link, .pendant, .store, .seen], p ∉ l := by exact of_decide_eq_true rfl) : GrantLaws t := by
  have hp : t.pendant = s.pendant := hw .pendant (hd _ (by decide))
  exact h.of_quiet (hw .link (hd _ (by decide))) (hw .seen (hd _ (by decide)))
    (clampAbsent_congr (hw .store (hd _ (by decide)))) (by rw [hp]) (.inl (by rw [hp])) hu

end

theorem not_sending_of_disabled {s : State} (h : s.link.state.enabled = false) : ¬ Sending s := fun hs => by
  rw [hs.1] at h; cases h

theorem enterRest_selectorNow {s : State} (h : SelectorNow s) (st : LinkState) : SelectorNow (enterRest st s) := by
  have hp := (settleTriggers_within [] s).same_pendant
  have k := endGrant_eased { settleTriggers [] s with link := disabledLink st (settleTriggers [] s).link }
  refine SelectorNow.of_eased (s := settleTriggers [] s) (h.of_keeps (.of_pendant hp)) ?_ ?_
  · rw [enterRest_grant]; exact k.selector
  · rw [enterRest_grant]; exact k.grant

theorem grantLaws_link : LinkKept GrantLaws where
  quiet l s hst hen hse h := by
    have sending : Sending { s with link := l } → Sending s := fun ⟨h1, h2⟩ => ⟨hst ▸ h1, hse ▸ h2⟩
    refine h.of (enableLaw_link.quiet l hst hen hse h.enable) (grantLaw_link.quiet l hst hen hse h.grant) ?_ sending rfl
      rfl (.inl rfl) (fun _ _ => rfl) (fun _ => .refl s)
    intro hm
    exact hse.trans (h.enableSent (hst ▸ hm))
  raise _ _ h := grantLaws_reads.keep (raise_within _ _) h
  estop _ _ h := grantLaws_reads.keep (within_inputs _ _) h
  rest st s hr h := by
    have hst : st.enabled = false ∧ st.moving = false := by cases st <;> first | exact ⟨rfl, rfl⟩ | cases hr
    have hl : (enterRest st s).link.state = st := by rw [enterRest_link]; rfl
    exact .of_silent (enableLaw_link.rest st hr h.enable) (by rw [hl]; exact hst.2)
      (not_sending_of_disabled (by rw [hl]; exact hst.1)) (enterRest_not_granted st s)
      (enterRest_selectorNow h.selectorNow st)
  standby order s hr _ h := by
    have hl : (enterStandby order s).link.state = .standby := by rw [enterStandby_link]; rfl
    refine .of_silent (enableLaw_link.standby order hr nofun h.enable) (by rw [hl]; rfl)
      (not_sending_of_disabled (by rw [hl]; rfl)) (fun a => ?_) (h.selectorNow.of_keeps (.of_pendant ?_))
    · rw [enterStandby_pendant]; exact not_granted_of_not_running h.grant hr a
    · exact enterStandby_pendant order s
  activating p s hl hp h :=
    .of_silent (enableLaw_link.activating p hl hp h.enable) rfl (fun hs => Bool.noConfusion hs.2)
      (fun a => not_granted_of_not_running (s := s) h.grant (by rw [hl]; decide) a)
      (h.selectorNow.of_keeps (.of_pendant rfl))
  running {s} hl hse h :=
    h.of (enableLaw_link.running hl hse h.enable) (fun _ _ => rfl) (fun _ => hse) (fun _ => ⟨by rw [hl]; rfl, hse⟩) rfl rfl
      (.inl rfl) (fun _ _ => rfl) (fun _ => .of_clamps rfl)
  leave st s hst hl h := by
    have hse : (leaveRunning st s).link.enableSent = s.link.enableSent := by rw [leaveRunning_link]
    have hm : s.link.state.moving = true := by rw [hl]; rfl
    have w := leaveRunning_within st s
    have k := endGrant_eased { s with link := { s.link with state := st } }
    refine h.of (enableLaw_link.leave st hst hl h.enable) (grantLaw_link.leave st hst hl h.grant) (fun _ => ?_)
      (fun _ => ⟨enabled_of_moving hm, h.enableSent hm⟩) w.same_seen k.selector k.grant
      (fun _ => clampAbsent_congr w.same_store) (fun _ => .of_within w)
    rw [hse]
    exact h.enableSent hm
  lost {s} hl h := by
    have hm : s.link.state.moving = true := by rw [hl]; rfl
    exact h.of (enableLaw_link.lost hl h.enable) (grantLaw_link.lost hl h.grant) (fun _ => h.enableSent hm)
      (fun _ => ⟨enabled_of_moving hm, h.enableSent hm⟩) rfl rfl (.inl rfl) (fun _ _ => rfl) (fun _ => .refl s)

theorem GrantLaws.clampCeilingEnds {s : State} (h : GrantLaws s) {bounded : ClampState} (hb : bounded ≠ .unclamped)
    (a : ClampAxis) : GrantLaws (clampCeilingEnds bounded a s) := by
  have w := clampCeilingEnds_within bounded a s
  have k := clampCeilingEnds_eased bounded a s
  refine h.of_quiet w.same_link w.same_seen (clampAbsent_congr w.same_store) k.selector k.grant fun c hc => ?_
  rcases clampCeilingEnds_cases bounded a s with ⟨hst, -, e⟩ | ⟨-, e⟩
  · rw [e]
    exact clampToFault_ne_unclampedKept (fun hca => hb (by rw [← hst, ← hca, hc])) s hc
  · rw [e]
    exact hc

theorem drainCeilingEnds_unclampedKept (s : State) : UnclampedKept s (drainCeilingEnds s) := by
  unfold drainCeilingEnds
  split
  · exact (claim_unclampedKept _ _).after
  · exact .refl s

theorem shiftCeilingEnds_unclampedKept (s : State) : UnclampedKept s (shiftCeilingEnds s) := by
  unfold shiftCeilingEnds
  split
  · exact gearToFault_unclampedKept s
  · exact .refl s

theorem activeBytes_of_active {s t : State} (h : t.store.active = s.store.active) (q : TableId) :
    activeBytes t q = activeBytes s q := by
  unfold activeBytes
  rw [h]

theorem clampAbsent_of_active {s t : State} (h : t.store.active = s.store.active) (c : ClampAxis) :
    clampAbsent t c = clampAbsent s c := by
  unfold clampAbsent
  rw [activeBytes_of_active h]

/-- The active clamp and hydraulic table changes in STANDBY alone. -/
theorem BlockEffect.clampAbsent_eq {order : List ClampAxis} {s t : State} (e : BlockEffect order s t)
    (hl : s.link.state ≠ .standby) (c : ClampAxis) : clampAbsent t c = clampAbsent s c := by
  cases e
  case commit h _ _ => exact absurd h hl
  case trigger p _ _ => exact clampAbsent_congr (triggerProgram_within p s).same_store c
  case flags hw => exact clampAbsent_congr hw.same_store c
  case growth hard => exact clampAbsent_congr (growthTrigger_within hard s).same_store c
  case gear => exact clampAbsent_congr (reevaluate_within s).same_store c
  all_goals rfl

/-- Outside STANDBY no service makes an UNCLAMPED clamp anything else. -/
theorem BlockEffect.unclampedKept {order : List ClampAxis} {s t : State} (e : BlockEffect order s t)
    (hl : s.link.state ≠ .standby) : UnclampedKept s t := by
  cases e
  case commit h _ _ => exact absurd h hl
  case trigger p _ _ => exact .of_within (triggerProgram_within p s)
  case flags hw => exact .of_within hw
  case growth hard => exact .of_within (growthTrigger_within hard s)
  case gear => exact .of_within (reevaluate_within s)
  case clamp a hf _ => exact setClamp_unclampedKept (by rw [hf]; exact nofun) _ _
  all_goals exact .of_clamps rfl

/-- What the effect of a service never reaches. -/
theorem BlockEffect.within {order : List ClampAxis} {s t : State} (e : BlockEffect order s t) :
    Within [.store, .comp, .clamps, .bank, .gear, .coolant, .pendant, .flags] s t := by
  cases e
  case none => exact .refl _ s
  case write => exact (within_store s _).mono (by decide)
  case commit t _ _ _ => exact ((setActive_within t _ s).comp (commitEffects_within t _ order _)).mono (by decide)
  case store => exact (within_store s _).mono (by decide)
  case flags hw => exact hw.mono (by decide)
  case trigger p _ _ => exact (triggerProgram_within p s).mono (by decide)
  case stop => exact (stopCoolant_within s).mono (by decide)
  case growth hard => exact (growthTrigger_within hard s).mono (by decide)
  case zero => exact (within_store s _).mono (by decide)
  case clamp => exact (clearClampFault_within _ s).mono (by decide)
  case gear => exact (reevaluate_within s).mono (by decide)

theorem GrantLaws.effect {order : List ClampAxis} {s t : State} (h : GrantLaws s) (e : BlockEffect order s t) :
    GrantLaws t := by
  have w := e.within
  have k := e.keepsGrant
  by_cases hl : s.link.state = .standby
  · have hlt : t.link.state = .standby := by rw [w.same_link, hl]
    refine .of_silent (enableLaw_reads.keep w h.enable) (by rw [hlt]; rfl) (not_sending_of_disabled (by rw [hlt]; rfl))
      (fun a => ?_) (h.selectorNow.of_keeps k)
    rw [k.grant]
    exact not_granted_of_not_running h.grant (by rw [hl]; decide) a
  · exact h.of_quiet w.same_link w.same_seen (e.clampAbsent_eq hl) k.selector (.inl k.grant) (e.unclampedKept hl)

theorem GrantLaws.restart {s : State} (h : GrantLaws s) : GrantLaws (restart s) := by
  have hl : (Machine.restart s).link.state = .offline := by rw [restart_link]; rfl
  have hp := (restart_within_base s).same_pendant
  refine .of_silent (enableLaw_kept.restart h.enable) (by rw [hl]; rfl) (not_sending_of_disabled (by rw [hl]; rfl))
    (fun a => ?_) (fun a _ => ?_)
  · rw [hp]; exact nofun
  · rw [hp]; exact ⟨nofun, nofun⟩

theorem grantLaws_command : CommandKept GrantLaws where
  reset estop a b s h := .of_silent (enableLaw_kept.reset estop a b h.enable) rfl (not_sending_of_disabled rfl)
    (fun _ => nofun) (fun _ _ => ⟨nofun, nofun⟩)
  settle order _ h := grantLaws_reads.keep (settleTriggers_within order _) h
  sent _ _ h := grantLaws_reads.keep (within_sent _ _) h
  between e s h := by
    cases e
    case frameArrival bytes order => exact grantLaws_link.frameArrives bytes order h
    case returnFrame bytes => exact grantLaws_link.returnArrives bytes h
    case activationCeiling => exact grantLaws_link.activationEnds h
    case estopOpening => exact grantLaws_link.estopOpens h
    case valveBankGrant => exact h.of_bank (tryGrant_within s) (tryGrant_unclampedKept s)
    case drainCeiling => exact h.of_bank (drainCeilingEnds_within s) (drainCeilingEnds_unclampedKept s)
    case shiftCeiling => exact h.of_bank (shiftCeilingEnds_within s) (shiftCeilingEnds_unclampedKept s)
    case unclampCeiling a => exact h.clampCeilingEnds (by decide) a
    case clampCeiling a => exact h.clampCeilingEnds (by decide) a
    case dropCeiling a => exact h.clampCeilingEnds (by decide) a
    case handwheelEdge a b =>
      have w := phasesSeen_within a b s
      have k := phasesSeen_keepsGrant a b s
      exact h.of_quiet w.same_link w.same_seen (clampAbsent_congr w.same_store) k.selector (.inl k.grant) (.of_within w)
    case storeVerified =>
      have w := storeDone_within s
      have hp := w.same_pendant
      exact h.of_quiet w.same_link w.same_seen (clampAbsent_of_active (storeDone_active s)) (congrArg _ hp)
        (.inl (congrArg _ hp)) (.of_within w)
    case storeMismatch | storeCeiling =>
      have w := storeFails_within s
      have hp := w.same_pendant
      exact h.of_quiet w.same_link w.same_seen (clampAbsent_of_active (storeFails_active s)) (congrArg _ hp)
        (.inl (congrArg _ hp)) (.of_within w)
    all_goals exact grantLaws_reads.keep (betweenWork_within _ s) h
  linkService kind body order _ h :=
    grantLaws_link.linkService (fun hw hu => grantLaws_reads.keep hw hu) kind body order h
  blockService kind body order s _ h := by
    obtain ⟨v, he, hw⟩ := blockService_served (order := order) (s := s) kind body
    exact grantLaws_reads.keep hw (h.effect he)
  gearLeave h := h.of_bank (gearLeaveWork_within _) (.of_within (gearLeaveWork_within _))
  restart h := h.restart

end Sys2Proof.Machine

/-! # Waits and grants within an expiry (R70, R136 to R138) -/

namespace Sys2Proof.Machine

-- Many short proofs that wait for the same case splitters: one after the other they need less memory.
set_option Elab.async false

/-! ## Between the frames of one expiry in RUNNING -/

/-- R70: a wait with its permit, or a grant, as the previous drive frame left it, which makes its axis's clamp wanted
unclamped. -/
def WantHeld (s : State) (a : Axis) : Prop :=
  s.seen.grant = .granted a ∨ (s.seen.grant = .waiting a ∧ s.seen.permitMark = true)

/-- What the tasks of an expiry in RUNNING keep of a wait and a grant. -/
structure GrantTurn (s : State) : Prop where
  granted : ∀ a, s.pendant.grant = .granted a → WantHeld s a ∧
    ∀ c, a.clamp = some c → clampAbsent s c = false → (s.clamps.get c).state = .unclamped
  waiting : ∀ a c, s.pendant.grant = .waiting a → WantHeld s a → a.clamp = some c → clampAbsent s c = false →
    s.seen.clampState.get c = .unclamped → (s.clamps.get c).state = .unclamped
  selector : ∀ a, (s.seen.grant = .waiting a ∨ s.seen.grant = .granted a) →
    s.pendant.selector = .axis a ∨ s.inputs.selector.value ≠ some (.axis a)

theorem WantHeld.seen {s : State} {a : Axis} (h : WantHeld s a) :
    s.seen.grant = .waiting a ∨ s.seen.grant = .granted a := by
  rcases h with h | ⟨h, -⟩
  · exact .inr h
  · exact .inl h

theorem axis_of_clamp {a : Axis} {c : ClampAxis} (h : a.clamp = some c) : c.axis = a := by
  cases a <;> cases h <;> rfl

section
variable {s t : State}

/-- Work that ends a wait or grant or leaves it, and takes a clamp that such a wait or grant wants out of UNCLAMPED only as
it ends it. -/
theorem GrantTurn.of (h : GrantTurn s) (hn : t.seen = s.seen) (hi : t.inputs.selector = s.inputs.selector)
    (hsel : t.pendant.selector = s.pendant.selector)
    (hgr : t.pendant.grant = s.pendant.grant ∨ t.pendant.grant = .free)
    (ha : ∀ c, clampAbsent t c = clampAbsent s c)
    (hu : ∀ c, WantHeld s c.axis → (s.clamps.get c).state = .unclamped → (t.clamps.get c).state = .unclamped ∨
      t.pendant.grant ≠ .granted c.axis ∧ t.pendant.grant ≠ .waiting c.axis) : GrantTurn t := by
  have want (a : Axis) : WantHeld t a ↔ WantHeld s a := by unfold WantHeld; rw [hn]
  have before {g : Grant} (hg : t.pendant.grant = g) (hne : g ≠ .free) : s.pendant.grant = g := by
    rcases hgr with e | e
    · rw [← e]; exact hg
    · exact absurd (hg.symm.trans e) hne
  refine ⟨fun a hg => ?_, fun a c hg hwant hc habs hseen => ?_, fun a hseen => ?_⟩
  · obtain ⟨hwant, hclamp⟩ := h.granted a (before hg nofun)
    refine ⟨(want a).mpr hwant, fun c hc habs => ?_⟩
    have hca := axis_of_clamp hc
    rcases hu c (by rw [hca]; exact hwant) (hclamp c hc (by rw [← ha c]; exact habs)) with e | ⟨e, -⟩
    · exact e
    · rw [hca] at e
      exact absurd hg e
  · have hca := axis_of_clamp hc
    rw [want] at hwant
    rw [hn] at hseen
    rcases hu c (by rw [hca]; exact hwant)
      (h.waiting a c (before hg nofun) hwant hc (by rw [← ha c]; exact habs) hseen) with e | ⟨-, e⟩
    · exact e
    · rw [hca] at e
      exact absurd hg e
  · rw [hn] at hseen
    rw [hsel, hi]
    exact h.selector a hseen

theorem GrantTurn.of_quiet (h : GrantTurn s) (hn : t.seen = s.seen) (hi : t.inputs.selector = s.inputs.selector)
    (hs : t.store = s.store) (k : KeepsGrant s t) (hu : UnclampedKept s t) : GrantTurn t :=
  h.of hn hi k.selector (.inl k.grant) (clampAbsent_congr hs) fun c _ hc => .inl (hu c hc)

theorem grantTurn_reads : Reads [.pendant, .seen, .clamps, .store, .inputs] GrantTurn := fun k h =>
  h.of_quiet (k .seen (by decide)) (congrArg Inputs.selector (k .inputs (by decide) : _ = _)) (k .store (by decide))
    (.of_pendant (k .pendant (by decide))) (.of_clamps (k .clamps (by decide)))

/-- Work on the bank that keeps UNCLAMPED clamps so. -/
theorem GrantTurn.of_bank (h : GrantTurn s) {l : List Part} (hw : Within l s t) (hu : UnclampedKept s t)
    (hd : ∀ p ∈ [Part.pendant, .seen, .store, .inputs], p ∉ l := by exact of_decide_eq_true rfl) : GrantTurn t :=
  h.of_quiet (hw .seen (hd _ (by decide))) (congrArg Inputs.selector (hw .inputs (hd _ (by decide)) : _ = _))
    (hw .store (hd _ (by decide))) (.of_pendant (hw .pendant (hd _ (by decide)))) hu

/-- Work of the pendant unit that leaves the wait or grant alone. -/
theorem GrantTurn.of_pendant (h : GrantTurn s) {l : List Part} (hw : Within l s t) (k : KeepsGrant s t)
    (hd : ∀ p ∈ [Part.clamps, .seen, .store, .inputs], p ∉ l := by exact of_decide_eq_true rfl) : GrantTurn t :=
  h.of_quiet (hw .seen (hd _ (by decide))) (congrArg Inputs.selector (hw .inputs (hd _ (by decide)) : _ = _))
    (hw .store (hd _ (by decide))) k (.of_clamps (hw .clamps (hd _ (by decide))))

/-- The selector's change is to the debounced value, so an axis that the previous frame left waiting or granted is not waited
for again in the expiry in which the selector has left it. -/
theorem GrantTurn.handSelector (h : GrantTurn s) : GrantTurn (handSelector s) := by
  rcases handSelector_cases s with ⟨-, e⟩ | ⟨v, hv, e⟩
  · exact e.symm ▸ h
  obtain ⟨hval, hne⟩ := changedTo_eq_some hv
  have w := handSelector_within s
  have hn : (Machine.handSelector s).seen = s.seen := w.same_seen
  have hi : (Machine.handSelector s).inputs = s.inputs := w.same_inputs
  have hgr := selectorChange_grant v s
  rw [← e] at hgr
  refine ⟨fun a hg => ?_, fun a c hg hwant _ _ _ => ?_, fun a hseen => ?_⟩
  · rcases hgr with e' | ⟨_, -, e'⟩ <;> rw [e'] at hg <;> cases hg
  · have hva : v = .axis a := by
      rcases hgr with e' | ⟨b', hb, e'⟩
      · rw [e'] at hg; cases hg
      · rw [e'] at hg
        cases hg
        exact hb
    have hseen := hwant.seen
    rw [hn] at hseen
    rcases h.selector a hseen with hs | hs
    · exact absurd (hva.trans hs.symm) hne
    · exact absurd (hval.trans (congrArg some hva)) hs
  · rw [hi, e, selectorChange_selector, hval]
    by_cases hva : v = .axis a
    · exact .inl hva
    · exact .inr fun hs => hva (Option.some.inj hs)

theorem GrantTurn.pendantFirstWork (h : GrantTurn s) : GrantTurn (pendantFirstWork s) := by
  unfold Machine.pendantFirstWork
  split
  · have marked : GrantTurn { s with pendant := { s.pendant with delivered := true } } :=
      h.of_pendant (within_pendant s _) ⟨rfl, rfl⟩
    exact (marked.handSelector.of_pendant (handEnable_within _) (handEnable_keepsGrant _)).of_pendant
      (handPanel_within _) (handPanel_keepsGrant _)
  · exact h

/-- R70 in RUNNING: what a wait or grant wants is not let go. -/
theorem not_wantHeld_of_unwanted {held : Option CycleFrame} {a : ClampAxis} (hr : s.link.state = .running)
    (h : wantedUnclamped held a s = false) : ¬ WantHeld s a.axis := by
  simp only [wantedUnclamped, hr, decide_true, Bool.true_and, Bool.or_eq_false_iff, decide_eq_false_iff_not,
    Bool.and_eq_false_iff] at h
  obtain ⟨⟨-, hw⟩, hg⟩ := h
  rintro (e | ⟨e, ep⟩)
  · exact hg e
  · rcases hw with hw | hw
    · exact hw e
    · rw [ep] at hw; cases hw

theorem GrantTurn.clampWork (h : GrantTurn s) (hr : s.link.state = .running) (held : Option CycleFrame) (a : ClampAxis) :
    GrantTurn (clampWork held a s) := by
  have e := clampWork_effect held a s
  have w := clampWork_within held a s
  have k := e.eased
  refine h.of w.same_seen (congrArg _ w.same_inputs) k.selector k.grant (clampAbsent_congr w.same_store)
    fun c hwant hc => ?_
  rcases e.holds with ⟨hw, hne⟩ | hh
  · refine .inl (hne c (fun hca => ?_) hc)
    exact not_wantHeld_of_unwanted hr hw (hca ▸ hwant)
  · exact hh c hc

/-- R138: a grant is made only where the clamp was UNCLAMPED or ABSENT when the previous drive frame left. -/
theorem grantDue_iff {permit : Bool} {a : Axis} : grantDue permit a s = true ↔
    s.seen.grant = .waiting a ∧ s.seen.permitMark = true ∧ permit = true ∧ clampHold s a = false ∧
      stillFrames s a ≤ s.pendant.stillCount := by
  simp only [grantDue, clampFree, Bool.and_eq_true, decide_eq_true_eq, Bool.not_eq_true', and_assoc]

theorem seen_unclamped_of_clampHold {a : Axis} {c : ClampAxis} (h : clampHold s a = false) (hc : a.clamp = some c)
    (habs : clampAbsent s c = false) : s.seen.clampState.get c = .unclamped := by
  unfold clampHold at h
  rw [hc] at h
  simpa [habs] using h

theorem GrantTurn.waitWork (h : GrantTurn s) (taken held : Option CycleFrame) : GrantTurn (waitWork taken held s) := by
  rcases waitWork_cases taken held s with ⟨-, e⟩ | ⟨a, u, hw, hu, he⟩
  · exact e.symm ▸ h
  have k : KeepsGrant s u := hu ▸ (permitUpdate_keepsGrant taken a s).trans (stillUpdate_keepsGrant taken a _)
  have turned : GrantTurn u := h.of_pendant (hu ▸ stillUpdate_permitUpdate_within taken a s) k
  rcases he with ⟨hd, e⟩ | ⟨-, e⟩
  · rw [e]
    obtain ⟨hseen, hmark, -, hhold, -⟩ := grantDue_iff.mp hd
    have hwant : WantHeld u a := .inr ⟨hseen, hmark⟩
    have hua : u.pendant.grant = .waiting a := k.grant.trans hw
    refine ⟨fun b' hg => ?_, fun _ _ => nofun, turned.selector⟩
    have hab : a = b' := Grant.granted.inj hg
    subst hab
    exact ⟨hwant, fun c hc habs =>
      turned.waiting a c hua hwant hc habs (seen_unclamped_of_clampHold hhold hc habs)⟩
  · exact e.symm ▸ turned

theorem GrantTurn.handwheelWork (h : GrantTurn s) (hr : s.link.state = .running) (taken held : Option CycleFrame) :
    GrantTurn (handwheelWork taken held s) := by
  unfold Machine.handwheelWork
  rw [if_pos hr]
  have w := permitWithdrawn_within taken s
  have k := permitWithdrawn_eased taken s
  have withdrawn : GrantTurn (permitWithdrawn taken s) :=
    h.of w.same_seen (congrArg _ w.same_inputs) k.selector k.grant (clampAbsent_congr w.same_store)
      fun c _ hc => .inl (by rw [w.same_clamps]; exact hc)
  exact (withdrawn.waitWork taken held).of_pendant (transfer_within _) (transfer_keepsGrant _)

theorem GrantTurn.effect {order : List ClampAxis} (h : GrantTurn s) (hr : s.link.state = .running)
    (e : BlockEffect order s t) : GrantTurn t := by
  have hl : s.link.state ≠ .standby := by rw [hr]; decide
  have w := e.within
  have k := e.keepsGrant
  exact h.of w.same_seen (congrArg _ w.same_inputs) k.selector (.inl k.grant) (e.clampAbsent_eq hl)
    fun c _ hc => .inl (e.unclampedKept hl c hc)

theorem clampFirstWork_selector (order : List ClampAxis) (s : State) :
    (clampFirstWork order s).inputs.selector = s.inputs.selector := by
  unfold clampFirstWork
  split
  · dsimp only
    rw [(recoverDropped_within order _).same_inputs]
  · rfl

/-- In RUNNING the tasks keep what the previous frame's wait or grant wants. -/
theorem GrantTurn.task (h : GrantTurn s) (hr : s.link.state = .running) (c : Turn) (u : Task) :
    GrantTurn (runTask c u s) := by
  cases u
  case forkFirst => exact h.of_bank (forkFirstWork_within s) (forkFirstWork_unclampedKept s)
  case gearStage => exact h.of_bank (gearStageWork_within s) (gearStageWork_unclampedKept s)
  case gearLeave => exact h.of_bank (gearLeaveWork_within s) (.of_within (gearLeaveWork_within s))
  case pendantFirst => exact h.pendantFirstWork
  case selector =>
    simp only [runTask, delivered]
    split
    · exact h.handSelector
    · exact h
  case enableSwitch =>
    exact h.of_pendant (delivered_within handEnable_within s) (delivered_keepsGrant handEnable_keepsGrant s)
  case panel =>
    exact h.of_pendant (delivered_within handPanel_within s) (delivered_keepsGrant handPanel_keepsGrant s)
  case clampFirst =>
    have w := clampFirstWork_within c.claimOrder s
    exact h.of_quiet w.same_seen (clampFirstWork_selector _ s) w.same_store (.of_pendant w.same_pendant)
      (clampFirstWork_unclampedKept _ s)
  case pressure =>
    have w := pressureWork_within s
    have e := pressureWork_effect s
    exact h.of w.same_seen (congrArg _ w.same_inputs) e.eased.selector e.eased.grant (clampAbsent_congr w.same_store)
      fun c _ hc => e.holds c hc
  case clamp a => exact h.clampWork hr _ a
  case handwheel => exact h.handwheelWork hr _ _
  case strayCommand => exact h.of_pendant (strayWork_within s) (strayWork_keepsGrant s)
  case knobs => exact h.of_pendant (knobsWork_within s) (knobsWork_keepsGrant s)
  case service =>
    obtain ⟨v, he, hw⟩ := runTask_service_served (s := s) c
    exact grantTurn_reads.keep hw (h.effect hr he)
  all_goals exact grantTurn_reads.keep (runTask_within c _ s) h

end

/-! ## The whole expiry -/

/-- What the blocks' tasks keep of `GrantLaws`. -/
structure GrantTasks (s : State) : Prop where
  enable : EnableLaw s
  grant : GrantLaw s
  enableSent : EnableSentLaw s
  selector : SelectorNow s
  turn : s.link.state = .running → GrantTurn s

/-- At the beginning of the tasks the previous frame's values are those of the laws. -/
theorem GrantLaws.tasks {s : State} (h : GrantLaws s) : GrantTasks s where
  enable := h.enable
  grant := h.grant
  enableSent := h.enableSent
  selector := h.selectorNow
  turn hr := by
    have hm : s.link.state.moving = true := by rw [hr]; rfl
    have hsent := h.enableSent hm
    have hen := enabled_of_moving hm
    refine ⟨fun a hg => ?_, fun a c _ _ _ _ hseen => h.seenClamp hen hsent c hseen, fun a hseen => ?_⟩
    · obtain ⟨hgs, hclamp⟩ := h.grantClamp a hg
      exact ⟨.inl hgs, hclamp⟩
    · by_cases hs : s.pendant.selector = .axis a
      · exact .inl hs
      · obtain ⟨-, -, hne⟩ := h.selector a hs
        obtain ⟨hw, hg⟩ := hne hen hsent
        rcases hseen with e | e
        · exact absurd e hw
        · exact absurd e hg

theorem GrantTasks.taskTurn {s : State} (h : GrantTasks s) (c : Turn) (u : Task) : GrantTasks (taskTurn c s u) := by
  have hl : (Machine.taskTurn c s u).link = s.link := (taskTurn_within_work c s u).same_link
  have hsettle := settleTriggers_within c.triggerOrder (runTask c u s)
  refine ⟨enableLaw_kept.taskTurn c u h.enable, grantLaw_kept.taskTurn c u h.grant, ?_,
    selectorNow_reads.keep hsettle (h.selector.task c u), fun hr => ?_⟩
  · have := h.enableSent
    unfold EnableSentLaw at *
    rwa [hl]
  · rw [hl] at hr
    exact grantTurn_reads.keep hsettle ((h.turn hr).task hr c u)

/-- As the frames leave, what stands becomes what the previous drive frame left. -/
theorem GrantTasks.leave {s : State} (h : GrantTasks s) (rb : Bool) (taken : Option CycleFrame) :
    GrantLaws (framesLeave rb taken s) where
  enable := h.enable
  grant := h.grant
  enableSent hm := by
    show s.link.enable = true
    rw [h.enable]
    exact enabled_of_moving hm
  seenClamp _ _ a hseen := by
    have e : (framesLeave rb taken s).seen.clampState.get a = (s.clamps.get a).state := PerClamp.get_of _ a
    rw [e] at hseen
    exact hseen
  selector a hne := ⟨(h.selector a hne).1, (h.selector a hne).2, fun _ _ => h.selector a hne⟩
  grantClamp a hg := ⟨hg, ((h.turn (h.grant a hg)).granted a hg).2⟩

theorem GrantTasks.of_sent {s t : State} (h : GrantTasks s) (hw : Within [.sent] s t) : GrantTasks t := by
  rw [eq_of_within_sent hw]
  exact ⟨h.enable, h.grant, h.enableSent, h.selector, fun hr => grantTurn_reads.keep (within_sent s _) (h.turn hr)⟩

theorem GrantLaws.passTime {s : State} (h : GrantLaws s) (c : ClockSpan) : GrantLaws (passTime c s) :=
  h.of (enableLaw_kept.passTime c h.enable) (grantLaw_kept.passTime c h.grant) h.enableSent id rfl rfl (.inl rfl)
    (fun _ _ => rfl) fun _ a ha => by
      unfold Machine.passTime
      dsimp only
      rw [PerClamp.get_of]
      exact ha

theorem GrantLaws.expiry {s : State} (h : GrantLaws s) (inp : ExpiryInput) : GrantLaws (expiry inp s) := by
  rw [expiry_eq]
  refine grantLaws_command.afterClearStage _ _ (grantLaws_command.closeStage _ _ _ fun hw => GrantTasks.leave ?_ _ _)
  refine GrantTasks.of_sent ?_ hw
  refine runTasks_keeps (fun t hu => hu.taskTurn _ t) _ (GrantLaws.tasks ?_)
  exact grantLaws_reads.keep (intakeStage_within _ _ _)
    (grantLaws_command.linkStage _ _ _ (fun f o _ hu => grantLaws_link.linkWork rfl f o hu) (h.passTime _))

/-- Settles O7: a grant needs RUNNING, and stands only on an axis whose clamp the wait or grant itself keeps UNCLAMPED. -/
theorem grantLawKept : Obligations.GrantLawKept := by
  refine ⟨fun _ _ h e => grantLaw_kept.step (fun _ _ hu => hu) h e, fun s t h e => ?_⟩
  obtain ⟨henable, hgrant, hsent, hseen, hsel, hclamp⟩ := h
  have laws : GrantLaws t := grantLaws_command.step (fun inp _ hu => hu.expiry inp)
    (fun q _ hu => grantLaws_reads.keep (within_pending _ q) hu) ⟨henable, hgrant, hsent, hseen, hsel, hclamp⟩ e
  exact ⟨laws.enableSent, laws.seenClamp, laws.selector, laws.grantClamp⟩

end Sys2Proof.Machine

/-! # The schedule of an expiry, and the spindle output (R87) -/

namespace Sys2Proof.Machine

-- Many short proofs that wait for the same case splitters: one after the other they need less memory.
set_option Elab.async false

/-! ## Every task is scheduled -/

/-- A task is found by its number. -/
theorem find_taskCode (t : Task) : allTasks.find? (fun u => taskCode u == taskCode t) = some t := by
  cases t
  case fork i => cases i <;> rfl
  case clamp a => cases a <;> rfl
  all_goals rfl

theorem taskCode_injective {t u : Task} (h : taskCode t = taskCode u) : t = u := by
  have ht := find_taskCode t
  rw [h, find_taskCode u] at ht
  exact (Option.some.inj ht).symm

theorem mem_allTasks (t : Task) : t ∈ allTasks := List.mem_of_find?_eq_some (find_taskCode t)

theorem listed_iff {t : Task} {done : List Task} : listed t done = true ↔ t ∈ done := by
  refine ⟨fun h => ?_, listed_of_mem⟩
  obtain ⟨u, hu, hc⟩ := List.any_eq_true.mp h
  exact taskCode_injective (by simpa using hc) ▸ hu

theorem mem_visit_self (r : Record) (n : Nat) (t : Task) (done : List Task) : t ∈ visit r n t done :=
  listed_iff.mp (listed_visit r n t done)

theorem mem_foldl_visit_of_mem (r : Record) (n : Nat) {u : Task} (l : List Task) {done : List Task} (h : u ∈ done) :
    u ∈ l.foldl (fun acc t => visit r n t acc) done := by
  induction l generalizing done with
  | nil => exact h
  | cons t l ih => exact ih (mem_visit_of_mem r n t u done h)

theorem mem_foldl_visit (r : Record) (n : Nat) {u : Task} {l : List Task} (h : u ∈ l) (done : List Task) :
    u ∈ l.foldl (fun acc t => visit r n t acc) done := by
  induction l generalizing done with
  | nil => cases h
  | cons t l ih =>
    rcases List.mem_cons.mp h with rfl | h
    · exact mem_foldl_visit_of_mem r n l (mem_visit_self r n u done)
    · exact ih h _

/-- Every task is taken at every expiry. -/
theorem mem_schedule (r : Record) (order : List Task) (t : Task) : t ∈ schedule r order :=
  mem_foldl_visit r 8 (List.mem_append_right _ (mem_allTasks t)) []

/-- What one task establishes and every task keeps holds after all of them. -/
theorem runTasks_establishes {I P : State → Prop} {c : Turn} (t₀ : Task)
    (hI : ∀ {s : State} (t : Task), I s → I (taskTurn c s t)) (hest : ∀ {s : State}, I s → P (taskTurn c s t₀))
    (hkeep : ∀ {s : State} (t : Task), I s → P s → P (taskTurn c s t)) (order : List Task) {s : State} (hs : I s) :
    P (runTasks c order s) := by
  have kept (l : List Task) {s : State} (hi : I s) (hp : P s) : P (l.foldl (taskTurn c) s) := by
    induction l generalizing s with
    | nil => exact hp
    | cons t l ih => exact ih (hI t hi) (hkeep t hi hp)
  have reached (l : List Task) (h : t₀ ∈ l) {s : State} (hi : I s) : P (l.foldl (taskTurn c) s) := by
    induction l generalizing s with
    | nil => cases h
    | cons t l ih =>
      rcases List.mem_cons.mp h with rfl | h
      · exact kept l (hI _ hi) (hest hi)
      · exact ih h (hI t hi)
  exact reached _ (mem_schedule c.record order t₀) hs

/-! ## The law of the spindle output -/

section
variable {s t : State}

/-- The law looks at the link state, the gear state and the output alone. -/
theorem SpindleLaw.of_same (h : SpindleLaw s) (hl : t.link.state = s.link.state) (hg : t.gear.state = s.gear.state)
    (ho : t.gear.output = s.gear.output) : SpindleLaw t := by
  unfold SpindleLaw at *
  rw [hl, hg, ho]
  exact h

theorem SpindleLaw.of_zero (h : t.gear.output = 0) : SpindleLaw t := fun hne => absurd h hne

theorem spindleLaw_reads : Reads [.link, .gear] SpindleLaw := fun k h =>
  h.of_same (by rw [(k .link (by decide) : _ = _)]) (by rw [(k .gear (by decide) : _ = _)])
    (by rw [(k .gear (by decide) : _ = _)])

theorem SpindleLaw.of_gear (h : SpindleLaw s) {l : List Part} (hw : Within l s t) (hg : t.gear = s.gear)
    (hd : Part.link ∉ l := by exact of_decide_eq_true rfl) : SpindleLaw t :=
  h.of_same (by rw [hw .link hd]) (by rw [hg]) (by rw [hg])

/-- The output is 0 in every gear state but three. -/
theorem SpindleLaw.output_eq_zero (h : SpindleLaw s)
    (hg : s.gear.state ≠ .engaged ∧ s.gear.state ≠ .stoppingSpindle ∧ s.gear.state ≠ .shifting) : s.gear.output = 0 := by
  by_contra hne
  rcases (h hne).2 with e | e | e
  · exact hg.1 e
  · exact hg.2.1 e
  · exact hg.2.2 e

/-- R100: the wiggle turns the spindle in RUNNING alone. -/
theorem shiftingOutput_law (hg : s.gear.state = .shifting) (ho : s.gear.output = shiftingOutput t)
    (hl : t.link = s.link) : SpindleLaw s := by
  intro hne
  unfold shiftingOutput at ho
  split at ho
  · rename_i hr
    rw [hl] at hr
    exact ⟨by rw [hr]; rfl, .inr (.inr hg)⟩
  · exact absurd ho hne

theorem beginShift_law (h : SpindleLaw s) : SpindleLaw (beginShift s) := by
  unfold beginShift
  split
  · exact shiftingOutput_law (t := _) rfl rfl rfl
  · exact h

theorem beginClampTransit_gear (a : ClampAxis) (s : State) : (beginClampTransit a s).gear = s.gear := by
  unfold beginClampTransit
  split <;> rfl

theorem SpindleLaw.tryGrant (h : SpindleLaw s) : SpindleLaw (tryGrant s) := by
  rcases tryGrant_cases s with ⟨-, e⟩ | ⟨c, rest, -, -, e⟩
  · exact e.symm ▸ h
  · rw [e]
    cases c with
    | gearbox => exact beginShift_law h
    | clamp a =>
      refine SpindleLaw.of_gear (s := { s with bank := { s.bank with queue := rest, holder := some (.clamp a) } }) h
        (beginClampTransit_bankOnly a _).within (beginClampTransit_gear a _)

theorem SpindleLaw.claim (h : SpindleLaw s) (c : Claimant) : SpindleLaw (claim c s) := by
  rcases claim_cases c s with ⟨-, e⟩ | ⟨-, -, e⟩
  · exact e.symm ▸ h
  · exact e.symm ▸ SpindleLaw.tryGrant (h.of_gear (within_bank s _) rfl)

theorem SpindleLaw.release (h : SpindleLaw s) (c : Claimant) : SpindleLaw (release c s) := by
  rcases release_cases c s with ⟨-, e⟩ | ⟨-, e⟩
  · exact e.symm ▸ h
  · exact e.symm ▸ SpindleLaw.tryGrant (h.of_gear (within_bank s _) rfl)

theorem SpindleLaw.recoverClamp (h : SpindleLaw s) (a : ClampAxis) : SpindleLaw (recoverClamp s a) := by
  rcases recoverClamp_cases s a with ⟨-, e⟩ | ⟨-, e⟩
  · exact e.symm ▸ h
  · exact e.symm ▸ SpindleLaw.claim (h.of_gear (setClamp_within _ _ _ s) rfl) _

theorem SpindleLaw.recoverDropped (h : SpindleLaw s) (order : List ClampAxis) : SpindleLaw (recoverDropped order s) :=
  foldl_keeps (fun _ a hs => hs.recoverClamp a) _ h

theorem SpindleLaw.clampToFault (h : SpindleLaw s) (a : ClampAxis) : SpindleLaw (clampToFault a s) := by
  rw [clampToFault_eq]
  have w : Within [.clamps, .flags, .bank, .pendant, .axes, .flags] s
      (pendantClampFault a (withdraw (.clamp a) (raise .clampFault (setClamp a .fault none s)))) :=
    (((setClamp_within _ _ _ s).comp (raise_within _ _)).comp (withdraw_within _ _)).comp (pendantClampFault_within a _)
      |>.mono (by decide)
  exact SpindleLaw.release (spindleLaw_reads.keep w h) _

theorem SpindleLaw.clampCeilingEnds (h : SpindleLaw s) (bounded : ClampState) (a : ClampAxis) :
    SpindleLaw (clampCeilingEnds bounded a s) := by
  rcases clampCeilingEnds_cases bounded a s with ⟨-, -, e⟩ | ⟨-, e⟩
  · exact e.symm ▸ h.clampToFault a
  · exact e.symm ▸ h

theorem gearToFault_law (s : State) : SpindleLaw (gearToFault s) :=
  SpindleLaw.release (.of_zero rfl) _

theorem ClampEffect.spindleLaw {a : ClampAxis} {wanted : Bool} (e : ClampEffect a wanted s t) (h : SpindleLaw s) :
    SpindleLaw t := by
  cases e
  case none => exact h
  case fault => exact h.clampToFault a
  case want | reclaim => exact SpindleLaw.claim (h.of_gear (setClamp_within _ _ _ s) rfl) _
  case unclamped | clamped =>
    exact SpindleLaw.release (spindleLaw_reads.keep ((setClamp_within _ _ _ s).comp (raise_within _ _)) h) _
  all_goals exact h.of_same rfl rfl rfl

theorem PressureEffect.spindleLaw (e : PressureEffect s t) (h : SpindleLaw s) : SpindleLaw t := by
  cases e
  case none => exact h
  case count => exact h.of_same rfl rfl rfl
  case good => exact SpindleLaw.tryGrant (h.of_same rfl rfl rfl)
  case low =>
    have lowered : SpindleLaw (raise .pressureLow { s with bank := { s.bank with disagree := 0, pressureOk := false } }) :=
      h.of_same rfl rfl rfl
    rcases abortTransit_cases (raise .pressureLow { s with bank := { s.bank with disagree := 0, pressureOk := false } })
      with ⟨-, e⟩ | ⟨a, -, e⟩ | ⟨-, e⟩
    · exact e.symm ▸ lowered
    · exact e.symm ▸ lowered.clampToFault a
    · exact e.symm ▸ gearToFault_law _

/-- A re-evaluation to ENGAGED keeps the output, which a moving state then bounds; UNKNOWN has output 0. -/
theorem SpindleLaw.reevaluate (h : SpindleLaw s) : SpindleLaw (reevaluate s) := by
  rcases reevaluate_cases s with ⟨r, -, e⟩ | ⟨-, e⟩
  · rw [e]; exact fun hne => ⟨(h hne).1, .inl rfl⟩
  · rw [e]; exact .of_zero rfl

theorem SpindleLaw.reevaluateKeeping (h : SpindleLaw s) : SpindleLaw (reevaluateKeeping s) := by
  unfold Machine.reevaluateKeeping
  split
  · split
    · exact h
    · exact fun hne => ⟨(h hne).1, .inl rfl⟩
  · exact .of_zero rfl

theorem abandonChange_law (s : State) : SpindleLaw (abandonChange s) :=
  SpindleLaw.release (SpindleLaw.reevaluate (.of_zero rfl)) _

theorem SpindleLaw.gearCommitted (h : SpindleLaw s) : SpindleLaw (gearCommitted s) := by
  unfold Machine.gearCommitted
  split
  · exact abandonChange_law s
  all_goals first
    | exact h.reevaluateKeeping
    | exact h

theorem SpindleLaw.forkFirstWork (h : SpindleLaw s) : SpindleLaw (forkFirstWork s) := by
  unfold Machine.forkFirstWork
  split
  · have copied : SpindleLaw { s with gear := { s.gear with forks := forkValues s, forksDelivered := true } } :=
      h.of_same rfl rfl rfl
    dsimp only
    split
    · exact copied.reevaluateKeeping
    · exact copied.reevaluateKeeping
    · exact abandonChange_law _
    · exact abandonChange_law _
    · exact abandonChange_law _
    · exact abandonChange_law _
    · exact copied.reevaluate
  · exact h

theorem SpindleLaw.forksChanged (h : SpindleLaw s) (f : PerFork Bool) : SpindleLaw (forksChanged f s) := by
  unfold Machine.forksChanged
  dsimp only
  split
  · split
    · exact .of_zero rfl
    · exact h.of_same rfl rfl rfl
  all_goals first
    | exact h.of_same rfl rfl rfl
    | split <;> exact h.of_same rfl rfl rfl

theorem SpindleLaw.forkWork (h : SpindleLaw s) (i : ForkSwitch) : SpindleLaw (forkWork i s) := by
  unfold Machine.forkWork
  split
  · split
    · split
      · exact h
      · exact h.forksChanged _
    · exact h
  · exact h

theorem SpindleLaw.gearLeaveWork (h : SpindleLaw s) : SpindleLaw (gearLeaveWork s) := by
  unfold Machine.gearLeaveWork
  split
  · have cleared : SpindleLaw { s with gear := { s.gear with next := none } } := h.of_same rfl rfl rfl
    have left (hg : s.gear.state = .stoppingSpindle ∨ s.gear.state = .draining ∨ s.gear.state = .valveWait) :
        SpindleLaw (Machine.reevaluate (withdraw .gearbox { s with gear := { stopGearTimers
          { s.gear with next := none } with target := none } })) :=
      SpindleLaw.reevaluate (h.of_same rfl rfl rfl)
    dsimp only
    split
    · rename_i hg; exact left (.inl hg)
    · rename_i hg; exact left (.inr (.inl hg))
    · rename_i hg; exact left (.inr (.inr hg))
    all_goals exact cleared
  · exact h

theorem SpindleLaw.actOnRequest (h : SpindleLaw s) (r : Range) : SpindleLaw (actOnRequest r s) := by
  unfold Machine.actOnRequest beginChange
  split
  · split
    · exact h.of_same rfl rfl rfl
    · exact fun hne => ⟨(h hne).1, .inr (.inl rfl)⟩
  · exact fun hne => ⟨(h hne).1, .inr (.inl rfl)⟩
  all_goals exact h.of_same rfl rfl rfl

theorem SpindleLaw.rangeRequestWork (h : SpindleLaw s) (f : CycleFrame) : SpindleLaw (rangeRequestWork f s) := by
  have noted : SpindleLaw { s with gear := { s.gear with lastRequest := rangeOfNat f.range.toNat } } :=
    h.of_same rfl rfl rfl
  unfold Machine.rangeRequestWork
  dsimp only
  split
  · split
    · exact noted.actOnRequest _
    · exact noted
  · exact noted

theorem SpindleLaw.enterValveWait (h : SpindleLaw s) (hg : s.gear.state = .draining) : SpindleLaw (enterValveWait s) := by
  refine SpindleLaw.claim (.of_zero ?_) _
  exact h.output_eq_zero (by rw [hg]; decide)

theorem shiftReleased_law (h : SpindleLaw s) (differs : Bool) : SpindleLaw (shiftReleased differs s) := by
  unfold shiftReleased
  refine SpindleLaw.release ?_ _
  split
  · exact spindleLaw_reads.keep (enabledTrigger_within 1 s) h
  · exact h

theorem SpindleLaw.completeShift (h : SpindleLaw s) : SpindleLaw (completeShift s) := by
  rcases completeShift_cases s with ⟨-, e⟩ | ⟨r, u, -, hu, he⟩
  · exact e.symm ▸ h
  have released : SpindleLaw u := by
    rw [hu]
    refine shiftReleased_law ?_ _
    exact spindleLaw_reads.keep (settleTriggers_within [] _) (.of_zero rfl : SpindleLaw (shiftCompleted r s))
  rcases he with ⟨-, e⟩ | ⟨q, -, e⟩
  · exact e.symm ▸ released
  · exact e.symm ▸ released.actOnRequest q

theorem SpindleLaw.gearStageWork (h : SpindleLaw s) : SpindleLaw (gearStageWork s) := by
  rcases gearStageWork_cases s with e | ⟨bs, r, -, hg, -, -, e⟩ | ⟨bs, -, hg, e⟩ | ⟨bs, n, -, -, e⟩ | ⟨bs, n, -, -, -, e⟩
  · exact e.symm ▸ h
  · exact e.symm ▸ .of_zero (h.output_eq_zero (by rw [hg]; decide))
  · exact e.symm ▸ h.enterValveWait hg
  · exact e.symm ▸ h.of_same rfl rfl rfl
  · exact e.symm ▸ SpindleLaw.completeShift (h.of_same rfl rfl rfl)

/-- R87: the output of an expiry is 0 outside the moving states and the three gear states. -/
theorem outputAt_law (held : Option CycleFrame) (h : outputAt held s ≠ 0) : s.link.state.moving = true ∧
    (s.gear.state = .engaged ∨ s.gear.state = .stoppingSpindle ∨ s.gear.state = .shifting) := by
  unfold outputAt at h
  split at h
  case h_6 => exact absurd rfl h
  all_goals
    rename_i hl hg
    rw [hl, hg]
    decide

/-- STOPPING_SPINDLE is left with the output at 0. -/
theorem SpindleLaw.enterDraining (h : SpindleLaw s) : SpindleLaw (enterDraining s) := by
  unfold Machine.enterDraining
  split
  · split
    · rename_i hd
      exact .of_zero hd.2.1
    · exact h
  · exact h

theorem spindleOutputWork_law (held : Option CycleFrame) (s : State) : SpindleLaw (spindleOutputWork held s) :=
  SpindleLaw.enterDraining (fun hne => outputAt_law (s := s) held hne)

theorem spindleAnnounceWork_law (h : SpindleLaw s) : SpindleLaw (spindleAnnounceWork s) := by
  have noted : SpindleLaw { s with gear := { s.gear with runValue := runValueOf s } } := h.of_same rfl rfl rfl
  unfold spindleAnnounceWork
  dsimp only
  split
  · exact spindleLaw_reads.keep ((growthSpindleStart_within _).comp (announce_within _ _)) noted
  · split
    · exact spindleLaw_reads.keep ((growthSpindleStop_within _).comp (announce_within _ _)) noted
    · exact noted

theorem SpindleLaw.clampTableCommitted (h : SpindleLaw s) (old : Option (List Byte)) (order : List ClampAxis) :
    SpindleLaw (clampTableCommitted old order s) := by
  unfold Machine.clampTableCommitted
  dsimp only
  refine SpindleLaw.recoverDropped ?_ order
  have dropped : SpindleLaw (allClamps.foldl dropAbsentClaim s) :=
    spindleLaw_reads.keep (foldl_within dropAbsentClaim_within _ s) h
  split
  · split
    · refine SpindleLaw.release ?_ _
      exact dropped.of_same rfl rfl rfl
    · exact dropped.of_same rfl rfl rfl
  all_goals exact dropped.of_same rfl rfl rfl

theorem SpindleLaw.commitEffects (h : SpindleLaw s) (q : TableId) (old : Option (List Byte)) (order : List ClampAxis) :
    SpindleLaw (commitEffects q old order s) := by
  cases q
  case compensation => exact spindleLaw_reads.keep (compensationCommitted_within s) h
  case gear => exact h.gearCommitted
  case clamp => exact h.clampTableCommitted old order
  case programs => exact spindleLaw_reads.keep (programsCommitted_within s) h
  case triggers => exact spindleLaw_reads.keep (triggersCommitted_within s) h
  case pendant => exact spindleLaw_reads.keep (pendantCommitted_within s) h
  all_goals exact h

theorem SpindleLaw.effect {order : List ClampAxis} (h : SpindleLaw s) (e : BlockEffect order s t) : SpindleLaw t := by
  cases e
  case commit q _ _ _ => exact SpindleLaw.commitEffects (s := setActive q _ s) (h.of_same rfl rfl rfl) q _ order
  case flags hw => exact spindleLaw_reads.keep hw h
  case trigger p _ _ => exact spindleLaw_reads.keep (triggerProgram_within p s) h
  case growth hard => exact spindleLaw_reads.keep (growthTrigger_within hard s) h
  case gear => exact h.reevaluate
  all_goals exact h.of_same rfl rfl rfl

/-- Each task keeps the law. -/
theorem SpindleLaw.task (h : SpindleLaw s) (c : Turn) (u : Task) : SpindleLaw (runTask c u s) := by
  cases u
  case forkFirst => exact h.forkFirstWork
  case fork i => exact h.forkWork i
  case clampFirst =>
    show SpindleLaw (clampFirstWork c.claimOrder s)
    unfold clampFirstWork
    split
    · refine SpindleLaw.recoverDropped ?_ _
      exact h.of_same rfl rfl rfl
    · exact h
  case pressure => exact (pressureWork_effect s).spindleLaw h
  case clamp a => exact (clampWork_effect _ a s).spindleLaw h
  case gearLeave => exact h.gearLeaveWork
  case rangeRequest =>
    cases hf : c.taken with
    | some f => simp only [runTask, onFrame, hf]; exact h.rangeRequestWork f
    | none => simp only [runTask, onFrame, hf]; exact h
  case gearStage => exact h.gearStageWork
  case spindleOutput => exact spindleOutputWork_law _ s
  case spindleAnnounce => exact spindleAnnounceWork_law h
  case service =>
    obtain ⟨v, he, hw⟩ := runTask_service_served (s := s) c
    exact spindleLaw_reads.keep hw (h.effect he)
  all_goals exact spindleLaw_reads.keep (runTask_within c _ s) h

end

/-- Outside the end of STOPPING and LINK_LOST, where an expiry forms the output anew, each transition keeps the law. -/
theorem spindleLaw_link : LinkKept SpindleLaw false where
  quiet _ _ hst _ _ h := h.of_same hst rfl rfl
  raise _ _ h := h.of_same rfl rfl rfl
  estop _ _ h := h.of_same rfl rfl rfl
  rest st s _ _ := .of_zero (enterRest_output st s)
  standby order s _ hm h := by
    unfold enterStandby
    refine SpindleLaw.recoverDropped (.of_zero ?_) order
    show s.gear.output = 0
    by_contra hne
    have := (h hne).1
    rw [hm rfl] at this
    cases this
  activating p s hl _ h := .of_zero (show s.gear.output = 0 by
    by_contra hne
    have := (h hne).1
    rw [hl] at this
    cases this)
  running {s} hl _ h := .of_zero (show s.gear.output = 0 by
    by_contra hne
    have := (h hne).1
    rw [hl] at this
    cases this)
  leave st s hst _ h := by
    have w := leaveRunning_within st s
    intro hne
    rw [leaveRunning_link, w.same_gear]
    rw [w.same_gear] at hne
    exact ⟨by rcases hst with rfl | rfl <;> rfl, (h hne).2⟩
  lost _ h := fun hne => ⟨rfl, (h hne).2⟩

theorem restartedGear_output (s : State) : (restartedGear s).output = 0 := by
  unfold restartedGear
  split <;> rfl

theorem restart_output (s : State) : (restart s).gear.output = 0 := by
  rw [restart_gear]
  exact reevaluate_output (restartedGear_output s)

theorem spindleLaw_command : CommandKept SpindleLaw where
  reset _ _ _ _ _ := .of_zero rfl
  settle order _ h := spindleLaw_reads.keep (settleTriggers_within order _) h
  sent _ _ h := h.of_same rfl rfl rfl
  between e s h := by
    cases e
    case frameArrival bytes order => exact spindleLaw_link.frameArrives bytes order h
    case returnFrame bytes => exact spindleLaw_link.returnArrives bytes h
    case activationCeiling => exact spindleLaw_link.activationEnds h
    case estopOpening => exact spindleLaw_link.estopOpens h
    case valveBankGrant => exact h.tryGrant
    case unclampCeiling a => exact h.clampCeilingEnds _ a
    case clampCeiling a => exact h.clampCeilingEnds _ a
    case dropCeiling a => exact h.clampCeilingEnds _ a
    case drainCeiling =>
      show SpindleLaw (drainCeilingEnds s)
      unfold drainCeilingEnds
      split
      · rename_i hd
        exact h.enterValveWait hd.1
      · exact h
    case shiftCeiling =>
      show SpindleLaw (shiftCeilingEnds s)
      unfold shiftCeilingEnds
      split
      · exact gearToFault_law s
      · exact h
    case wiggleTimer =>
      show SpindleLaw (wiggleEnds s)
      unfold wiggleEnds
      split
      · rename_i hg _ _ _
        exact shiftingOutput_law (t := _) hg rfl rfl
      · exact h
    all_goals exact spindleLaw_reads.keep (betweenWork_within _ s) h
  linkService kind body order _ h :=
    spindleLaw_link.linkService (fun hw hu => spindleLaw_reads.keep hw hu) kind body order h
  blockService kind body order s _ h := by
    obtain ⟨v, he, hw⟩ := blockService_served (order := order) (s := s) kind body
    exact spindleLaw_reads.keep hw (h.effect he)
  gearLeave h := h.gearLeaveWork
  restart _ := .of_zero (restart_output _)

/-- The expiry forms the output anew, whatever it was. -/
theorem expiry_spindleLaw (inp : ExpiryInput) (s : State) : SpindleLaw (expiry inp s) := by
  rw [expiry_eq]
  refine spindleLaw_command.afterClearStage _ _ (spindleLaw_command.closeStage _ _ _ fun hw => ?_)
  refine SpindleLaw.of_same (spindleLaw_reads.keep hw ?_) rfl rfl rfl
  refine runTasks_establishes (I := fun _ => True) .spindleOutput (fun _ _ => trivial) (fun _ => ?_)
    (fun t _ h => ?_) _ trivial
  · exact spindleLaw_reads.keep (settleTriggers_within _ _) (spindleOutputWork_law _ _)
  · exact spindleLaw_reads.keep (settleTriggers_within _ _) (h.task _ t)

end Sys2Proof.Machine

/-! # The fork switches and ENGAGED (R91, R92) -/

namespace Sys2Proof.Machine

-- Many short proofs that wait for the same case splitters: one after the other they need less memory.
set_option Elab.async false

/-! ## Work that leaves the forks alone -/

theorem shownRange_congr {s t : State} (hf : t.gear.forks = s.gear.forks)
    (hb : activeBytes t .gear = activeBytes s .gear) : shownRange t = shownRange s := by
  unfold shownRange
  rw [hf, hb]

/-- The fork switches and their copy, and the gear table, stand; ENGAGED stands with its range or is entered in the range
that the forks show. -/
structure KeepsForks (s t : State) : Prop where
  forks : t.gear.forks = s.gear.forks
  delivered : t.gear.forksDelivered = s.gear.forksDelivered
  inputs : t.inputs.forks = s.inputs.forks
  table : activeBytes t .gear = activeBytes s .gear
  engaged : t.gear.state = .engaged → (s.gear.state = .engaged ∧ t.gear.engaged = s.gear.engaged) ∨
    ∃ r, t.gear.engaged = some r ∧ shownRange t = some r

namespace KeepsForks
variable {s t u : State}

theorem refl (s : State) : KeepsForks s s := ⟨rfl, rfl, rfl, rfl, fun h => .inl ⟨h, rfl⟩⟩

theorem shown (h : KeepsForks s t) : shownRange t = shownRange s := shownRange_congr h.forks h.table

theorem trans (h : KeepsForks s t) (k : KeepsForks t u) : KeepsForks s u where
  forks := k.forks.trans h.forks
  delivered := k.delivered.trans h.delivered
  inputs := k.inputs.trans h.inputs
  table := k.table.trans h.table
  engaged hu := by
    rcases k.engaged hu with ⟨ht, he⟩ | hr
    · rcases h.engaged ht with ⟨hs, he'⟩ | ⟨r, hr, hshow⟩
      · exact .inl ⟨hs, he.trans he'⟩
      · exact .inr ⟨r, he.trans hr, k.shown.trans hshow⟩
    · exact .inr hr

/-- An update of the gearbox that leaves ENGAGED or stays in it. -/
theorem of_gear {l : List Part} (hw : Within l s t) (hf : t.gear.forks = s.gear.forks)
    (hd : t.gear.forksDelivered = s.gear.forksDelivered)
    (he : t.gear.state = .engaged → s.gear.state = .engaged ∧ t.gear.engaged = s.gear.engaged)
    (hp : ∀ p ∈ [Part.inputs, .store], p ∉ l := by exact of_decide_eq_true rfl) : KeepsForks s t where
  forks := hf
  delivered := hd
  inputs := congrArg Inputs.forks (hw .inputs (hp _ (by decide)) : _ = _)
  table := activeBytes_congr (hw .store (hp _ (by decide))) _
  engaged h := .inl (he h)

theorem of_within {l : List Part} (hw : Within l s t)
    (hp : ∀ p ∈ [Part.gear, .inputs, .store], p ∉ l := by exact of_decide_eq_true rfl) : KeepsForks s t := by
  have hg : t.gear = s.gear := hw .gear (hp _ (by decide))
  exact of_gear hw (by rw [hg]) (by rw [hg]) (fun h => by rw [hg] at *; exact ⟨h, rfl⟩)
    fun p hp' => hp p (List.mem_cons_of_mem _ hp')

/-- Another update comes first. -/
theorem after (k : KeepsForks t u) (h : KeepsForks s t := by exact ⟨rfl, rfl, rfl, rfl, fun h => .inl ⟨h, rfl⟩⟩) :
    KeepsForks s u := h.trans k

end KeepsForks

section
variable (s : State)

theorem enterUnknown_keepsForks : KeepsForks s (enterUnknown s) := ⟨rfl, rfl, rfl, rfl, nofun⟩

theorem enterEngaged_keepsForks {r : Range} (h : shownRange s = some r) : KeepsForks s (enterEngaged r s) :=
  ⟨rfl, rfl, rfl, rfl, fun _ => .inr ⟨r, rfl, h⟩⟩

theorem reevaluate_keepsForks : KeepsForks s (reevaluate s) := by
  rcases reevaluate_cases s with ⟨r, h, e⟩ | ⟨-, e⟩
  · exact e.symm ▸ enterEngaged_keepsForks s h
  · exact e.symm ▸ enterUnknown_keepsForks s

theorem reevaluateKeeping_keepsForks : KeepsForks s (reevaluateKeeping s) := by
  unfold reevaluateKeeping
  split
  · rename_i r h
    split
    · exact .refl s
    · exact enterEngaged_keepsForks s h
  · exact enterUnknown_keepsForks s

theorem beginTransit_keepsForks (c : Claimant) : KeepsForks s (beginTransit c s) := by
  cases c with
  | clamp a =>
    have w : Within bankParts s (beginClampTransit a s) := (beginClampTransit_bankOnly a s).within
    have hg := beginClampTransit_gear a s
    exact .of_gear w (congrArg _ hg) (congrArg _ hg) fun h => ⟨(congrArg Gearbox.state hg).symm.trans h, congrArg _ hg⟩
  | gearbox =>
    show KeepsForks s (beginShift s)
    unfold beginShift
    split
    · exact ⟨rfl, rfl, rfl, rfl, nofun⟩
    · exact .refl s

theorem tryGrant_keepsForks : KeepsForks s (tryGrant s) := by
  rcases tryGrant_cases s with ⟨-, e⟩ | ⟨c, rest, -, -, e⟩
  · exact e.symm ▸ .refl s
  · exact e.symm ▸ (beginTransit_keepsForks _ c).after

theorem claim_keepsForks (c : Claimant) : KeepsForks s (claim c s) := by
  rcases claim_cases c s with ⟨-, e⟩ | ⟨-, -, e⟩
  · exact e.symm ▸ .refl s
  · exact e.symm ▸ (tryGrant_keepsForks _).after

theorem release_keepsForks (c : Claimant) : KeepsForks s (release c s) := by
  rcases release_cases c s with ⟨-, e⟩ | ⟨-, e⟩
  · exact e.symm ▸ .refl s
  · exact e.symm ▸ (tryGrant_keepsForks _).after

theorem recoverClamp_keepsForks (a : ClampAxis) : KeepsForks s (recoverClamp s a) := by
  rcases recoverClamp_cases s a with ⟨-, e⟩ | ⟨-, e⟩
  · exact e.symm ▸ .refl s
  · exact e.symm ▸ (claim_keepsForks _ _).after

end

theorem foldl_keepsForks {α : Type} {f : State → α → State} (h : ∀ s a, KeepsForks s (f s a)) (l : List α) (s : State) :
    KeepsForks s (l.foldl f s) := by
  induction l generalizing s with
  | nil => exact .refl s
  | cons a l ih => exact (h s a).trans (ih (f s a))

section
variable (s : State)

theorem recoverDropped_keepsForks (order : List ClampAxis) : KeepsForks s (recoverDropped order s) :=
  foldl_keepsForks recoverClamp_keepsForks _ s

theorem clampToFault_keepsForks (a : ClampAxis) : KeepsForks s (clampToFault a s) := by
  rw [clampToFault_eq]
  exact .trans (.of_within ((((setClamp_within _ _ _ s).comp (raise_within _ _)).comp (withdraw_within _ _)).comp
    (pendantClampFault_within a _))) (release_keepsForks _ _)

theorem gearToFault_keepsForks : KeepsForks s (gearToFault s) := by
  unfold gearToFault
  exact .after (release_keepsForks _ _) ⟨rfl, rfl, rfl, rfl, nofun⟩

theorem clampCeilingEnds_keepsForks (bounded : ClampState) (a : ClampAxis) :
    KeepsForks s (clampCeilingEnds bounded a s) := by
  rcases clampCeilingEnds_cases bounded a s with ⟨-, -, e⟩ | ⟨-, e⟩
  · exact e.symm ▸ clampToFault_keepsForks s a
  · exact e.symm ▸ .refl s

theorem abandonChange_keepsForks : KeepsForks s (abandonChange s) := by
  unfold abandonChange
  exact ((reevaluate_keepsForks _).after).trans (release_keepsForks _ _)

theorem gearLeaveWork_keepsForks : KeepsForks s (gearLeaveWork s) := by
  unfold gearLeaveWork
  split
  · dsimp only
    split
    · exact (reevaluate_keepsForks _).after
    · exact (reevaluate_keepsForks _).after
    · exact (reevaluate_keepsForks _).after
    all_goals exact ⟨rfl, rfl, rfl, rfl, fun h => .inl ⟨h, rfl⟩⟩
  · exact .refl s

theorem gearHalt_keepsForks : KeepsForks s (gearHalt s) := by
  rcases gearHalt_cases s with ⟨-, e⟩ | ⟨-, e⟩
  · exact e.symm ▸ ⟨rfl, rfl, rfl, rfl, fun h => .inl ⟨h, rfl⟩⟩
  · exact e.symm ▸ (reevaluate_keepsForks _).after

theorem actOnRequest_keepsForks (r : Range) : KeepsForks s (actOnRequest r s) := by
  unfold actOnRequest beginChange
  split
  · split
    · exact .of_within (raise_within _ s)
    · exact ⟨rfl, rfl, rfl, rfl, nofun⟩
  · exact ⟨rfl, rfl, rfl, rfl, nofun⟩
  all_goals exact ⟨rfl, rfl, rfl, rfl, fun h => .inl ⟨h, rfl⟩⟩

theorem rangeRequestWork_keepsForks (f : CycleFrame) : KeepsForks s (rangeRequestWork f s) := by
  unfold rangeRequestWork
  dsimp only
  split
  · split
    · exact (actOnRequest_keepsForks _ _).after
    · exact ⟨rfl, rfl, rfl, rfl, fun h => .inl ⟨h, rfl⟩⟩
  · exact ⟨rfl, rfl, rfl, rfl, fun h => .inl ⟨h, rfl⟩⟩

theorem enterValveWait_keepsForks : KeepsForks s (enterValveWait s) := by
  unfold enterValveWait
  exact .after (claim_keepsForks _ _) ⟨rfl, rfl, rfl, rfl, nofun⟩

theorem shiftReleased_keepsForks (differs : Bool) : KeepsForks s (shiftReleased differs s) := by
  unfold shiftReleased
  split
  · exact .trans (.of_within (enabledTrigger_within 1 s)) (release_keepsForks _ _)
  · exact release_keepsForks s _

theorem showsRange_some {r : Range} : showsRange s (some r) = true ↔ shownRange s = some r := by
  unfold showsRange
  rw [decide_eq_true_eq]

/-- R101: a change is completed in the range that the forks show. -/
theorem completeShift_keepsForks (h : showsRange s s.gear.target = true) : KeepsForks s (completeShift s) := by
  rcases completeShift_cases s with ⟨-, e⟩ | ⟨r, u, ht, hu, he⟩
  · exact e.symm ▸ .refl s
  have shown : shownRange s = some r := by
    rw [ht] at h
    exact (showsRange_some s).mp h
  have completed : KeepsForks s (shiftCompleted r s) := ⟨rfl, rfl, rfl, rfl, fun _ => .inr ⟨r, rfl, shown⟩⟩
  have released : KeepsForks s u := by
    rw [hu]
    exact (completed.trans (.of_within (settleTriggers_within [] _))).trans (shiftReleased_keepsForks _ _)
  rcases he with ⟨-, e⟩ | ⟨q, -, e⟩
  · exact e.symm ▸ released
  · exact e.symm ▸ released.trans (actOnRequest_keepsForks _ q)

theorem gearStageWork_keepsForks : KeepsForks s (gearStageWork s) := by
  rcases gearStageWork_cases s with e | ⟨bs, r, -, -, hr, -, e⟩ | ⟨bs, -, -, e⟩ | ⟨bs, n, -, -, e⟩ |
    ⟨bs, n, -, -, hs, e⟩
  · exact e.symm ▸ .refl s
  · exact e.symm ▸ enterEngaged_keepsForks s hr
  · exact e.symm ▸ enterValveWait_keepsForks s
  · exact e.symm ▸ ⟨rfl, rfl, rfl, rfl, fun h => .inl ⟨h, rfl⟩⟩
  · rw [e]
    exact .after (completeShift_keepsForks { s with gear := { s.gear with settle := n } } hs)

theorem spindleOutputWork_keepsForks (held : Option CycleFrame) : KeepsForks s (spindleOutputWork held s) := by
  unfold spindleOutputWork enterDraining
  split
  · split
    · exact ⟨rfl, rfl, rfl, rfl, nofun⟩
    · exact ⟨rfl, rfl, rfl, rfl, fun h => .inl ⟨h, rfl⟩⟩
  · exact ⟨rfl, rfl, rfl, rfl, fun h => .inl ⟨h, rfl⟩⟩

theorem spindleAnnounceWork_keepsForks : KeepsForks s (spindleAnnounceWork s) := by
  unfold spindleAnnounceWork
  dsimp only
  split
  · exact .after (.of_within ((growthSpindleStart_within _).comp (announce_within _ _)))
  · split
    · exact .after (.of_within ((growthSpindleStop_within _).comp (announce_within _ _)))
    · exact ⟨rfl, rfl, rfl, rfl, fun h => .inl ⟨h, rfl⟩⟩

theorem wiggleEnds_keepsForks : KeepsForks s (wiggleEnds s) := by
  unfold wiggleEnds
  split
  · exact ⟨rfl, rfl, rfl, rfl, fun h => .inl ⟨h, rfl⟩⟩
  · exact .refl s

theorem clampFirstWork_keepsForks (order : List ClampAxis) : KeepsForks s (clampFirstWork order s) := by
  unfold clampFirstWork
  split
  · exact (recoverDropped_keepsForks _ order).after
  · exact .refl s

theorem clampTableCommitted_keepsForks (old : Option (List Byte)) (order : List ClampAxis) :
    KeepsForks s (clampTableCommitted old order s) := by
  unfold clampTableCommitted
  dsimp only
  refine .trans ?_ (recoverDropped_keepsForks _ order)
  refine .trans (.of_within (foldl_within dropAbsentClaim_within allClamps s)) ?_
  split
  · split
    · exact (release_keepsForks _ _).after
    · exact ⟨rfl, rfl, rfl, rfl, fun h => .inl ⟨h, rfl⟩⟩
  all_goals exact ⟨rfl, rfl, rfl, rfl, fun h => .inl ⟨h, rfl⟩⟩

theorem enterRest_keepsForks (st : LinkState) : KeepsForks s (enterRest st s) := by
  rw [enterRest_eq]
  exact ((KeepsForks.of_within (((restBegun_within st s).comp (clearAxes_within _)).comp
    ((discardWindow_within _).comp (dropClamps_within _)))).trans (gearHalt_keepsForks _)).trans
    (.of_within (coolantRest_within _))

theorem enterStandby_keepsForks (order : List ClampAxis) : KeepsForks s (enterStandby order s) := by
  unfold enterStandby
  exact (recoverDropped_keepsForks _ order).after

end

theorem ClampEffect.keepsForks {a : ClampAxis} {wanted : Bool} {s t : State} (e : ClampEffect a wanted s t) :
    KeepsForks s t := by
  cases e
  case none => exact .refl s
  case fault => exact clampToFault_keepsForks s a
  case want | reclaim => exact .trans (.of_within (setClamp_within _ _ _ s)) (claim_keepsForks _ _)
  case unclamped | clamped =>
    exact .trans (.of_within ((setClamp_within _ _ _ s).comp (raise_within _ _))) (release_keepsForks _ _)
  all_goals exact ⟨rfl, rfl, rfl, rfl, fun h => .inl ⟨h, rfl⟩⟩

theorem PressureEffect.keepsForks {s t : State} (e : PressureEffect s t) : KeepsForks s t := by
  cases e
  case none => exact .refl s
  case count => exact ⟨rfl, rfl, rfl, rfl, fun h => .inl ⟨h, rfl⟩⟩
  case good => exact (tryGrant_keepsForks _).after
  case low =>
    rcases abortTransit_cases (raise .pressureLow { s with bank := { s.bank with disagree := 0, pressureOk := false } })
      with ⟨-, e⟩ | ⟨a, -, e⟩ | ⟨-, e⟩
    · exact e.symm ▸ ⟨rfl, rfl, rfl, rfl, fun h => .inl ⟨h, rfl⟩⟩
    · exact e.symm ▸ (clampToFault_keepsForks _ a).after
    · exact e.symm ▸ (gearToFault_keepsForks _).after

/-- Whether work leaves the forks alone is decided by where it reaches, but for these tasks. -/
theorem runTask_keepsForks (c : Turn) (u : Task) (s : State)
    (hu : u ≠ .forkFirst ∧ (∀ i, u ≠ .fork i) ∧ u ≠ .service) : KeepsForks s (runTask c u s) := by
  obtain ⟨hfirst, hfork, hservice⟩ := hu
  cases u
  case forkFirst => exact absurd rfl hfirst
  case fork i => exact absurd rfl (hfork i)
  case service => exact absurd rfl hservice
  case clampFirst => exact clampFirstWork_keepsForks s _
  case pressure => exact (pressureWork_effect s).keepsForks
  case clamp a => exact (clampWork_effect _ a s).keepsForks
  case gearLeave => exact gearLeaveWork_keepsForks s
  case rangeRequest =>
    cases hf : c.taken with
    | some f => simp only [runTask, onFrame, hf]; exact rangeRequestWork_keepsForks s f
    | none => simp only [runTask, onFrame, hf]; exact .refl s
  case gearStage => exact gearStageWork_keepsForks s
  case spindleOutput => exact spindleOutputWork_keepsForks s _
  case spindleAnnounce => exact spindleAnnounceWork_keepsForks s
  all_goals exact .of_within (runTask_within c _ s)

/-! ## ENGAGED(r) stands only while the forks show r (R92) -/

theorem EngagedLaw.of_keeps {s t : State} (h : EngagedLaw s) (k : KeepsForks s t) : EngagedLaw t := by
  intro ht
  rcases k.engaged ht with ⟨hs, he⟩ | hr
  · obtain ⟨r, hr, hshow⟩ := h hs
    exact ⟨r, he.trans hr, k.shown.trans hshow⟩
  · exact hr

theorem EngagedLaw.of_not_engaged {t : State} (h : t.gear.state ≠ .engaged) : EngagedLaw t := fun e => absurd e h

theorem reevaluate_engagedLaw (s : State) : EngagedLaw (reevaluate s) := by
  rcases reevaluate_cases s with ⟨r, h, e⟩ | ⟨-, e⟩
  · rw [e]; exact fun _ => ⟨r, rfl, h⟩
  · rw [e]; exact .of_not_engaged nofun

theorem reevaluateKeeping_engagedLaw (s : State) : EngagedLaw (reevaluateKeeping s) := by
  unfold reevaluateKeeping
  split
  · rename_i r h
    split
    · rename_i he
      exact fun _ => ⟨r, he.2, h⟩
    · exact fun _ => ⟨r, rfl, h⟩
  · exact .of_not_engaged nofun

theorem abandonChange_engagedLaw (s : State) : EngagedLaw (abandonChange s) :=
  (reevaluate_engagedLaw _).of_keeps (release_keepsForks _ _)

theorem gearCommitted_engagedLaw (s : State) : EngagedLaw (gearCommitted s) := by
  unfold gearCommitted
  split
  · exact abandonChange_engagedLaw s
  · exact reevaluateKeeping_engagedLaw s
  · exact reevaluateKeeping_engagedLaw s
  all_goals
    rename_i h
    exact .of_not_engaged (by rw [h]; exact nofun)

theorem forkFirstWork_engagedLaw {s : State} (h : EngagedLaw s) : EngagedLaw (forkFirstWork s) := by
  unfold forkFirstWork
  split
  · dsimp only
    split
    · exact reevaluateKeeping_engagedLaw _
    · exact reevaluateKeeping_engagedLaw _
    · exact abandonChange_engagedLaw _
    · exact abandonChange_engagedLaw _
    · exact abandonChange_engagedLaw _
    · exact abandonChange_engagedLaw _
    · exact reevaluate_engagedLaw _
  · exact h

/-- R92: a fork change that leaves the range's pattern ends ENGAGED. -/
theorem EngagedLaw.forksChanged {s : State} (h : EngagedLaw s) (f : PerFork Bool) : EngagedLaw (forksChanged f s) := by
  have other {t : State} {g : GearState} (hg : s.gear.state = g) (hne : g ≠ .engaged)
      (ht : t.gear.state = s.gear.state) : EngagedLaw t := .of_not_engaged (by rw [ht, hg]; exact hne)
  unfold Machine.forksChanged
  dsimp only
  split
  · rename_i hg
    obtain ⟨r, hr, hshow⟩ := h hg
    split
    · exact .of_not_engaged nofun
    · rename_i hn
      refine fun _ => ⟨r, hr, ?_⟩
      have before : showsRange s s.gear.engaged = true := by rw [hr]; exact (showsRange_some s).mpr hshow
      rw [before, Bool.true_and, Bool.not_eq_true', Bool.not_eq_false] at hn
      rw [hr] at hn
      exact (showsRange_some _).mp hn
  · rename_i hg
    split <;> exact other hg nofun rfl
  · rename_i hg
    split <;> exact other hg nofun rfl
  · rename_i hg
    split <;> exact other hg nofun rfl
  · rename_i hg
    split <;> exact other hg nofun rfl
  · rename_i hg
    exact other hg nofun rfl
  · rename_i hg
    exact other hg nofun rfl

theorem forkWork_engagedLaw {s : State} (h : EngagedLaw s) (i : ForkSwitch) : EngagedLaw (forkWork i s) := by
  unfold forkWork
  split
  · split
    · split
      · exact h
      · exact h.forksChanged _
    · exact h
  · exact h

/-! ## The copy of the fork switches (R91, R150) -/

/-- The copy of one switch, once the first values have been taken over. -/
def ForkCopied (i : ForkSwitch) (s : State) : Prop :=
  s.gear.forksDelivered = true → ∀ v, (s.inputs.forks.get i).value = some v → s.gear.forks.get i = v

/-- Until the first values have been taken over the copy reads MIDDLE. -/
def ForksMiddle (s : State) : Prop := s.gear.forksDelivered = false → s.gear.forks = ⟨false, false, false, false⟩

theorem forkCopyLaw_iff (s : State) : ForkCopyLaw s ↔ ForksMiddle s ∧ ∀ i, ForkCopied i s := by
  unfold ForkCopyLaw ForksMiddle ForkCopied
  cases s.gear.forksDelivered <;> simp

section
variable {s t : State}

theorem ForkCopied.of_keeps {i : ForkSwitch} (h : ForkCopied i s) (k : KeepsForks s t) : ForkCopied i t := by
  unfold ForkCopied at *
  rw [k.forks, k.delivered, k.inputs]
  exact h

theorem ForksMiddle.of_keeps (h : ForksMiddle s) (k : KeepsForks s t) : ForksMiddle t := by
  unfold ForksMiddle at *
  rw [k.forks, k.delivered]
  exact h

theorem ForkCopyLaw.of_keeps (h : ForkCopyLaw s) (k : KeepsForks s t) : ForkCopyLaw t := by
  rw [forkCopyLaw_iff] at *
  exact ⟨h.1.of_keeps k, fun i => (h.2 i).of_keeps k⟩

/-- What the fork copies look at stands. -/
theorem ForkCopyLaw.of_same (h : ForkCopyLaw s) (hg : t.gear = s.gear) (hi : t.inputs.forks = s.inputs.forks) :
    ForkCopyLaw t := by
  unfold ForkCopyLaw at *
  rw [hg, hi]
  exact h

theorem forkValues_get (s : State) (i : ForkSwitch) : (forkValues s).get i = (s.inputs.forks.get i).value.getD false := by
  cases i <;> rfl

theorem PerFork.get_set_self' {α : Type} (v : PerFork α) (i : ForkSwitch) (u : α) : (v.set i u).get i = u := by
  cases i <;> rfl

theorem PerFork.get_set_ne' {α : Type} (v : PerFork α) {i j : ForkSwitch} (h : j ≠ i) (u : α) :
    (v.set i u).get j = v.get j := by
  cases i <;> cases j <;> first | rfl | exact absurd rfl h

/-- After the first values have been taken over every switch's copy is right. -/
theorem forkFirstWork_forks (s : State) :
    (forkFirstWork s).inputs = s.inputs ∧
      (((forkFirstWork s).gear.forks = s.gear.forks ∧ (forkFirstWork s).gear.forksDelivered = s.gear.forksDelivered) ∨
       ((forkFirstWork s).gear.forks = forkValues s ∧ (forkFirstWork s).gear.forksDelivered = true)) := by
  refine ⟨(forkFirstWork_within s).same_inputs, ?_⟩
  unfold forkFirstWork
  split
  · have of {t : State} (k : KeepsForks { s with gear := { s.gear with forks := forkValues s, forksDelivered := true } } t) :
        t.gear.forks = forkValues s ∧ t.gear.forksDelivered = true := ⟨k.forks, k.delivered⟩
    right
    dsimp only
    split
    · exact of (reevaluateKeeping_keepsForks _)
    · exact of (reevaluateKeeping_keepsForks _)
    · exact of (abandonChange_keepsForks _)
    · exact of (abandonChange_keepsForks _)
    · exact of (abandonChange_keepsForks _)
    · exact of (abandonChange_keepsForks _)
    · exact of (reevaluate_keepsForks _)
  · exact .inl ⟨rfl, rfl⟩

theorem ForkCopied.forkFirstWork {i : ForkSwitch} (h : ForkCopied i s) : ForkCopied i (forkFirstWork s) := by
  obtain ⟨hi, ⟨hf, hd⟩ | ⟨hf, -⟩⟩ := forkFirstWork_forks s
  · unfold ForkCopied at *
    rw [hi, hf, hd]
    exact h
  · intro _ v hv
    rw [hi] at hv
    rw [hf, forkValues_get, hv]
    rfl

theorem ForksMiddle.forkFirstWork (h : ForksMiddle s) : ForksMiddle (forkFirstWork s) := by
  obtain ⟨-, ⟨hf, hd⟩ | ⟨-, hd⟩⟩ := forkFirstWork_forks s
  · unfold ForksMiddle at *
    rw [hf, hd]
    exact h
  · intro e
    rw [hd] at e
    cases e

theorem forksChanged_forks (f : PerFork Bool) (s : State) : (forksChanged f s).gear.forks = f ∧
    (forksChanged f s).gear.forksDelivered = s.gear.forksDelivered := by
  unfold forksChanged
  dsimp only
  split
  · split <;> exact ⟨rfl, rfl⟩
  · split <;> exact ⟨rfl, rfl⟩
  · split <;> exact ⟨rfl, rfl⟩
  · split <;> exact ⟨rfl, rfl⟩
  · split <;> exact ⟨rfl, rfl⟩
  · exact ⟨rfl, rfl⟩
  · exact ⟨rfl, rfl⟩

/-- The hand-over of a switch's change: nothing, or the debounced value goes into the copy. -/
theorem forkWork_forks (i : ForkSwitch) (s : State) :
    (forkWork i s).inputs = s.inputs ∧ (forkWork i s).gear.forksDelivered = s.gear.forksDelivered ∧
      ((forkWork i s = s ∧ (s.gear.forksDelivered = true →
          ∀ v, (s.inputs.forks.get i).value = some v → s.gear.forks.get i = v)) ∨
       (s.gear.forksDelivered = true ∧ ∃ v, (s.inputs.forks.get i).value = some v ∧
          (forkWork i s).gear.forks = s.gear.forks.set i v)) := by
  refine ⟨(forkWork_within i s).same_inputs, ?_⟩
  unfold forkWork
  split
  · rename_i hd
    split
    · rename_i v hv
      split
      · rename_i he
        exact ⟨rfl, .inl ⟨rfl, fun _ w hw => by rw [hv] at hw; cases hw; exact he.symm⟩⟩
      · exact ⟨(forksChanged_forks _ s).2, .inr ⟨hd, v, hv, (forksChanged_forks _ s).1⟩⟩
    · rename_i hv
      exact ⟨rfl, .inl ⟨rfl, fun _ w hw => by rw [hv] at hw; cases hw⟩⟩
  · rename_i hd
    exact ⟨rfl, .inl ⟨rfl, fun h => absurd h hd⟩⟩

theorem ForksMiddle.forkWork (h : ForksMiddle s) (i : ForkSwitch) : ForksMiddle (forkWork i s) := by
  obtain ⟨-, hd, ⟨e, -⟩ | ⟨hdel, -⟩⟩ := forkWork_forks i s
  · rw [e]; exact h
  · intro hf
    rw [hd, hdel] at hf
    cases hf

theorem forkWork_copied (i : ForkSwitch) (s : State) : ForkCopied i (forkWork i s) := by
  obtain ⟨hi, -, ⟨e, hc⟩ | ⟨-, v, hv, hf⟩⟩ := forkWork_forks i s
  · rw [e]; exact hc
  · intro _ w hw
    rw [hi, hv] at hw
    cases hw
    rw [hf, PerFork.get_set_self']

theorem ForkCopied.forkWork {i : ForkSwitch} (h : ForkCopied i s) (j : ForkSwitch) : ForkCopied i (forkWork j s) := by
  by_cases hij : i = j
  · exact hij ▸ forkWork_copied i s
  obtain ⟨hi, hd, ⟨e, -⟩ | ⟨-, v, -, hf⟩⟩ := forkWork_forks j s
  · rw [e]; exact h
  · unfold ForkCopied at *
    rw [hi, hd, hf, PerFork.get_set_ne' _ hij]
    exact h

/-! ## The two laws together -/

/-- R107: a COMMIT reaches the fork reading only through the gear table, which it re-evaluates by. -/
theorem commitEffects_forks (q : TableId) (img : Image) (order : List ClampAxis) (old : Option (List Byte))
    (h : EngagedLaw s) : EngagedLaw (commitEffects q old order (setActive q img s)) ∧
      (commitEffects q old order (setActive q img s)).gear.forks = s.gear.forks ∧
      (commitEffects q old order (setActive q img s)).gear.forksDelivered = s.gear.forksDelivered := by
  have of {t u : State} (k : KeepsForks t u) (ht : EngagedLaw t) (hg : t.gear = s.gear) :
      EngagedLaw u ∧ u.gear.forks = s.gear.forks ∧ u.gear.forksDelivered = s.gear.forksDelivered :=
    ⟨ht.of_keeps k, by rw [k.forks, hg], by rw [k.delivered, hg]⟩
  cases q
  case gear =>
    refine ⟨gearCommitted_engagedLaw _, ?_⟩
    show (gearCommitted _).gear.forks = _ ∧ (gearCommitted _).gear.forksDelivered = _
    unfold gearCommitted
    split
    · exact ⟨(abandonChange_keepsForks _).forks, (abandonChange_keepsForks _).delivered⟩
    · exact ⟨(reevaluateKeeping_keepsForks _).forks, (reevaluateKeeping_keepsForks _).delivered⟩
    · exact ⟨(reevaluateKeeping_keepsForks _).forks, (reevaluateKeeping_keepsForks _).delivered⟩
    all_goals exact ⟨rfl, rfl⟩
  case compensation => exact of (.of_within (compensationCommitted_within _)) h rfl
  case clamp => exact of (clampTableCommitted_keepsForks _ old order) h rfl
  case triggers => exact of (.of_within (triggersCommitted_within _)) h rfl
  all_goals exact of (t := setActive _ img s) ⟨rfl, rfl, rfl, rfl, fun h => .inl ⟨h, rfl⟩⟩ h rfl

/-- No service but a COMMIT of the gear table reaches the fork reading. -/
theorem effect_forks {order : List ClampAxis} (h : EngagedLaw s) (e : BlockEffect order s t) :
    EngagedLaw t ∧ t.gear.forks = s.gear.forks ∧ t.gear.forksDelivered = s.gear.forksDelivered := by
  have of (k : KeepsForks s t) :
      EngagedLaw t ∧ t.gear.forks = s.gear.forks ∧ t.gear.forksDelivered = s.gear.forksDelivered :=
    ⟨h.of_keeps k, k.forks, k.delivered⟩
  cases e
  case commit q _ _ _ => exact commitEffects_forks q _ order _ h
  case flags hw => exact of (.of_within hw)
  case trigger p _ _ => exact of (.of_within (triggerProgram_within p s))
  case growth hard => exact of (.of_within (growthTrigger_within hard s))
  case gear => exact of (reevaluate_keepsForks s)
  all_goals exact of ⟨rfl, rfl, rfl, rfl, fun h => .inl ⟨h, rfl⟩⟩

/-- What the tasks of an expiry keep of the two laws from its sample on. -/
def ForkTasks (s : State) : Prop := EngagedLaw s ∧ ForksMiddle s

theorem ForkTasks.task (h : ForkTasks s) (c : Turn) (u : Task) : ForkTasks (runTask c u s) := by
  obtain ⟨he, hm⟩ := h
  by_cases hfirst : u = .forkFirst
  · exact hfirst ▸ ⟨forkFirstWork_engagedLaw he, hm.forkFirstWork⟩
  by_cases hfork : ∃ i, u = .fork i
  · obtain ⟨i, rfl⟩ := hfork
    exact ⟨forkWork_engagedLaw he i, hm.forkWork i⟩
  by_cases hservice : u = .service
  · subst hservice
    obtain ⟨v, hv, hw⟩ := runTask_service_served (s := s) c
    obtain ⟨hev, hf, hd⟩ := effect_forks he hv
    have k : KeepsForks v (runTask c .service s) := .of_within hw
    refine ⟨hev.of_keeps k, ForksMiddle.of_keeps (s := v) ?_ k⟩
    unfold ForksMiddle at *
    rw [hf, hd]
    exact hm
  · have k := runTask_keepsForks c u s ⟨hfirst, fun i hi => hfork ⟨i, hi⟩, hservice⟩
    exact ⟨he.of_keeps k, hm.of_keeps k⟩

theorem ForkCopied.task {i : ForkSwitch} (he : EngagedLaw s) (h : ForkCopied i s) (c : Turn) (u : Task) :
    ForkCopied i (runTask c u s) := by
  by_cases hfirst : u = .forkFirst
  · exact hfirst ▸ h.forkFirstWork
  by_cases hfork : ∃ j, u = .fork j
  · obtain ⟨j, rfl⟩ := hfork
    exact h.forkWork j
  by_cases hservice : u = .service
  · subst hservice
    obtain ⟨v, hv, hw⟩ := runTask_service_served (s := s) c
    obtain ⟨-, hf, hd⟩ := effect_forks he hv
    have hi : v.inputs = s.inputs := hv.within.same_inputs
    refine ForkCopied.of_keeps (s := v) ?_ (.of_within hw)
    unfold ForkCopied at *
    rw [hf, hd, hi]
    exact h
  · exact h.of_keeps (runTask_keepsForks c u s ⟨hfirst, fun j hj => hfork ⟨j, hj⟩, hservice⟩)

/-- The two laws between expiries. -/
def ForkLaws (s : State) : Prop := ForkCopyLaw s ∧ EngagedLaw s

theorem ForkLaws.of_keeps (h : ForkLaws s) (k : KeepsForks s t) : ForkLaws t := ⟨h.1.of_keeps k, h.2.of_keeps k⟩

end

theorem forkLaws_link : LinkKept ForkLaws where
  quiet _ _ _ _ _ h := h.of_keeps ⟨rfl, rfl, rfl, rfl, fun h => .inl ⟨h, rfl⟩⟩
  raise _ _ h := h.of_keeps (.of_within (raise_within _ _))
  estop _ _ h := h.of_keeps ⟨rfl, rfl, rfl, rfl, fun h => .inl ⟨h, rfl⟩⟩
  rest st s _ h := h.of_keeps (enterRest_keepsForks s st)
  standby order s _ _ h := h.of_keeps (enterStandby_keepsForks s order)
  activating _ _ _ _ h := h.of_keeps ⟨rfl, rfl, rfl, rfl, fun h => .inl ⟨h, rfl⟩⟩
  running _ _ h := h.of_keeps ⟨rfl, rfl, rfl, rfl, fun h => .inl ⟨h, rfl⟩⟩
  leave st s _ _ h := h.of_keeps (.of_within (leaveRunning_within st s))
  lost _ h := h.of_keeps ⟨rfl, rfl, rfl, rfl, fun h => .inl ⟨h, rfl⟩⟩

theorem betweenWork_keepsForks (e : Between) (s : State) (he : Part.link ∉ betweenParts e) :
    KeepsForks s (betweenWork e s) := by
  cases e
  case valveBankGrant => exact tryGrant_keepsForks s
  case unclampCeiling a => exact clampCeilingEnds_keepsForks s _ a
  case clampCeiling a => exact clampCeilingEnds_keepsForks s _ a
  case dropCeiling a => exact clampCeilingEnds_keepsForks s _ a
  case drainCeiling =>
    show KeepsForks s (drainCeilingEnds s)
    unfold drainCeilingEnds
    split
    · exact enterValveWait_keepsForks s
    · exact .refl s
  case shiftCeiling =>
    show KeepsForks s (shiftCeilingEnds s)
    unfold shiftCeilingEnds
    split
    · exact gearToFault_keepsForks s
    · exact .refl s
  case wiggleTimer => exact wiggleEnds_keepsForks s
  case estopClosing => exact ⟨rfl, rfl, rfl, rfl, fun h => .inl ⟨h, rfl⟩⟩
  case storeVerified =>
    have w := storeDone_within s
    have hg : (storeDone s).gear = s.gear := w.same_gear
    exact ⟨congrArg _ hg, congrArg _ hg, congrArg _ w.same_inputs, activeBytes_of_active (storeDone_active s) _,
      fun h => .inl ⟨(congrArg Gearbox.state hg).symm.trans h, congrArg _ hg⟩⟩
  case storeMismatch | storeCeiling =>
    have w := storeFails_within s
    have hg : (storeFails s).gear = s.gear := w.same_gear
    exact ⟨congrArg _ hg, congrArg _ hg, congrArg _ w.same_inputs, activeBytes_of_active (storeFails_active s) _,
      fun h => .inl ⟨(congrArg Gearbox.state hg).symm.trans h, congrArg _ hg⟩⟩
  case frameArrival | returnFrame | activationCeiling | estopOpening =>
    exact absurd (of_decide_eq_true rfl) he
  all_goals exact .of_within (betweenWork_within _ s)

theorem restart_forkLaws (s : State) : ForkLaws (restart s) := by
  have k : KeepsForks (reevaluate (restartBase s)) (restart s) :=
    .of_within ((startLube_within _).comp (droopWork_within _))
  refine ⟨?_, (reevaluate_engagedLaw _).of_keeps k⟩
  refine ForkCopyLaw.of_keeps ?_ ((reevaluate_keepsForks (restartBase s)).trans k)
  rw [forkCopyLaw_iff]
  have hg : (restartBase s).gear = restartedGear s := rfl
  unfold ForksMiddle ForkCopied
  rw [hg]
  unfold restartedGear
  split
  · refine ⟨fun h => Bool.noConfusion h, fun i _ v hv => ?_⟩
    show (forkValues s).get i = v
    rw [forkValues_get, show (s.inputs.forks.get i).value = some v from hv]
    rfl
  · exact ⟨fun _ => rfl, fun i h => Bool.noConfusion h⟩

theorem forkLaws_command : CommandKept ForkLaws where
  reset _ _ _ _ _ := ⟨rfl, .of_not_engaged nofun⟩
  settle order _ h := h.of_keeps (.of_within (settleTriggers_within order _))
  sent _ _ h := h.of_keeps (.of_within (within_sent _ _))
  between e s h := by
    by_cases hl : Part.link ∈ betweenParts e
    · cases e
      case frameArrival bytes order => exact forkLaws_link.frameArrives bytes order h
      case returnFrame bytes => exact forkLaws_link.returnArrives bytes h
      case activationCeiling => exact forkLaws_link.activationEnds h
      case estopOpening => exact forkLaws_link.estopOpens h
      all_goals exact absurd hl (of_decide_eq_true rfl)
    · exact h.of_keeps (betweenWork_keepsForks e s hl)
  linkService kind body order _ h :=
    forkLaws_link.linkService (fun hw hu => hu.of_keeps (.of_within hw)) kind body order h
  blockService kind body order s _ h := by
    obtain ⟨v, he, hw⟩ := blockService_served (order := order) (s := s) kind body
    obtain ⟨hev, hf, hd⟩ := effect_forks h.2 he
    refine ForkLaws.of_keeps (s := v) ⟨?_, hev⟩ (.of_within hw)
    have hc := h.1
    unfold ForkCopyLaw at *
    rw [hf, hd, he.within.same_inputs]
    exact hc
  gearLeave h := h.of_keeps (gearLeaveWork_keepsForks _)
  restart _ := restart_forkLaws _

theorem interlockWork_keepsForks (taken : Option CycleFrame) (s : State) : KeepsForks s (interlockWork taken s) := by
  unfold interlockWork
  split
  · split
    · exact ⟨rfl, rfl, rfl, rfl, fun h => .inl ⟨h, rfl⟩⟩
    · exact .refl s
  · exact .refl s

/-- The expiry's sample changes the debounced switches alone. -/
theorem intakeStage_forkTasks {s : State} (h : ForkTasks s) (inp : ExpiryInput) (taken : Option CycleFrame) :
    ForkTasks (intakeStage inp taken s) := by
  obtain ⟨he, hm⟩ := h
  have sampled : ForkTasks (conditionerWork inp.samples { s with gear := { s.gear with forkLoss := false } }) := ⟨he, hm⟩
  have of {t u : State} (k : KeepsForks t u) (ht : ForkTasks t) : ForkTasks u := ⟨ht.1.of_keeps k, ht.2.of_keeps k⟩
  unfold intakeStage
  dsimp only
  refine of (interlockWork_keepsForks _ _) ?_
  split
  · exact of (.of_within (pushCommands_within taken _)) sampled
  · exact sampled

theorem passTime_keepsForks (c : ClockSpan) (s : State) : KeepsForks s (passTime c s) :=
  ⟨rfl, rfl, rfl, rfl, fun h => .inl ⟨h, rfl⟩⟩

/-- At an expiry each switch's change is handed over by a task of its own. -/
theorem ForkLaws.expiry {s : State} (h : ForkLaws s) (inp : ExpiryInput) : ForkLaws (expiry inp s) := by
  rw [expiry_eq]
  refine forkLaws_command.afterClearStage _ _ (forkLaws_command.closeStage _ _ _ fun hw => ?_)
  refine ForkLaws.of_keeps (s := workedAt inp s) ?_
    ((KeepsForks.of_within hw).trans ⟨rfl, rfl, rfl, rfl, fun h => .inl ⟨h, rfl⟩⟩)
  have linked : ForkLaws (linkedAt inp s) := forkLaws_command.linkStage _ _ _
    (fun f o _ hu => forkLaws_link.linkWork rfl f o hu) (h.of_keeps (passTime_keepsForks inp.clock s))
  have sampled : ForkTasks (sampledAt inp s) :=
    intakeStage_forkTasks ⟨linked.2, ((forkCopyLaw_iff _).mp linked.1).1⟩ inp _
  have settled {u : State} (o : List TriggerSource) : KeepsForks u (settleTriggers o u) :=
    .of_within (settleTriggers_within o u)
  have turn {u : State} (t : Task) (hu : ForkTasks u) : ForkTasks (taskTurn (turnAt inp s) u t) :=
    ⟨(hu.task _ t).1.of_keeps (settled _), (hu.task _ t).2.of_keeps (settled _)⟩
  have worked : ForkTasks (workedAt inp s) := runTasks_keeps turn _ sampled
  refine ⟨(forkCopyLaw_iff _).mpr ⟨worked.2, fun i => ?_⟩, worked.1⟩
  refine runTasks_establishes (I := ForkTasks) (.fork i) turn (fun _ => ?_) (fun t hu hc => ?_) _ sampled
  · exact (forkWork_copied i _).of_keeps (settled _)
  · exact (hc.task hu.1 _ t).of_keeps (settled _)

/-- Settles O8: the expiry forms the output by gear and link state, hands every fork change over by a task of its own, and
a change that ENGAGED's range does not survive ends it. -/
theorem spindleLawKept : Obligations.SpindleLawKept :=
  ⟨fun _ _ h e => spindleLaw_command.step (fun inp _ _ => expiry_spindleLaw inp _) (fun _ _ hu => hu) h e,
   fun _ _ h e => forkLaws_command.step (fun inp _ hu => hu.expiry inp)
    (fun _ _ hu => ForkLaws.of_keeps hu ⟨rfl, rfl, rfl, rfl, fun h => .inl ⟨h, rfl⟩⟩) h e⟩

end Sys2Proof.Machine

/-! # The claims, the holder and the transits of the valve bank (R64 to R66) -/

namespace Sys2Proof.Machine

-- Many short proofs that wait for the same case splitters: one after the other they need less memory.
set_option Elab.async false

/-! ## The laws and their exception -/

/-- The states of a clamp that HALTED and OFFLINE leave (R77). -/
def ClampState.rests : ClampState → Bool
  | .clamped | .dropped | .fault => true
  | .unclampWait | .unclamping | .unclamped | .clampWait _ | .clamping => false

/-- What a clamp's state asks of the part: a wait or a transit that the clamp is not ABSENT, and all but a resting state
that the part is not at rest. -/
structure Placed (s : State) (a : ClampAxis) (st : ClampState) : Prop where
  absent : st.waits = true ∨ st.transits = true → clampAbsent s a = false
  rest : st.rests = false → s.link.state.atRest = false

/-- What a gearbox asks of the part: a change in progress needs a target, a table, and a part that is not at rest. -/
def Geared (s : State) (g : Gearbox) : Prop :=
  g.state.changing = true → g.target.isSome = true ∧ present s .gear = true ∧ s.link.state.atRest = false

/-- The laws of the valve bank with those of its claimants. -/
structure BankLaws (s : State) : Prop where
  tables : TablesLaw s
  geared : Geared s s.gear
  placed : ∀ a, Placed s a (s.clamps.get a).state
  bank : BankLaw s

/-- The same laws, but that the claim and the hold of `c` are left open. -/
structure BankBut (c : Claimant) (s : State) : Prop where
  tables : TablesLaw s
  geared : Geared s s.gear
  placed : ∀ a, Placed s a (s.clamps.get a).state
  nodup : s.bank.queue.Nodup
  queue : ∀ d, d ≠ c → (d ∈ s.bank.queue ↔ waits s d = true)
  holder : ∀ d, d ≠ c → (s.bank.holder = some d ↔ transits s d = true)

section
variable {s t : State} {c : Claimant}

theorem BankLaws.but (h : BankLaws s) (c : Claimant) : BankBut c s where
  tables := h.tables
  geared := h.geared
  placed := h.placed
  nodup := h.bank.1
  queue d _ := h.bank.2.1 d
  holder d _ := h.bank.2.2 d

/-- The laws hold where the one claimant left open keeps them too. -/
theorem BankBut.close (h : BankBut c s) (hq : c ∈ s.bank.queue ↔ waits s c = true)
    (hh : s.bank.holder = some c ↔ transits s c = true) : BankLaws s where
  tables := h.tables
  geared := h.geared
  placed := h.placed
  bank := by
    refine ⟨h.nodup, fun d => ?_, fun d => ?_⟩
    · by_cases e : d = c
      · exact e ▸ hq
      · exact h.queue d e
    · by_cases e : d = c
      · exact e ▸ hh
      · exact h.holder d e

theorem Placed.congr {a : ClampAxis} {st : ClampState} (h : Placed s a st) (hl : t.link.state = s.link.state)
    (hs : t.store.active = s.store.active) : Placed t a st where
  absent hb := by rw [clampAbsent_of_active hs]; exact h.absent hb
  rest hr := by rw [hl]; exact h.rest hr

theorem present_of_active (h : t.store.active = s.store.active) (q : TableId) : present t q = present s q := by
  unfold present
  rw [h]

theorem allPresent_of_active (h : t.store.active = s.store.active) : allPresent t = allPresent s := by
  unfold allPresent
  rw [show present t = present s from funext fun q => present_of_active h q]

theorem Geared.congr {g g' : Gearbox} (h : Geared s g) (hl : t.link.state = s.link.state)
    (hs : t.store.active = s.store.active) (hg : g'.state = g.state) (ht : g'.target = g.target) : Geared t g' := by
  unfold Geared at *
  rw [hg, ht, hl, present_of_active hs]
  exact h

theorem TablesLaw.congr (h : TablesLaw s) (hl : t.link.state = s.link.state) (hs : t.store.active = s.store.active) :
    TablesLaw t := by
  unfold TablesLaw at *
  rw [hl, allPresent_of_active hs]
  exact h

/-- Whether a claimant waits or is in transit follows from its own sequencer. -/
theorem waits_congr {d : Claimant} (hc : ∀ a, d = .clamp a → (t.clamps.get a).state = (s.clamps.get a).state)
    (hg : d = .gearbox → t.gear.state = s.gear.state) : waits t d = waits s d ∧ transits t d = transits s d := by
  cases d with
  | clamp a => exact ⟨congrArg ClampState.waits (hc a rfl), congrArg ClampState.transits (hc a rfl)⟩
  | gearbox => simp only [waits, transits, hg rfl, and_self]

/-- Work that leaves what the laws look at. -/
theorem BankBut.of_same (h : BankBut c s) (hl : t.link.state = s.link.state) (hs : t.store.active = s.store.active)
    (hc : ∀ a, (t.clamps.get a).state = (s.clamps.get a).state) (hg : t.gear.state = s.gear.state)
    (ht : t.gear.target = s.gear.target) (hq : t.bank.queue = s.bank.queue) (hh : t.bank.holder = s.bank.holder) :
    BankBut c t where
  tables := h.tables.congr hl hs
  geared := h.geared.congr hl hs hg ht
  placed a := by rw [hc]; exact (h.placed a).congr hl hs
  nodup := by rw [hq]; exact h.nodup
  queue d hd := by rw [hq, (waits_congr (fun a _ => hc a) (fun _ => hg)).1]; exact h.queue d hd
  holder d hd := by rw [hh, (waits_congr (fun a _ => hc a) (fun _ => hg)).2]; exact h.holder d hd

theorem BankLaws.of_same (h : BankLaws s) (hl : t.link.state = s.link.state) (hs : t.store.active = s.store.active)
    (hc : ∀ a, (t.clamps.get a).state = (s.clamps.get a).state) (hg : t.gear.state = s.gear.state)
    (ht : t.gear.target = s.gear.target) (hq : t.bank.queue = s.bank.queue) (hh : t.bank.holder = s.bank.holder) :
    BankLaws t := by
  have w := waits_congr (s := s) (t := t) (d := .gearbox) (fun a _ => hc a) (fun _ => hg)
  refine ((h.but .gearbox).of_same hl hs hc hg ht hq hh).close ?_ ?_
  · rw [hq, w.1]; exact h.bank.2.1 _
  · rw [hh, w.2]; exact h.bank.2.2 _

theorem bankBut_reads (c : Claimant) : Reads [.link, .clamps, .gear, .bank, .store] (BankBut c) := by
  intro s t k h
  have hb : t.bank = s.bank := k .bank (by decide)
  have hg : t.gear = s.gear := k .gear (by decide)
  exact h.of_same (by rw [(k .link (by decide) : _ = _)]) (by rw [(k .store (by decide) : _ = _)])
    (fun a => by rw [(k .clamps (by decide) : _ = _)]) (by rw [hg]) (by rw [hg]) (by rw [hb]) (by rw [hb])

theorem bankLaws_reads : Reads [.link, .clamps, .gear, .bank, .store] BankLaws := by
  intro s t k h
  have hb : t.bank = s.bank := k .bank (by decide)
  have hg : t.gear = s.gear := k .gear (by decide)
  exact h.of_same (by rw [(k .link (by decide) : _ = _)]) (by rw [(k .store (by decide) : _ = _)])
    (fun a => by rw [(k .clamps (by decide) : _ = _)]) (by rw [hg]) (by rw [hg]) (by rw [hb]) (by rw [hb])

/-! ## What the claimant left open may do -/

/-- The clamp left open takes a state that its place allows. -/
theorem BankBut.setClamp {a : ClampAxis} (h : BankBut (.clamp a) s) {st : ClampState} (hp : Placed s a st) (n : Option Nat) :
    BankBut (.clamp a) (setClamp a st n s) where
  tables := h.tables
  geared := h.geared
  placed d := by
    by_cases e : d = a
    · subst e
      rw [setClamp_get_self]
      exact hp.congr rfl rfl
    · rw [setClamp_get_ne e]
      exact (h.placed d).congr rfl rfl
  nodup := h.nodup
  queue d hd := by
    rw [(waits_congr (s := s) (t := Machine.setClamp a st n s) (d := d)
      (fun e he => by rw [setClamp_get_ne (fun k => hd (by rw [he, k]))]) (fun _ => rfl)).1]
    exact h.queue d hd
  holder d hd := by
    rw [(waits_congr (s := s) (t := Machine.setClamp a st n s) (d := d)
      (fun e he => by rw [setClamp_get_ne (fun k => hd (by rw [he, k]))]) (fun _ => rfl)).2]
    exact h.holder d hd

/-- The gearbox left open takes a state that its place allows. -/
theorem BankBut.setGear (h : BankBut .gearbox s) {g : Gearbox} (hg : Geared s g) :
    BankBut .gearbox { s with gear := g } where
  tables := h.tables
  geared := hg
  placed a := (h.placed a).congr rfl rfl
  nodup := h.nodup
  queue d hd := by
    rw [(waits_congr (s := s) (t := { s with gear := g }) (d := d) (fun _ _ => rfl) (fun e => absurd e hd)).1]
    exact h.queue d hd
  holder d hd := by
    rw [(waits_congr (s := s) (t := { s with gear := g }) (d := d) (fun _ _ => rfl) (fun e => absurd e hd)).2]
    exact h.holder d hd

/-- The claimant left open withdraws its claim. -/
theorem BankBut.withdraw (h : BankBut c s) : BankBut c (withdraw c s) where
  tables := h.tables
  geared := h.geared.congr rfl rfl rfl rfl
  placed a := (h.placed a).congr rfl rfl
  nodup := h.nodup.erase c
  queue d hd := (List.mem_erase_of_ne hd).trans (h.queue d hd)
  holder d hd := h.holder d hd

theorem BankBut.not_mem_withdraw (h : BankBut c s) : c ∉ (Machine.withdraw c s).bank.queue := fun hm =>
  (List.Nodup.mem_erase_iff h.nodup).mp hm |>.1 rfl

/-- The claimant left open gives up its hold of the bank. -/
theorem BankBut.letGo (h : BankBut c s) (hh : s.bank.holder = some c) :
    BankBut c { s with bank := { s.bank with holder := none } } where
  tables := h.tables
  geared := h.geared.congr rfl rfl rfl rfl
  placed a := (h.placed a).congr rfl rfl
  nodup := h.nodup
  queue d hd := h.queue d hd
  holder d hd := by
    have held := h.holder d hd
    rw [hh] at held
    constructor
    · exact nofun
    · intro k
      exact absurd (Option.some.inj (held.mpr k)).symm hd

/-- The claimant left open joins at the tail. -/
theorem BankBut.join (h : BankBut c s) (hq : c ∉ s.bank.queue) :
    BankBut c { s with bank := { s.bank with queue := s.bank.queue ++ [c] } } where
  tables := h.tables
  geared := h.geared.congr rfl rfl rfl rfl
  placed a := (h.placed a).congr rfl rfl
  nodup := List.nodup_append.mpr ⟨h.nodup, List.nodup_singleton c, fun d hd e he => by
    rw [List.mem_singleton.mp he]
    exact fun k => hq (k ▸ hd)⟩
  queue d hd := by
    have : d ∈ s.bank.queue ++ [c] ↔ d ∈ s.bank.queue := by simp [hd]
    exact this.trans (h.queue d hd)
  holder d hd := h.holder d hd

/-- The head of the queue becomes the holder. -/
theorem BankLaws.granted (h : BankLaws s) {rest : List Claimant} (hh : s.bank.holder = none)
    (hq : s.bank.queue = c :: rest) :
    BankBut c { s with bank := { s.bank with queue := rest, holder := some c } } where
  tables := h.tables
  geared := h.geared.congr rfl rfl rfl rfl
  placed a := (h.placed a).congr rfl rfl
  nodup := by
    have := h.bank.1
    rw [hq] at this
    exact this.of_cons
  queue d hd := by
    have := h.bank.2.1 d
    rw [hq, List.mem_cons] at this
    exact (by simpa [hd] using this : d ∈ rest ↔ waits s d = true)
  holder d hd := by
    have := h.bank.2.2 d
    rw [hh] at this
    constructor
    · intro k
      exact absurd (Option.some.inj k).symm hd
    · intro k
      exact absurd (this.mpr k) nofun

/-! ## Grants, claims, releases -/

theorem waits_clamp (s : State) (a : ClampAxis) : waits s (.clamp a) = (s.clamps.get a).state.waits := rfl

theorem transits_clamp (s : State) (a : ClampAxis) : transits s (.clamp a) = (s.clamps.get a).state.transits := rfl

theorem waits_gearbox (s : State) : waits s .gearbox = true ↔ s.gear.state = .valveWait := decide_eq_true_iff

theorem transits_gearbox (s : State) : transits s .gearbox = true ↔ s.gear.state = .shifting := decide_eq_true_iff

/-- A waiting clamp's transit begins. -/
theorem beginClampTransit_cases {a : ClampAxis} (hw : (s.clamps.get a).state.waits = true) :
    ∃ st n, st.transits = true ∧ st.waits = false ∧ beginClampTransit a s = setClamp a st n s := by
  unfold beginClampTransit
  split
  case h_1 => exact ⟨.unclamping, _, rfl, rfl, rfl⟩
  case h_2 => exact ⟨.clamping, _, rfl, rfl, rfl⟩
  all_goals
    rename_i hst
    rw [hst] at hw
    cases hw

/-- A waiting gearbox with its target and table begins its transit. -/
theorem beginShift_cases (hg : s.gear.state = .valveWait) (ht : s.gear.target.isSome = true)
    (hp : present s .gear = true) :
    ∃ g, beginShift s = { s with gear := g } ∧ g.state = .shifting ∧ g.target = s.gear.target := by
  obtain ⟨r, hr⟩ := Option.isSome_iff_exists.mp ht
  obtain ⟨bs, hb⟩ := (present_eq_true_iff s .gear).mp hp
  unfold beginShift
  rw [hg, hb, hr]
  exact ⟨_, rfl, rfl, by first | rfl | exact hr⟩

theorem BankLaws.tryGrant (h : BankLaws s) : BankLaws (tryGrant s) := by
  rcases tryGrant_cases s with ⟨-, e⟩ | ⟨c, rest, hr, hq, e⟩
  · exact e.symm ▸ h
  have granted := h.granted (holder_of_grantReady hr) hq
  have waiting : waits s c = true := (h.bank.2.1 c).mp (by rw [hq]; exact List.mem_cons_self)
  have gone : c ∉ rest := by
    have := h.bank.1
    rw [hq] at this
    exact (List.nodup_cons.mp this).1
  have off : s.link.state.atRest = false := by
    simp only [grantReady, Bool.and_eq_true] at hr
    simpa using hr.2
  rw [e]
  cases c with
  | clamp a =>
    obtain ⟨st, n, htr, hw, e⟩ := beginClampTransit_cases
      (s := { s with bank := { s.bank with queue := rest, holder := some (.clamp a) } }) (a := a) waiting
    show BankLaws (beginClampTransit a _)
    rw [e]
    refine (granted.setClamp ⟨fun _ => ?_, fun _ => off⟩ n).close ⟨fun k => absurd k gone, fun k => ?_⟩
      ⟨fun _ => ?_, fun _ => rfl⟩
    · exact (h.placed a).absent (.inl waiting)
    · rw [waits_clamp, setClamp_get_self] at k
      exact absurd (k.symm.trans hw) nofun
    · rw [transits_clamp, setClamp_get_self]
      exact htr
  | gearbox =>
    have hg := (waits_gearbox s).mp waiting
    obtain ⟨ht, hp, -⟩ := h.geared (by rw [hg]; rfl)
    obtain ⟨g, e, hgs, hgt⟩ := beginShift_cases
      (s := { s with bank := { s.bank with queue := rest, holder := some .gearbox } }) hg ht hp
    show BankLaws (beginShift _)
    rw [e]
    refine (granted.setGear fun _ => ⟨by rw [hgt]; exact ht, hp, off⟩).close ⟨fun k => absurd k gone, fun k => ?_⟩
      ⟨fun _ => (transits_gearbox _).mpr hgs, fun _ => rfl⟩
    have := (waits_gearbox _).mp k
    rw [show ({ s with bank := _, gear := g } : State).gear.state = g.state from rfl, hgs] at this
    cases this

/-- A claimant that waits joins the queue. -/
theorem BankBut.claim (h : BankBut c s) (hw : waits s c = true) (ht : transits s c = false) (hq : c ∉ s.bank.queue)
    (hh : s.bank.holder ≠ some c) : BankLaws (claim c s) := by
  rcases claim_cases c s with ⟨k | k, -⟩ | ⟨-, -, e⟩
  · exact absurd k hq
  · exact absurd k hh
  · rw [e]
    refine BankLaws.tryGrant ((h.join hq).close ⟨fun _ => ?_, fun _ => by simp⟩ ⟨fun k => absurd k hh, fun k => ?_⟩)
    · rw [← hw]; exact (waits_congr (fun _ _ => rfl) (fun _ => rfl)).1
    · have := (waits_congr (s := s) (t := { s with bank := { s.bank with queue := s.bank.queue ++ [c] } }) (d := c)
        (fun _ _ => rfl) (fun _ => rfl)).2
      rw [this, ht] at k
      cases k

/-- A claimant that neither waits nor is in transit gives up the bank. -/
theorem BankBut.release (h : BankBut c s) (hw : waits s c = false) (ht : transits s c = false) (hq : c ∉ s.bank.queue) :
    BankLaws (release c s) := by
  rcases release_cases c s with ⟨hh, e⟩ | ⟨hh, e⟩
  · rw [e]
    exact h.close ⟨fun k => absurd k hq, fun k => absurd (hw.symm.trans k) nofun⟩
      ⟨fun k => absurd k hh, fun k => absurd (ht.symm.trans k) nofun⟩
  · rw [e]
    have same := waits_congr (s := s) (t := { s with bank := { s.bank with holder := none } }) (d := c)
      (fun _ _ => rfl) (fun _ => rfl)
    refine BankLaws.tryGrant ((h.letGo hh).close ⟨fun k => absurd k hq, fun k => ?_⟩ ⟨nofun, fun k => ?_⟩)
    · rw [same.1, hw] at k; cases k
    · rw [same.2, ht] at k; cases k

/-! ## Who claims and who holds -/

theorem BankLaws.not_mem (h : BankLaws s) (hw : waits s c = false) : c ∉ s.bank.queue := fun k => by
  rw [(h.bank.2.1 c).mp k] at hw; cases hw

theorem BankLaws.not_holder (h : BankLaws s) (ht : transits s c = false) : s.bank.holder ≠ some c := fun k => by
  rw [(h.bank.2.2 c).mp k] at ht; cases ht

/-- The holder does not wait. -/
theorem BankLaws.not_waits_of_transits (ht : transits s c = true) : waits s c = false := by
  cases c with
  | clamp a =>
    rw [transits_clamp] at ht
    rw [waits_clamp]
    revert ht
    cases (s.clamps.get a).state <;> first | exact fun _ => rfl | exact nofun
  | gearbox =>
    have := (transits_gearbox s).mp ht
    simp only [waits, this]
    rfl

end

end Sys2Proof.Machine

/-! # What the operations of clamps and gearbox keep of the bank's laws -/

namespace Sys2Proof.Machine

-- Many short proofs that wait for the same case splitters: one after the other they need less memory.
set_option Elab.async false

section
variable {s t : State}

/-! ## Clamps -/

theorem BankBut.of_within {c : Claimant} {l : List Part} (h : BankBut c s) (hw : Within l s t)
    (hd : ∀ p ∈ [Part.link, .clamps, .gear, .bank, .store], p ∉ l := by exact of_decide_eq_true rfl) : BankBut c t :=
  Reads.keep (bankBut_reads c) hw h hd

theorem BankLaws.of_within {l : List Part} (h : BankLaws s) (hw : Within l s t)
    (hd : ∀ p ∈ [Part.link, .clamps, .gear, .bank, .store], p ∉ l := by exact of_decide_eq_true rfl) : BankLaws t :=
  Reads.keep bankLaws_reads hw h hd

/-- A state that neither waits nor is in transit. -/
theorem Placed.of_idle {a : ClampAxis} {st : ClampState} (hw : st.waits = false) (ht : st.transits = false)
    (hr : st.rests = false → s.link.state.atRest = false) : Placed s a st :=
  ⟨fun h => by rw [hw, ht] at h; exact absurd h (by decide), hr⟩

theorem Placed.fault (s : State) (a : ClampAxis) : Placed s a .fault := .of_idle rfl rfl nofun

theorem Placed.clamped (s : State) (a : ClampAxis) : Placed s a .clamped := .of_idle rfl rfl nofun

/-- Any state of a clamp in force outside HALTED and OFFLINE. -/
theorem Placed.of_inForce {a : ClampAxis} (hp : clampInForce s a = true) (hl : s.link.state.atRest = false)
    (st : ClampState) : Placed s a st := ⟨fun _ => clampAbsent_eq_false_of_inForce hp, fun _ => hl⟩

theorem Placed.unclamped {a : ClampAxis} (hl : s.link.state.atRest = false) : Placed s a .unclamped :=
  .of_idle rfl rfl fun _ => hl

/-- A claimant that is out of the bank's queue and of its transits, from a state in which it may have been in either. -/
theorem BankLaws.quit (h : BankLaws s) {a : ClampAxis} {st : ClampState} (hp : Placed s a st) (hw : st.waits = false)
    (ht : st.transits = false) (hq : (s.clamps.get a).state.waits = false) (f : Flag) (n : Option Nat) :
    BankLaws (release (.clamp a) (raise f (setClamp a st n s))) := by
  have set := (h.but (.clamp a)).setClamp hp n
  refine (set.of_within (raise_within f _)).release ?_ ?_ (h.not_mem hq)
  · rw [waits_clamp, raise_clamps, setClamp_get_self]; exact hw
  · rw [transits_clamp, raise_clamps, setClamp_get_self]; exact ht

/-- A clamp that waits gives up its claim without a hold. -/
theorem BankLaws.withdrawn (h : BankLaws s) {a : ClampAxis} {st : ClampState} (hp : Placed s a st) (hw : st.waits = false)
    (ht : st.transits = false) (hn : (s.clamps.get a).state.transits = false) (n : Option Nat) :
    BankLaws (setClamp a st n (withdraw (.clamp a) s)) := by
  have but := h.but (.clamp a)
  refine (but.withdraw.setClamp (hp.congr rfl rfl) n).close ⟨fun k => absurd k but.not_mem_withdraw, fun k => ?_⟩
    ⟨fun k => absurd k (h.not_holder hn), fun k => ?_⟩
  · rw [waits_clamp, setClamp_get_self] at k
    exact absurd (hw.symm.trans k) nofun
  · rw [transits_clamp, setClamp_get_self] at k
    exact absurd (ht.symm.trans k) nofun

/-- A clamp outside the bank begins to wait and claims it. -/
theorem BankLaws.wanted (h : BankLaws s) {a : ClampAxis} {st : ClampState} (hp : Placed s a st) (hw : st.waits = true)
    (ht : st.transits = false) (hq : (s.clamps.get a).state.waits = false)
    (hn : (s.clamps.get a).state.transits = false) (n : Option Nat) :
    BankLaws (claim (.clamp a) (setClamp a st n s)) := by
  refine ((h.but (.clamp a)).setClamp hp n).claim ?_ ?_ (h.not_mem hq) (h.not_holder hn)
  · rw [waits_clamp, setClamp_get_self]; exact hw
  · rw [transits_clamp, setClamp_get_self]; exact ht

/-- A clamp outside the bank takes another state outside it. -/
theorem BankLaws.setClamp (h : BankLaws s) {a : ClampAxis} {st : ClampState} (hp : Placed s a st) (hw : st.waits = false)
    (ht : st.transits = false) (hq : (s.clamps.get a).state.waits = false)
    (hn : (s.clamps.get a).state.transits = false) (n : Option Nat) : BankLaws (setClamp a st n s) := by
  refine ((h.but (.clamp a)).setClamp hp n).close ⟨fun k => absurd k (h.not_mem hq), fun k => ?_⟩
    ⟨fun k => absurd k (h.not_holder hn), fun k => ?_⟩
  · rw [waits_clamp, setClamp_get_self] at k
    exact absurd (hw.symm.trans k) nofun
  · rw [transits_clamp, setClamp_get_self] at k
    exact absurd (ht.symm.trans k) nofun

theorem BankLaws.clampToFault (h : BankLaws s) (a : ClampAxis) : BankLaws (clampToFault a s) := by
  rw [clampToFault_eq]
  have set := ((h.but (.clamp a)).setClamp (.fault s a) none).of_within (raise_within .clampFault _)
  refine (set.withdraw.of_within (pendantClampFault_within a _)).release ?_ ?_ ?_
  · rw [waits_clamp, (pendantClampFault_within a _).same_clamps, withdraw_clamps, raise_clamps, setClamp_get_self]
    rfl
  · rw [transits_clamp, (pendantClampFault_within a _).same_clamps, withdraw_clamps, raise_clamps, setClamp_get_self]
    rfl
  · rw [(pendantClampFault_within a _).same_bank]
    exact set.not_mem_withdraw

theorem BankLaws.clampCeilingEnds (h : BankLaws s) (bounded : ClampState) (a : ClampAxis) :
    BankLaws (clampCeilingEnds bounded a s) := by
  rcases clampCeilingEnds_cases bounded a s with ⟨-, -, e⟩ | ⟨-, e⟩
  · exact e.symm ▸ h.clampToFault a
  · exact e.symm ▸ h

theorem BankLaws.recoverClamp (h : BankLaws s) (a : ClampAxis) : BankLaws (recoverClamp s a) := by
  rcases recoverClamp_cases s a with ⟨-, e⟩ | ⟨hr, e⟩
  · exact e.symm ▸ h
  · simp only [recoverable, Bool.and_eq_true, decide_eq_true_eq] at hr
    obtain ⟨⟨⟨hst, hp⟩, hl⟩, -⟩ := hr
    exact e.symm ▸ h.wanted (.of_inForce hp (by simpa using hl) _) rfl rfl (by rw [hst]; rfl) (by rw [hst]; rfl) _

theorem BankLaws.recoverDropped (h : BankLaws s) (order : List ClampAxis) : BankLaws (recoverDropped order s) :=
  foldl_keeps (fun _ a hs => hs.recoverClamp a) _ h

/-- A waiting clamp or one in transit shows that the part is not at rest. -/
theorem BankLaws.awake (h : BankLaws s) {a : ClampAxis} (hr : (s.clamps.get a).state.rests = false) :
    s.link.state.atRest = false := (h.placed a).rest hr

theorem BankLaws.clampEffect (h : BankLaws s) {a : ClampAxis} {wanted : Bool} (hw : wanted = true →
    s.link.state.atRest = false) (e : ClampEffect a wanted s t) : BankLaws t := by
  cases e
  case none => exact h
  case fault => exact h.clampToFault a
  case want hst hwant hp =>
    exact h.wanted (.of_inForce hp (hw hwant) _) rfl rfl (by rw [hst]; rfl) (by rw [hst]; rfl) _
  case withdrawn hst => exact h.withdrawn (.clamped s a) rfl rfl (by rw [hst]; rfl) _
  case count n => exact h.of_same rfl rfl (fun d => setSettle_state a d n s) rfl rfl rfl rfl
  case unclamped hst =>
    exact h.quit (.unclamped (h.awake (by rw [hst]; rfl))) rfl rfl (by rw [hst]; rfl) _ _
  case clamped hst => exact h.quit (.clamped s a) rfl rfl (by rw [hst]; rfl) _ _
  case reclaim hst _ hp =>
    exact h.wanted (.of_inForce hp (h.awake (by rw [hst]; rfl)) _) rfl rfl (by rw [hst]; rfl) (by rw [hst]; rfl) _
  case kept hst =>
    exact h.withdrawn (.unclamped (h.awake (by rw [hst]; rfl))) rfl rfl (by rw [hst]; rfl) _

/-- A clamp is wanted unclamped in RUNNING alone. -/
theorem awake_of_wantedUnclamped {held : Option CycleFrame} {a : ClampAxis} (h : wantedUnclamped held a s = true) :
    s.link.state.atRest = false := by
  unfold wantedUnclamped at h
  rw [Bool.and_eq_true, decide_eq_true_eq] at h
  rw [h.1]
  rfl

theorem BankLaws.clampWork (h : BankLaws s) (held : Option CycleFrame) (a : ClampAxis) : BankLaws (clampWork held a s) :=
  h.clampEffect awake_of_wantedUnclamped (clampWork_effect held a s)

/-- All clamps at once take states that wait or are in transit as they did. -/
theorem BankLaws.withClamps (h : BankLaws s) {cs : PerClamp ClampSequencer}
    (hw : ∀ a, (cs.get a).state.waits = (s.clamps.get a).state.waits)
    (ht : ∀ a, (cs.get a).state.transits = (s.clamps.get a).state.transits)
    (hp : ∀ a, Placed s a (cs.get a).state) : BankLaws { s with clamps := cs } where
  tables := h.tables
  geared := h.geared.congr rfl rfl rfl rfl
  placed a := (hp a).congr rfl rfl
  bank := by
    obtain ⟨nodup, queue, holder⟩ := h.bank
    refine ⟨nodup, fun d => (queue d).trans ?_, fun d => (holder d).trans ?_⟩
    · cases d with
      | clamp a => rw [waits_clamp, waits_clamp, hw]
      | gearbox => exact Iff.rfl
    · cases d with
      | clamp a => rw [transits_clamp, transits_clamp, ht]
      | gearbox => exact Iff.rfl

theorem BankLaws.clampFirstWork (h : BankLaws s) (order : List ClampAxis) : BankLaws (clampFirstWork order s) := by
  unfold Machine.clampFirstWork
  split
  · refine BankLaws.recoverDropped ?_ order
    have told : BankLaws { s with inputs := { s.inputs with clampsDelivered := true } } :=
      h.of_within (within_inputs s _)
    refine told.withClamps (fun a => ?_) (fun a => ?_) (fun a => ?_)
    all_goals
      rw [PerClamp.get_of]
      dsimp only
      split
    · rename_i k; rw [k.2.1]; rfl
    · rfl
    · rename_i k; rw [k.2.1]; rfl
    · rfl
    · exact .clamped _ a
    · exact told.placed a
  · exact h

/-! ## The gearbox -/

/-- A gearbox outside the bank takes a state outside it, or one that waits or is in transit stays so. -/
theorem BankLaws.setGear (h : BankLaws s) {g : Gearbox} (hg : Geared s g)
    (hw : g.state = .valveWait ↔ s.gear.state = .valveWait) (ht : g.state = .shifting ↔ s.gear.state = .shifting) :
    BankLaws { s with gear := g } := by
  refine ((h.but .gearbox).setGear hg).close ?_ ?_
  · rw [waits_gearbox]; exact ((h.bank.2.1 _).trans (waits_gearbox s)).trans hw.symm
  · rw [transits_gearbox]; exact ((h.bank.2.2 _).trans (transits_gearbox s)).trans ht.symm

/-- Nothing is asked of a gearbox without a change in progress. -/
theorem Geared.idle {g : Gearbox} (h : g.state.changing = false) : Geared s g := fun k => by rw [h] at k; cases k

/-- Neither waiting nor in transit, before and after. -/
theorem BankLaws.setGear_idle (h : BankLaws s) {g : Gearbox} (hg : Geared s g)
    (ho : s.gear.state ≠ .valveWait ∧ s.gear.state ≠ .shifting) (hn : g.state ≠ .valveWait ∧ g.state ≠ .shifting) :
    BankLaws { s with gear := g } :=
  h.setGear hg ⟨fun k => absurd k hn.1, fun k => absurd k ho.1⟩ ⟨fun k => absurd k hn.2, fun k => absurd k ho.2⟩

/-- State and target stand. -/
theorem BankLaws.withGear (h : BankLaws s) {g : Gearbox} (hg : g.state = s.gear.state) (ht : g.target = s.gear.target) :
    BankLaws { s with gear := g } := h.of_same rfl rfl (fun _ => rfl) hg ht rfl rfl

theorem reevaluate_gear_eq (s : State) : ∃ g, reevaluate s = { s with gear := g } ∧ (g.state = .engaged ∨ g.state = .unknown) := by
  rcases reevaluate_cases s with ⟨r, -, e⟩ | ⟨-, e⟩
  · exact ⟨_, e, .inl rfl⟩
  · exact ⟨_, e, .inr rfl⟩

theorem idle_of_reevaluated {g : Gearbox} (h : g.state = .engaged ∨ g.state = .unknown) :
    g.state.changing = false ∧ g.state ≠ .valveWait ∧ g.state ≠ .shifting := by
  rcases h with e | e <;> rw [e] <;> decide

/-- A re-evaluation outside VALVE_WAIT and SHIFTING. -/
theorem BankLaws.reevaluate (h : BankLaws s) (ho : s.gear.state ≠ .valveWait ∧ s.gear.state ≠ .shifting) :
    BankLaws (reevaluate s) := by
  obtain ⟨g, e, hg⟩ := reevaluate_gear_eq s
  obtain ⟨hc, hn⟩ := idle_of_reevaluated hg
  exact e.symm ▸ h.setGear_idle (.idle hc) ho hn

theorem BankLaws.reevaluateKeeping (h : BankLaws s) (ho : s.gear.state ≠ .valveWait ∧ s.gear.state ≠ .shifting) :
    BankLaws (reevaluateKeeping s) := by
  unfold Machine.reevaluateKeeping
  split
  · split
    · exact h
    · exact h.setGear_idle (.idle rfl) ho ⟨nofun, nofun⟩
  · exact h.setGear_idle (.idle rfl) ho ⟨nofun, nofun⟩

/-- The gearbox gives up its claim with its change. -/
theorem BankLaws.withdrawGear (h : BankLaws s) {g : Gearbox} (hc : g.state.changing = false) :
    BankBut .gearbox { withdraw .gearbox s with gear := g } ∧
      waits { withdraw .gearbox s with gear := g } .gearbox = false ∧
      transits { withdraw .gearbox s with gear := g } .gearbox = false := by
  refine ⟨(h.but .gearbox).withdraw.setGear (.idle hc), decide_eq_false ?_, decide_eq_false ?_⟩
  all_goals
    show g.state ≠ _
    intro k
    rw [k] at hc
    cases hc

/-- R104's end of a change gives up whatever claim or hold the gearbox has. -/
theorem BankLaws.abandonChange (h : BankLaws s) : BankLaws (abandonChange s) := by
  obtain ⟨g, e, hg⟩ := reevaluate_gear_eq (withdraw .gearbox { s with gear :=
    { stopGearTimers s.gear with target := none, next := none, output := 0 } })
  obtain ⟨but, hw, ht⟩ := h.withdrawGear (idle_of_reevaluated hg).1
  unfold Machine.abandonChange
  rw [e]
  exact but.release hw ht (h.but .gearbox).not_mem_withdraw

theorem BankLaws.gearCommitted (h : BankLaws s) : BankLaws (gearCommitted s) := by
  unfold Machine.gearCommitted
  split
  · exact h.abandonChange
  · rename_i hg
    exact h.reevaluateKeeping (by rw [hg]; decide)
  · rename_i hg
    exact h.reevaluateKeeping (by rw [hg]; decide)
  all_goals exact h

theorem BankLaws.forkFirstWork (h : BankLaws s) : BankLaws (forkFirstWork s) := by
  unfold Machine.forkFirstWork
  split
  · have copied : BankLaws { s with gear := { s.gear with forks := forkValues s, forksDelivered := true } } :=
      h.withGear rfl rfl
    dsimp only
    split
    case h_1 hg => exact copied.reevaluateKeeping (by dsimp only; rw [hg]; decide)
    case h_2 hg => exact copied.reevaluateKeeping (by dsimp only; rw [hg]; decide)
    case h_7 hg => exact copied.reevaluate (by dsimp only; rw [hg]; decide)
    all_goals exact copied.abandonChange
  · exact h

theorem BankLaws.forksChanged (h : BankLaws s) (f : PerFork Bool) : BankLaws (forksChanged f s) := by
  have changed : BankLaws { s with gear := { s.gear with forks := f } } := h.withGear rfl rfl
  unfold Machine.forksChanged
  dsimp only
  split
  · rename_i hg
    split
    · exact BankLaws.of_within (h.setGear_idle (.idle rfl) (by rw [hg]; decide) (by exact ⟨nofun, nofun⟩)) (raise_within _ _)
    · exact changed
  all_goals first
    | exact changed
    | split
      · exact BankLaws.of_same h rfl rfl (fun _ => rfl) rfl rfl rfl rfl
      · exact changed

theorem BankLaws.forkWork (h : BankLaws s) (i : ForkSwitch) : BankLaws (forkWork i s) := by
  unfold Machine.forkWork
  split
  · split
    · split
      · exact h
      · exact h.forksChanged _
    · exact h
  · exact h

/-- R103's end of a change that has not reached SHIFTING. -/
theorem BankLaws.gearLeaveWork (h : BankLaws s) : BankLaws (gearLeaveWork s) := by
  have left (hg : s.gear.state ≠ .shifting) : BankLaws (Machine.reevaluate (withdraw .gearbox { s with gear :=
      { stopGearTimers { s.gear with next := none } with target := none } })) := by
    obtain ⟨g, e, hr⟩ := reevaluate_gear_eq (withdraw .gearbox { s with gear :=
      { stopGearTimers { s.gear with next := none } with target := none } })
    obtain ⟨but, hw, ht⟩ := h.withdrawGear (idle_of_reevaluated hr).1
    rw [e]
    refine but.close ⟨fun k => absurd k (h.but .gearbox).not_mem_withdraw, fun k => ?_⟩ ⟨fun k => ?_, fun k => ?_⟩
    · exact absurd (hw.symm.trans k) nofun
    · exact absurd ((transits_gearbox s).mp ((h.bank.2.2 _).mp k)) hg
    · exact absurd (ht.symm.trans k) nofun
  unfold Machine.gearLeaveWork
  split
  · dsimp only
    split
    case h_1 hg => exact left (by rw [hg]; decide)
    case h_2 hg => exact left (by rw [hg]; decide)
    case h_3 hg => exact left (by rw [hg]; decide)
    all_goals exact h.withGear rfl rfl
  · exact h

/-- R102: a shift that ends in FAULT gives up the bank. -/
theorem BankLaws.gearToFault (h : BankLaws s) (hg : s.gear.state = .shifting) : BankLaws (gearToFault s) := by
  unfold Machine.gearToFault
  refine BankBut.release (BankBut.of_within ((h.but .gearbox).setGear (.idle rfl)) (raise_within .gearFault _)) rfl rfl ?_
  exact h.not_mem (decide_eq_false (by rw [hg]; decide))

theorem BankLaws.abortTransit (h : BankLaws s) : BankLaws (abortTransit s) := by
  rcases abortTransit_cases s with ⟨-, e⟩ | ⟨a, -, e⟩ | ⟨hh, e⟩
  · exact e.symm ▸ h
  · exact e.symm ▸ h.clampToFault a
  · exact e.symm ▸ h.gearToFault ((transits_gearbox s).mp ((h.bank.2.2 _).mp hh))

theorem BankLaws.pressureWork (h : BankLaws s) : BankLaws (pressureWork s) := by
  have noted (d : Nat) (ok : Bool) : BankLaws { s with bank := { s.bank with disagree := d, pressureOk := ok } } :=
    h.of_same rfl rfl (fun _ => rfl) rfl rfl rfl rfl
  have effect {t : State} (e : PressureEffect s t) : BankLaws t := by
    cases e
    case none => exact h
    case count n => exact noted n s.bank.pressureOk
    case good => exact (noted 0 true).tryGrant
    case low => exact ((noted 0 false).of_within (raise_within _ _)).abortTransit
  exact effect (pressureWork_effect s)

/-- R98: the drained gearbox claims the bank. -/
theorem BankLaws.enterValveWait (h : BankLaws s) (hg : s.gear.state = .draining) : BankLaws (enterValveWait s) := by
  have hc := h.geared (by rw [hg]; rfl)
  unfold Machine.enterValveWait
  have waiting : BankBut .gearbox { s with gear := { s.gear with state := .valveWait, drainCeiling := none } } :=
    (h.but .gearbox).setGear (fun _ => hc)
  refine waiting.claim rfl rfl (h.not_mem ?_) (h.not_holder ?_)
  · exact decide_eq_false (by rw [hg]; decide)
  · exact decide_eq_false (by rw [hg]; decide)

theorem BankLaws.drainCeilingEnds (h : BankLaws s) : BankLaws (drainCeilingEnds s) := by
  unfold Machine.drainCeilingEnds
  split
  · rename_i hd
    exact h.enterValveWait hd.1
  · exact h

theorem BankLaws.shiftCeilingEnds (h : BankLaws s) : BankLaws (shiftCeilingEnds s) := by
  unfold Machine.shiftCeilingEnds
  split
  · rename_i hd
    exact h.gearToFault hd.1
  · exact h

/-- A request to a part with a gear table that is not at rest. -/
theorem BankLaws.actOnRequest (h : BankLaws s) (hp : present s .gear = true) (hl : s.link.state.atRest = false)
    (r : Range) : BankLaws (actOnRequest r s) := by
  have begun (hg : s.gear.state ≠ .valveWait ∧ s.gear.state ≠ .shifting) : BankLaws (beginChange r s) :=
    BankLaws.of_within (h.setGear_idle (fun _ => ⟨rfl, hp, hl⟩) hg (by exact ⟨nofun, nofun⟩)) (announce_within _ _)
  have aimed : BankLaws { s with gear := { s.gear with target := some r } } :=
    h.setGear (fun _ => ⟨rfl, hp, hl⟩) Iff.rfl Iff.rfl
  unfold Machine.actOnRequest
  split
  case h_1 hg =>
    split
    · exact h.of_within (raise_within _ _)
    · exact begun (by rw [hg]; decide)
  case h_2 hg => exact begun (by rw [hg]; decide)
  case h_6 => exact h.withGear rfl rfl
  case h_7 => exact h.of_within (raise_within _ _)
  all_goals exact aimed

/-- In RUNNING every table is present. -/
theorem BankLaws.gear_present (h : BankLaws s) (hr : s.link.state = .running) : present s .gear = true := by
  have all := h.tables (by rw [hr]; rfl)
  exact List.all_eq_true.mp all .gear (by decide)

theorem BankLaws.rangeRequestWork (h : BankLaws s) (f : CycleFrame) : BankLaws (rangeRequestWork f s) := by
  have noted : BankLaws { s with gear := { s.gear with lastRequest := rangeOfNat f.range.toNat } } := h.withGear rfl rfl
  unfold Machine.rangeRequestWork
  dsimp only
  split
  · split
    · rename_i hr
      exact noted.actOnRequest (h.gear_present hr.2) (by rw [show _ = _ from hr.2]; rfl) _
    · exact noted
  · exact noted

/-- R52's trigger at the end of a change, where it is due. -/
theorem growth_within (differs : Bool) (s : State) :
    Within [.comp] s (if differs = true then enabledTrigger 1 s else s) := by
  split
  · exact enabledTrigger_within 1 s
  · exact .refl _ s

theorem BankLaws.completeShift (h : BankLaws s) (hg : s.gear.state = .shifting) : BankLaws (completeShift s) := by
  obtain ⟨-, hp, hl⟩ := h.geared (by rw [hg]; rfl)
  rcases completeShift_cases s with ⟨-, e⟩ | ⟨r, u, -, hu, he⟩
  · exact e.symm ▸ h
  have hw := ((shiftCompleted_within r s).comp (settleTriggers_within [] _)).comp
    (shiftReleased_within (decide (s.gear.engaged ≠ some r)) _)
  have ended : BankBut .gearbox (settleTriggers [] (shiftCompleted r s)) :=
    BankBut.of_within ((h.but .gearbox).setGear (.idle rfl)) (((raise_within _ _).comp (announce_within _ _)).comp
      (settleTriggers_within [] _))
  have hu' : BankLaws u := by
    have w := growth_within (decide (s.gear.engaged ≠ some r)) (settleTriggers [] (shiftCompleted r s))
    have hgear := w.same_gear.trans (settleTriggers_within [] (shiftCompleted r s)).same_gear
    rw [hu]
    unfold shiftReleased
    refine (ended.of_within w).release (decide_eq_false ?_) (decide_eq_false ?_) ?_
    · rw [hgear]; exact nofun
    · rw [hgear]; exact nofun
    · rw [w.same_bank, ((shiftCompleted_within r s).comp (settleTriggers_within [] _)).same_bank]
      exact h.not_mem (decide_eq_false (by rw [hg]; decide))
  rcases he with ⟨-, e⟩ | ⟨q, -, e⟩
  · exact e.symm ▸ hu'
  · rw [e]
    refine hu'.actOnRequest ?_ ?_ q
    · rw [hu, present_congr hw.same_store]; exact hp
    · rw [hu, hw.same_link]; exact hl

theorem BankLaws.gearStageWork (h : BankLaws s) : BankLaws (gearStageWork s) := by
  rcases gearStageWork_cases s with e | ⟨bs, r, -, hg, -, -, e⟩ | ⟨bs, -, hg, e⟩ | ⟨bs, n, -, -, e⟩ | ⟨bs, n, -, hg, -, e⟩
  · exact e.symm ▸ h
  · exact e.symm ▸ h.setGear_idle (.idle rfl) (by rw [hg]; decide) ⟨nofun, nofun⟩
  · exact e.symm ▸ h.enterValveWait hg
  · exact e.symm ▸ h.withGear rfl rfl
  · have counted : BankLaws { s with gear := { s.gear with settle := n } } := h.withGear rfl rfl
    exact e.symm ▸ counted.completeShift hg

/-- R97: the spindle's stop ends STOPPING_SPINDLE. -/
theorem BankLaws.enterDraining (h : BankLaws s) : BankLaws (enterDraining s) := by
  unfold Machine.enterDraining
  split
  · split
    · rename_i hd
      have hc := h.geared (by rw [hd.1]; rfl)
      exact h.setGear_idle (fun _ => hc) (by rw [hd.1]; decide) ⟨nofun, nofun⟩
    · exact h
  · exact h

theorem BankLaws.spindleOutputWork (h : BankLaws s) (held : Option CycleFrame) : BankLaws (spindleOutputWork held s) :=
  BankLaws.enterDraining (h.withGear rfl rfl)

theorem BankLaws.spindleAnnounceWork (h : BankLaws s) : BankLaws (spindleAnnounceWork s) := by
  have noted : BankLaws { s with gear := { s.gear with runValue := runValueOf s } } := h.withGear rfl rfl
  unfold Machine.spindleAnnounceWork
  dsimp only
  split
  · exact noted.of_within ((growthSpindleStart_within _).comp (announce_within _ _))
  · split
    · exact noted.of_within ((growthSpindleStop_within _).comp (announce_within _ _))
    · exact noted

theorem BankLaws.wiggleEnds (h : BankLaws s) : BankLaws (wiggleEnds s) := by
  unfold Machine.wiggleEnds
  split
  · exact h.withGear rfl rfl
  · exact h

theorem BankLaws.interlockWork (h : BankLaws s) (taken : Option CycleFrame) : BankLaws (interlockWork taken s) := by
  unfold Machine.interlockWork
  split
  · split
    · exact h.withGear rfl rfl
    · exact h
  · exact h

/-! ## COMMIT of the clamp and hydraulic table (R83) -/

/-- A claim survives the withdrawals unless its clamp is ABSENT. -/
theorem mem_foldl_dropAbsentClaim (l : List ClampAxis) (hn : s.bank.queue.Nodup) (d : Claimant) :
    (l.foldl dropAbsentClaim s).bank.queue.Nodup ∧ (d ∈ (l.foldl dropAbsentClaim s).bank.queue ↔
      d ∈ s.bank.queue ∧ ∀ a ∈ l, clampAbsent s a = true → d ≠ .clamp a) := by
  induction l generalizing s with
  | nil => exact ⟨hn, by simp⟩
  | cons a l ih =>
    have hs : (dropAbsentClaim s a).store = s.store := (dropAbsentClaim_within s a).same_store
    have step : (dropAbsentClaim s a).bank.queue.Nodup ∧ (d ∈ (dropAbsentClaim s a).bank.queue ↔
        d ∈ s.bank.queue ∧ (clampAbsent s a = true → d ≠ .clamp a)) := by
      unfold dropAbsentClaim
      split
      · rename_i ha
        refine ⟨hn.erase _, ?_⟩
        show d ∈ s.bank.queue.erase (.clamp a) ↔ _
        rw [hn.mem_erase_iff]
        exact ⟨fun k => ⟨k.2, fun _ => k.1⟩, fun k => ⟨k.2 ha, k.1⟩⟩
      · rename_i ha
        exact ⟨hn, fun k => ⟨k, fun k' => absurd k' ha⟩, fun k => k.1⟩
    obtain ⟨nodup, mem⟩ := ih step.1
    refine ⟨nodup, mem.trans ?_⟩
    rw [step.2, List.forall_mem_cons]
    constructor
    · rintro ⟨⟨hq, ha⟩, hl⟩
      exact ⟨hq, ha, fun e he k => hl e he (by rw [clampAbsent_congr hs]; exact k)⟩
    · rintro ⟨hq, ha, hl⟩
      exact ⟨⟨hq, ha⟩, fun e he k => hl e he (by rw [clampAbsent_congr hs] at k; exact k)⟩

/-- R83: a clamp that the new table makes ABSENT is out of the bank, and one that it keeps claims or moves as before. -/
theorem committedClamp_busy {before : Option Bool} (after : Bool) (r : SwitchReading) {c : ClampSequencer}
    (hc : before = some false → c.state.waits = false ∧ c.state.transits = false) :
    (committedClamp before after r c).state.waits = (after && c.state.waits) ∧
      (committedClamp before after r c).state.transits = (after && c.state.transits) := by
  cases after with
  | false => exact ⟨rfl, rfl⟩
  | true =>
    rcases before with _ | _ | _
    · exact ⟨rfl, rfl⟩
    · obtain ⟨hw, ht⟩ := hc rfl
      rw [hw, ht]
      unfold committedClamp
      dsimp only
      by_cases hr : r = .clampedConfirm
      · simp only [hr, if_true]
        exact ⟨rfl, rfl⟩
      · simp only [hr, if_false, if_true]
        exact ⟨rfl, rfl⟩
    · exact ⟨rfl, rfl⟩

theorem activeBytes_setActive_self (q : TableId) (img : Image) (s : State) :
    activeBytes (setActive q img s) q = some img.bytes := by
  unfold activeBytes setActive
  rw [PerTable.get_set_self]
  rfl

/-- The record before the COMMIT said ABSENT. -/
theorem clampAbsent_of_before {a : ClampAxis} (h : (activeBytes s .clamp).map (clampRecordPresent · a) = some false) :
    clampAbsent s a = true := by
  unfold clampAbsent
  cases hb : activeBytes s .clamp with
  | none => rw [hb] at h; cases h
  | some bs =>
    rw [hb] at h
    show (!clampRecordPresent bs a) = true
    rw [show clampRecordPresent bs a = false from Option.some.inj h]
    rfl

/-- With the table present a record is in force or ABSENT. -/
theorem clampInForce_eq_not_absent {bs : List Byte} (h : activeBytes s .clamp = some bs) (a : ClampAxis) :
    clampInForce s a = !clampAbsent s a := by
  unfold clampInForce clampAbsent
  rw [h]
  exact (Bool.not_not _).symm

/-- A table that becomes active takes no table away. -/
theorem allPresent_setActive (q : TableId) (img : Image) (h : allPresent s = true) : allPresent (setActive q img s) = true :=
  List.all_eq_true.mpr fun t ht => present_setActive q img (List.all_eq_true.mp h t ht)

/-- The sequencers and the queue of a passing COMMIT, before a holder that became ABSENT gives up the bank. -/
def clampsCommitted (old : Option (List Byte)) (s : State) : State :=
  { allClamps.foldl dropAbsentClaim s with
    clamps := PerClamp.of fun a => committedClamp (old.map (clampRecordPresent · a))
      (clampInForce (allClamps.foldl dropAbsentClaim s) a) ((allClamps.foldl dropAbsentClaim s).seen.reading.get a)
      ((allClamps.foldl dropAbsentClaim s).clamps.get a)
    bank := { (allClamps.foldl dropAbsentClaim s).bank with disagree := 0 } }

theorem clampTableCommitted_eq (old : Option (List Byte)) (order : List ClampAxis) (s : State) :
    clampTableCommitted old order s = recoverDropped order (match (clampsCommitted old s).bank.holder with
      | some (.clamp a) => if clampAbsent (clampsCommitted old s) a then release (.clamp a) (clampsCommitted old s)
          else clampsCommitted old s
      | some .gearbox | none => clampsCommitted old s) := rfl

end

/-! The COMMIT's state `clampsCommitted` against that before it. -/

section
variable {old : Option (List Byte)} {s : State}

theorem clampsCommitted_within (old : Option (List Byte)) (s : State) :
    Within [.clamps, .bank] s (clampsCommitted old s) :=
  ((foldl_within dropAbsentClaim_within allClamps s).comp (within_clamps_bank _ _ _)).mono (by decide)

theorem clampsCommitted_holder : (clampsCommitted old s).bank.holder = s.bank.holder := by
  show (allClamps.foldl dropAbsentClaim s).bank.holder = s.bank.holder
  have kept := foldl_keeps (P := fun u => u.bank.holder = s.bank.holder) (f := dropAbsentClaim)
    (fun u a hu => by
      unfold dropAbsentClaim
      split
      · exact hu
      · exact hu) allClamps rfl
  exact kept

/-- A claim stands unless its clamp is now ABSENT. -/
theorem mem_clampsCommitted (hn : s.bank.queue.Nodup) (d : Claimant) : (clampsCommitted old s).bank.queue.Nodup ∧
    (d ∈ (clampsCommitted old s).bank.queue ↔ d ∈ s.bank.queue ∧ ∀ a, clampAbsent s a = true → d ≠ .clamp a) := by
  obtain ⟨nodup, mem⟩ := mem_foldl_dropAbsentClaim allClamps hn d
  have all (a : ClampAxis) : a ∈ allClamps := by cases a <;> decide
  exact ⟨nodup, mem.trans ⟨fun k => ⟨k.1, fun a => k.2 a (all a)⟩, fun k => ⟨k.1, fun a _ => k.2 a⟩⟩⟩

/-- A clamp that stays waits and moves as before, and one that is now ABSENT does neither. -/
theorem clampsCommitted_busy (a : ClampAxis) (ho : old.map (clampRecordPresent · a) = some false →
      (s.clamps.get a).state.waits = false ∧ (s.clamps.get a).state.transits = false) :
    ((clampsCommitted old s).clamps.get a).state.waits = (clampInForce s a && (s.clamps.get a).state.waits) ∧
      ((clampsCommitted old s).clamps.get a).state.transits = (clampInForce s a && (s.clamps.get a).state.transits) := by
  have w := foldl_within dropAbsentClaim_within allClamps s
  have hf : clampInForce (allClamps.foldl dropAbsentClaim s) a = clampInForce s a := by
    unfold clampInForce
    rw [activeBytes_congr w.same_store]
  unfold clampsCommitted
  dsimp only
  rw [PerClamp.get_of, hf, w.same_clamps]
  exact committedClamp_busy _ _ ho

end

/-- R83: the sequencers that become ABSENT leave the bank, and the others stand in it as they stood. -/
theorem BankLaws.clampTableCommitted {s : State} (h : BankLaws s) (hl : s.link.state = .standby) (bytes : List Byte)
    (order : List ClampAxis) :
    BankLaws (clampTableCommitted (activeBytes s .clamp) order (setActive .clamp (imageOf bytes) s)) := by
  set v := setActive .clamp (imageOf bytes) s with hv
  set u := clampsCommitted (activeBytes s .clamp) v with hu
  have w : Within [.clamps, .bank] v u := clampsCommitted_within _ v
  have habs (a : ClampAxis) : clampAbsent u a = clampAbsent v a := clampAbsent_congr w.same_store a
  have hforce (a : ClampAxis) : clampInForce v a = !clampAbsent u a := by
    rw [habs]; exact clampInForce_eq_not_absent (activeBytes_setActive_self .clamp _ s) a
  have busy (a : ClampAxis) : waits u (.clamp a) = (!clampAbsent u a && waits s (.clamp a)) ∧
      transits u (.clamp a) = (!clampAbsent u a && transits s (.clamp a)) := by
    have b := clampsCommitted_busy (old := activeBytes s .clamp) (s := v) a fun k => by
      have idle := mt (h.placed a).absent (by rw [clampAbsent_of_before k]; decide)
      simp only [not_or, Bool.not_eq_true] at idle
      exact idle
    rw [hforce] at b
    exact b
  have mem (d : Claimant) := mem_clampsCommitted (old := activeBytes s .clamp) (s := v) h.bank.1 d
  have hgear : u.gear = s.gear := w.same_gear
  have hlink : u.link.state = .standby := (congrArg Link.state w.same_link).trans hl
  have hholder : u.bank.holder = s.bank.holder := clampsCommitted_holder
  have stays (a : ClampAxis) (p : Bool) : (!clampAbsent u a && p) = true ↔
      p = true ∧ ∀ e, clampAbsent u e = true → Claimant.clamp a ≠ .clamp e := by
    rw [Bool.and_eq_true, Bool.not_eq_true', and_comm]
    refine and_congr_right fun _ => ⟨fun k e he ha => ?_, fun k => ?_⟩
    · rw [← Claimant.clamp.inj ha, k] at he; cases he
    · by_contra ha
      exact k a (by simpa using ha) rfl
  have waitsView (d : Claimant) : waits u d = true ↔ waits s d = true ∧ ∀ a, clampAbsent u a = true → d ≠ .clamp a := by
    cases d with
    | clamp a => rw [(busy a).1]; exact stays a _
    | gearbox => rw [waits_gearbox, waits_gearbox, hgear]; exact ⟨fun k => ⟨k, fun _ _ => nofun⟩, fun k => k.1⟩
  have transitsView (d : Claimant) :
      transits u d = true ↔ transits s d = true ∧ ∀ a, clampAbsent u a = true → d ≠ .clamp a := by
    cases d with
    | clamp a => rw [(busy a).2]; exact stays a _
    | gearbox => rw [transits_gearbox, transits_gearbox, hgear]; exact ⟨fun k => ⟨k, fun _ _ => nofun⟩, fun k => k.1⟩
  have absent_idle {a : ClampAxis} (ha : clampAbsent u a = true) :
      waits u (.clamp a) = false ∧ transits u (.clamp a) = false := by
    have b := busy a
    rw [ha] at b
    exact b
  have queued (d : Claimant) : d ∈ u.bank.queue ↔ waits u d = true := by
    rw [(mem d).2, waitsView, ← h.bank.2.1 d]
    simp only [habs]
    exact Iff.rfl
  have but (c : Claimant) (hc : ∀ a, clampAbsent u a = true → s.bank.holder = some (.clamp a) → c = .clamp a) :
      BankBut c u := by
    refine ⟨fun k => ?_, fun k => ?_, fun a => ⟨fun k => ?_, fun _ => by rw [hlink]; rfl⟩, (mem c).1,
      fun d _ => queued d, fun d hd => ?_⟩
    · rw [hlink] at k; cases k
    · rw [hgear] at k ⊢
      obtain ⟨ht, hp, -⟩ := h.geared k
      refine ⟨ht, ?_, by rw [hlink]; rfl⟩
      rw [present_congr w.same_store]
      exact present_setActive _ _ hp
    · by_contra ha
      obtain ⟨hw, ht⟩ := absent_idle (by simpa using ha)
      rcases k with k | k
      · exact absurd (hw.symm.trans k) nofun
      · exact absurd (ht.symm.trans k) nofun
    · rw [transitsView, ← h.bank.2.2 d, hholder]
      exact ⟨fun k => ⟨k, fun a ha e => hd ((hc a ha (e ▸ k)).trans e.symm ▸ rfl)⟩, fun k => k.1⟩
  have held (c : Claimant) (hc : ∀ a, clampAbsent u a = true → s.bank.holder ≠ some (.clamp a)) : BankLaws u :=
    (but c fun a ha k => absurd k (hc a ha)).close (queued c) (by
      rw [transitsView, ← h.bank.2.2 c, hholder]
      exact ⟨fun k => ⟨k, fun a ha e => hc a ha (e ▸ k)⟩, fun k => k.1⟩)
  rw [clampTableCommitted_eq]
  refine BankLaws.recoverDropped ?_ order
  split
  · rename_i a ha
    rw [← hu, hholder] at ha
    split
    · rename_i k
      obtain ⟨hw, ht⟩ := absent_idle k
      refine (but (.clamp a) fun e _ he => ?_).release hw ht fun hm => ?_
      · rw [ha] at he; exact Option.some.inj he
      · rw [(queued _).mp hm] at hw; cases hw
    · rename_i k
      refine held (.clamp a) fun e he hh => k ?_
      rw [ha] at hh
      rw [Claimant.clamp.inj (Option.some.inj hh)]
      exact he
  · rename_i ha
    rw [← hu, hholder] at ha
    exact held .gearbox fun e _ hh => by rw [ha] at hh; cases hh
  · rename_i ha
    rw [← hu, hholder] at ha
    exact held .gearbox fun e _ hh => by rw [ha] at hh; cases hh

end Sys2Proof.Machine

/-! # The laws of the bank at every command -/

namespace Sys2Proof.Machine

-- Many short proofs that wait for the same case splitters: one after the other they need less memory.
set_option Elab.async false

/-! ## A taken frame ends no link -/

section
variable {s : State}

/-- Outside OFFLINE and without a miss. -/
def OnLink (s : State) : Prop := s.link.state ≠ .offline ∧ s.link.missCount = 0

theorem OnLink.enterHalted (h : OnLink s) (cause : HaltCause) : OnLink (enterHalted cause s) := by
  unfold OnLink
  rw [enterHalted_link]
  exact ⟨nofun, h.2⟩

theorem OnLink.halt (h : OnLink s) (cause : HaltCause) : OnLink (halt cause s) := by
  rcases halt_cases cause s with ⟨-, e⟩ | ⟨-, e⟩
  · exact e.symm ▸ h.enterHalted cause
  · exact e.symm ▸ h

theorem OnLink.chainWork (h : OnLink s) : OnLink (chainWork s) := by
  rcases chainWork_cases s with ⟨n, e⟩ | ⟨-, -, e⟩
  · exact e.symm ▸ h
  · exact e.symm ▸ OnLink.halt (s := { s with link := { s.link with chainMiss := 3 } }) h _

theorem OnLink.endWork (h : OnLink s) (order : List ClampAxis) : OnLink (endWork order s) := by
  rcases endWork_cases order s with ⟨-, -, e⟩ | ⟨-, -, hm, -⟩ | ⟨-, e⟩
  · rw [e]
    unfold OnLink
    rw [raise_link, enterStandby_link]
    exact ⟨nofun, h.2⟩
  · exact absurd h.2 hm
  · exact e.symm ▸ h

theorem OnLink.followingWork (h : OnLink s) : OnLink (followingWork s) := by
  rcases followingWork_cases s with ⟨-, -, e⟩ | ⟨-, e⟩
  · exact e.symm ▸ h.enterHalted _
  · exact e.symm ▸ h

theorem OnLink.linkService (h : OnLink s) (k : ServiceKind) (body : List Byte) (order : List ClampAxis) :
    OnLink (linkService k body order s) := by
  obtain ⟨u, hw, hu⟩ := linkService_cases k body order s
  have hon : OnLink u := by
    rcases hu with rfl | ⟨-, -, -, p, rfl⟩ | ⟨-, -, rfl⟩ | ⟨-, -, -, rfl⟩
    · exact h
    · exact ⟨nofun, h.2⟩
    · unfold OnLink
      rw [leaveRunning_link]
      exact ⟨nofun, h.2⟩
    · unfold OnLink
      rw [enterStandby_link]
      exact ⟨nofun, h.2⟩
  unfold OnLink
  rw [hw.same_link]
  exact hon

/-- No frame is taken in OFFLINE. -/
theorem not_offline_of_taken {inp : ExpiryInput} {f : CycleFrame} (h : takenAt inp s = some f) :
    s.link.state ≠ .offline := by
  intro hl
  have : takenAt inp s = none := if_pos hl
  rw [this] at h
  cases h

/-- R5: a taken frame ends the misses, and none of the stage's transitions then ends in OFFLINE. -/
theorem onLink_linkStage (f : CycleFrame) (r : Record) (order : List ClampAxis) (hs : s.link.state ≠ .offline) :
    OnLink (linkStage (some f) r order s) := by
  have worked : OnLink (linkWork (some f) order { s with sent := { s.sent with answer := noAnswer } }) :=
    ((OnLink.chainWork (s := slotWork (some f) { s with sent := { s.sent with answer := noAnswer } })
      ⟨hs, rfl⟩).endWork order).followingWork
  unfold linkStage OnLink
  rw [(settleTriggers_within [] _).same_link]
  dsimp only
  generalize linkWork (some f) order { s with sent := { s.sent with answer := noAnswer } } = u at worked
  have unknown : OnLink (if unknownRecord f then answerUnknown f.kind u else u) := by
    split
    · unfold OnLink
      rw [(answerUnknown_within _ _).same_link]
      exact worked
    · exact worked
  split
  · exact unknown.linkService _ _ _
  · exact unknown

theorem onLink_of_taken {inp : ExpiryInput} {f : CycleFrame} (h : takenAt inp s = some f) : OnLink (linkedAt inp s) := by
  unfold linkedAt
  rw [h]
  have hs := not_offline_of_taken h
  exact onLink_linkStage f _ _ (s := passTime inp.clock s) hs

/-- An expiry that ends in OFFLINE has taken no service. -/
theorem recordAt_of_offline {inp : ExpiryInput} (h : (linkedAt inp s).link.state = .offline) : recordAt inp s = none := by
  cases ht : takenAt inp s with
  | none => unfold recordAt; rw [ht]; rfl
  | some f => exact absurd h (onLink_of_taken ht).1

end

/-! ## The laws at rest, across the link states and across a COMMIT -/

section
variable {s t : State}

/-- With nothing at the bank and drive enable OFF. -/
theorem BankLaws.of_rest (hl : t.link.state.enabled = false) (hg : t.gear.state.changing = false)
    (hc : ∀ a, (t.clamps.get a).state.rests = true) (hq : t.bank.queue = []) (hh : t.bank.holder = none) : BankLaws t := by
  have idle (a : ClampAxis) : waits t (.clamp a) = false ∧ transits t (.clamp a) = false := by
    have := hc a
    rw [waits_clamp, transits_clamp]
    revert this
    cases (t.clamps.get a).state <;> first | exact fun _ => ⟨rfl, rfl⟩ | exact nofun
  have out (d : Claimant) : waits t d = false ∧ transits t d = false := by
    cases d with
    | clamp a => exact idle a
    | gearbox =>
      refine ⟨decide_eq_false fun k => ?_, decide_eq_false fun k => ?_⟩
      · rw [k] at hg; cases hg
      · rw [k] at hg; cases hg
  refine ⟨fun k => ?_, .idle hg, fun a => .of_idle (idle a).1 (idle a).2 fun k => ?_, ?_, fun d => ?_, fun d => ?_⟩
  · rw [hl] at k; cases k
  · rw [hc a] at k; cases k
  · rw [hq]; exact List.nodup_nil
  · rw [hq, (out d).1]; simp
  · rw [hh, (out d).2]; simp

/-- A change of the link record that brings the part neither to rest nor to drive enable without its tables. -/
theorem BankLaws.withLink (h : BankLaws s) {l : Link} (ht : l.state.enabled = true → allPresent s = true)
    (hr : l.state.atRest = true → s.link.state.atRest = true) : BankLaws { s with link := l } := by
  have awake (k : s.link.state.atRest = false) : l.state.atRest = false := by
    by_contra hn
    rw [hr (by simpa using hn)] at k
    cases k
  refine ⟨ht, fun k => ?_, fun a => ⟨(h.placed a).absent, fun k => awake ((h.placed a).rest k)⟩, h.bank⟩
  obtain ⟨htarget, hp, hl⟩ := h.geared k
  exact ⟨htarget, hp, awake hl⟩

theorem enterRest_bankLaws (st : LinkState) (hr : st.atRest = true) (s : State) : BankLaws (enterRest st s) := by
  have hb := enterRest_bank st s
  refine .of_rest ?_ (enterRest_changing st s) (fun a => ?_) (by rw [hb]) (by rw [hb])
  · rw [enterRest_link]
    cases st <;> first | rfl | cases hr
  · rw [enterRest_clamps]
    dsimp only
    cases (s.clamps.get a).state <;> rfl

theorem bankLaws_link : LinkKept BankLaws where
  quiet l s hst _ _ h := h.of_same hst rfl (fun _ => rfl) rfl rfl rfl rfl
  raise f _ h := h.of_within (raise_within f _)
  estop _ _ h := h.of_within (within_inputs _ _)
  rest st s hr _ := enterRest_bankLaws st hr s
  standby order s _ _ h := by
    have linked : BankLaws { s with link := disabledLink .standby s.link } := h.withLink nofun nofun
    exact (linked.of_within ((clearAxes_within _).comp (coolantResume_within _))).recoverDropped order
  activating p s _ hp h := by
    unfold enterActivating
    exact BankLaws.of_within (h.withLink (fun _ => hp) (by exact nofun)) (clearAxes_within _)
  running {s} hl _ h := by
    have linked : BankLaws { s with link := { s.link with state := .running, activation := none } } :=
      h.withLink (fun _ => h.tables (by rw [hl]; rfl)) nofun
    have started := linked.of_within (startAxes_within _)
    have geared : BankLaws { startAxes { s with link := { s.link with state := .running, activation := none } } with
      gear := { s.gear with interlock := true, lastRequest := none } } := started.withGear rfl rfl
    exact geared.of_within (within_pendant _ _)
  leave st s hst hl h := by
    have linked : BankLaws { s with link := { s.link with state := st } } :=
      h.withLink (fun _ => h.tables (by rw [hl]; rfl)) (by rcases hst with rfl | rfl <;> exact nofun)
    exact linked.of_within ((endGrant_within _).comp (announce_within _ _))
  lost {s} hl h := h.withLink (fun _ => h.tables (by rw [hl]; rfl)) nofun

/-- Work of the table store that leaves the active copies. -/
theorem BankLaws.of_active (h : BankLaws s) {l : List Part} (hw : Within l s t) (ha : t.store.active = s.store.active)
    (hd : ∀ p ∈ [Part.link, .clamps, .gear, .bank], p ∉ l := by exact of_decide_eq_true rfl) : BankLaws t := by
  have hg : t.gear = s.gear := hw .gear (hd _ (by decide))
  have hb : t.bank = s.bank := hw .bank (hd _ (by decide))
  exact h.of_same (by rw [(hw .link (hd _ (by decide)) : _ = _)]) ha
    (fun a => by rw [(hw .clamps (hd _ (by decide)) : _ = _)]) (by rw [hg]) (by rw [hg]) (by rw [hb]) (by rw [hb])

/-- A table of another block becomes active. -/
theorem BankLaws.setActive (h : BankLaws s) {q : TableId} (hq : q ≠ .clamp) (img : Image) : BankLaws (setActive q img s) := by
  have hb : activeBytes (Machine.setActive q img s) .clamp = activeBytes s .clamp := by
    unfold activeBytes Machine.setActive
    dsimp only
    rw [PerTable.get_set_ne _ _ (Ne.symm hq)]
  refine ⟨fun k => allPresent_setActive q img (h.tables k), fun k => ?_, fun a => ⟨fun k => ?_, (h.placed a).rest⟩, h.bank⟩
  · obtain ⟨ht, hp, hl⟩ := h.geared k
    exact ⟨ht, present_setActive q img hp, hl⟩
  · unfold clampAbsent
    rw [hb]
    exact (h.placed a).absent k

theorem BankLaws.commitEffects (h : BankLaws s) (hl : s.link.state = .standby) (q : TableId) (bytes : List Byte)
    (order : List ClampAxis) :
    BankLaws (commitEffects q (activeBytes s q) order (Machine.setActive q (imageOf bytes) s)) := by
  cases q
  case clamp => exact h.clampTableCommitted hl bytes order
  case envelope => exact h.setActive (by decide) _
  case compensation => exact (h.setActive (by decide) _).of_within (compensationCommitted_within _)
  case gear => exact (h.setActive (by decide) _).gearCommitted
  case programs => exact (h.setActive (by decide) _).of_within (programsCommitted_within _)
  case triggers => exact (h.setActive (by decide) _).of_within (triggersCommitted_within _)
  case pendant => exact (h.setActive (by decide) _).of_within (pendantCommitted_within _)
  case inputs => exact h.setActive (by decide) _

/-- R80: outside HALTED and OFFLINE the switches may show a faulted clamp UNCLAMPED. -/
theorem BankLaws.clearClampFault (h : BankLaws s) {a : ClampAxis} (hf : (s.clamps.get a).state = .fault)
    (hl : s.link.state ≠ .offline) : BankLaws (clearClampFault a s) := by
  have cleared (r : SwitchReading) :
      (clearedClampState (decide (s.link.state = .halted)) r).waits = false ∧
      (clearedClampState (decide (s.link.state = .halted)) r).transits = false ∧
      ((clearedClampState (decide (s.link.state = .halted)) r).rests = false → s.link.state.atRest = false) := by
    cases r
    case unclampedConfirm =>
      unfold clearedClampState
      cases hs : s.link.state
      case halted => exact ⟨rfl, rfl, nofun⟩
      case offline => exact absurd hs hl
      all_goals exact ⟨rfl, rfl, fun _ => rfl⟩
    all_goals exact ⟨rfl, rfl, nofun⟩
  obtain ⟨hw, ht, hr⟩ := cleared (s.seen.reading.get a)
  exact h.setClamp (.of_idle hw ht hr) hw ht (by rw [hf]; rfl) (by rw [hf]; rfl) none

theorem BankLaws.effect {order : List ClampAxis} (h : BankLaws s) (hl : s.link.state ≠ .offline)
    (e : BlockEffect order s t) : BankLaws t := by
  cases e
  case none => exact h
  case write => exact h.of_same rfl rfl (fun _ => rfl) rfl rfl rfl rfl
  case commit q hs _ _ => exact h.commitEffects hs q _ order
  case store => exact h.of_same rfl rfl (fun _ => rfl) rfl rfl rfl rfl
  case flags hw => exact h.of_within hw
  case trigger p _ _ => exact h.of_within (triggerProgram_within p s)
  case stop => exact h.of_within (stopCoolant_within s)
  case growth hard => exact h.of_within (growthTrigger_within hard s)
  case zero => exact h.setActive (by decide) _
  case clamp a hf _ => exact h.clearClampFault hf hl
  case gear hf => exact h.reevaluate (by rw [hf]; decide)

theorem BankLaws.task (h : BankLaws s) (c : Turn) (hc : s.link.state = .offline → c.record = none) (u : Task) :
    BankLaws (runTask c u s) := by
  cases u
  case forkFirst => exact h.forkFirstWork
  case fork i => exact h.forkWork i
  case clampFirst => exact h.clampFirstWork _
  case pressure => exact h.pressureWork
  case clamp a => exact h.clampWork _ a
  case gearLeave => exact h.gearLeaveWork
  case rangeRequest =>
    cases hf : c.taken with
    | some f => simp only [runTask, onFrame, hf]; exact h.rangeRequestWork f
    | none => simp only [runTask, onFrame, hf]; exact h
  case gearStage => exact h.gearStageWork
  case spindleOutput => exact h.spindleOutputWork _
  case spindleAnnounce => exact h.spindleAnnounceWork
  case service =>
    by_cases hl : s.link.state = .offline
    · simp only [runTask, hc hl]
      exact h
    · obtain ⟨v, he, hw⟩ := runTask_service_served (s := s) c
      exact (h.effect hl he).of_within hw
  all_goals exact h.of_within (runTask_within c _ s)

theorem restart_bankLaws (s : State) : BankLaws (restart s) := by
  have hb : (restart s).bank = bankReset := (restart_within_base s).same_bank
  refine .of_rest (by rw [restart_link]; rfl) ?_ (fun a => ?_) (by rw [hb]; rfl) (by rw [hb]; rfl)
  · rw [restart_gear]
    rcases reevaluate_state (restartBase s) with e | e <;> rw [e] <;> rfl
  · rw [(restart_within_base s).same_clamps]
    show ((PerClamp.of (restartedClamp s)).get a).state.rests = true
    rw [PerClamp.get_of]
    unfold restartedClamp
    dsimp only
    split
    · split <;> rfl
    · split
      · rfl
      · cases (s.clamps.get a).state <;> rfl

theorem bankLaws_command : CommandKept BankLaws where
  reset _ _ _ _ _ := .of_rest rfl rfl (fun a => by cases a <;> rfl) rfl rfl
  settle order _ h := h.of_within (settleTriggers_within order _)
  sent _ _ h := h.of_within (within_sent _ _)
  between e s h := by
    cases e
    case frameArrival bytes order => exact bankLaws_link.frameArrives bytes order h
    case returnFrame bytes => exact bankLaws_link.returnArrives bytes h
    case activationCeiling => exact bankLaws_link.activationEnds h
    case estopOpening => exact bankLaws_link.estopOpens h
    case valveBankGrant => exact h.tryGrant
    case unclampCeiling a => exact h.clampCeilingEnds _ a
    case clampCeiling a => exact h.clampCeilingEnds _ a
    case dropCeiling a => exact h.clampCeilingEnds _ a
    case drainCeiling => exact h.drainCeilingEnds
    case shiftCeiling => exact h.shiftCeilingEnds
    case wiggleTimer => exact h.wiggleEnds
    case storeVerified => exact h.of_active (storeDone_within s) (storeDone_active s)
    case storeMismatch | storeCeiling => exact h.of_active (storeFails_within s) (storeFails_active s)
    all_goals exact h.of_within (betweenWork_within _ s)
  linkService kind body order _ h :=
    bankLaws_link.linkService (fun hw hu => Reads.keep bankLaws_reads hw hu) kind body order h
  blockService kind body order s hl h := by
    obtain ⟨v, he, hw⟩ := blockService_served (order := order) (s := s) kind body
    exact (h.effect hl he).of_within hw
  gearLeave h := h.gearLeaveWork
  restart _ := restart_bankLaws _

/-- From the link controller's stage to the end of an expiry. -/
theorem BankLaws.expiry_of_linked {inp : ExpiryInput} (linked : BankLaws (linkedAt inp s)) : BankLaws (expiry inp s) := by
  have sampled : BankLaws (intakeStage inp (turnAt inp s).taken (linkedAt inp s)) := by
    unfold intakeStage
    dsimp only
    refine BankLaws.interlockWork ?_ _
    have unlost : BankLaws { linkedAt inp s with gear := { (linkedAt inp s).gear with forkLoss := false } } :=
      linked.withGear rfl rfl
    have conditioned := unlost.of_within (conditionerWork_within inp.samples _)
    split
    · exact conditioned.of_within (pushCommands_within _ _)
    · exact conditioned
  have hl := (intakeStage_within inp (turnAt inp s).taken (linkedAt inp s)).same_link
  rw [expiry_eq]
  refine bankLaws_command.afterClearStage _ _ (bankLaws_command.closeStage _ _ _ fun hw => ?_)
  have worked : (workedAt inp s).link = (linkedAt inp s).link ∧ BankLaws (workedAt inp s) :=
    runTasks_keeps (P := fun u => u.link = (linkedAt inp s).link ∧ BankLaws u) (fun {u} t hu =>
      ⟨(taskTurn_within_work _ u t).same_link.trans hu.1, (hu.2.task _ (fun k => recordAt_of_offline
        (by rw [hu.1] at k; exact k)) t).of_within (settleTriggers_within _ _)⟩) _ ⟨hl, sampled⟩
  exact (worked.2.of_within hw).of_same rfl rfl (fun _ => rfl) rfl rfl rfl rfl

theorem BankLaws.expiry (h : BankLaws s) (inp : ExpiryInput) : BankLaws (expiry inp s) := by
  have passed : BankLaws (passTime inp.clock s) :=
    h.of_same rfl rfl (fun a => by unfold passTime; dsimp only; rw [PerClamp.get_of]; rfl) rfl rfl rfl rfl
  exact BankLaws.expiry_of_linked
    (bankLaws_command.linkStage _ _ _ (fun f o _ hu => bankLaws_link.linkWork rfl f o hu) passed)

end

end Sys2Proof.Machine

/-! # The coolant sequencer at rest, and what HALTED and OFFLINE leave (R77, R104, R112) -/

namespace Sys2Proof.Machine

-- Many short proofs that wait for the same case splitters: one after the other they need less memory.
set_option Elab.async false

/-- Nothing runs, nothing is queued and nothing is requested. -/
def CoolantIdle (s : State) : Prop :=
  s.coolant.running = none ∧ s.coolant.queue = [] ∧ s.coolant.requested = outputsOff

/-- R112: HALTED and OFFLINE leave the coolant sequencer idle. -/
def CoolantRest (s : State) : Prop := s.link.state.atRest = true → CoolantIdle s

section
variable {s t : State}

theorem coolantRest_reads : Reads [.link, .coolant] CoolantRest := by
  intro s t k h
  have hl : t.link = s.link := k .link (by decide)
  have hc : t.coolant = s.coolant := k .coolant (by decide)
  unfold CoolantRest CoolantIdle at *
  rw [hl, hc]
  exact h

theorem CoolantRest.of_only (h : CoolantRest s) (k : AnnouncesOnly s t) (hl : t.link.state = s.link.state) :
    CoolantRest t := fun hr => by
  rw [hl] at hr
  obtain ⟨hrun, hq, hreq⟩ := h hr
  exact ⟨k.running.trans hrun, k.queue.trans hq, k.requested.trans hreq⟩

theorem CoolantRest.of_awake (h : t.link.state.atRest = false) : CoolantRest t := fun k => by rw [h] at k; cases k

theorem CoolantRest.of_idle (h : CoolantIdle t) : CoolantRest t := fun _ => h

/-- Work that leaves an idle sequencer idle while the part is at rest. -/
theorem CoolantRest.of_rest (h : CoolantRest s) (hl : t.link.state = s.link.state)
    (he : s.link.state.atRest = true → CoolantIdle s → CoolantIdle t) : CoolantRest t := fun k => by
  rw [hl] at k
  exact he k (h k)

/-- No trigger reaches a sequencer at rest. -/
theorem triggerSource_of_rest (src : TriggerSource) (h : s.link.state.atRest = true) : triggerSource src s = s := by
  unfold triggerSource coolantWorks
  rw [h]
  rfl

theorem CoolantRest.settleTriggers (h : CoolantRest s) (order : List TriggerSource) :
    CoolantRest (settleTriggers order s) :=
  settleTriggers_keeps
    (fun {u} hu => by
      unfold settleDemand
      dsimp only
      split <;> exact hu)
    (fun src u hu => hu.of_rest (congrArg Link.state (triggerSource_coolantOnly src u).link) fun hr idle => by
      rw [triggerSource_of_rest src hr]
      exact idle)
    (fun _ _ hu => hu) order h

theorem CoolantRest.startNext (h : CoolantRest s) : CoolantRest (startNext s) :=
  h.of_rest (congrArg Link.state (startNext_within s).same_link) fun _ idle => by
    obtain ⟨hr, hq, hreq⟩ := idle
    unfold Machine.startNext
    rw [hr, hq]
    exact ⟨hr, hq, hreq⟩

theorem CoolantRest.pauseEnds (h : CoolantRest s) : CoolantRest (pauseEnds s) :=
  h.of_rest (congrArg Link.state (pauseEnds_within s).same_link) fun _ idle => by
    unfold Machine.pauseEnds
    rw [idle.1]
    exact idle

theorem CoolantRest.waitCeilingEnds (h : CoolantRest s) : CoolantRest (waitCeilingEnds s) :=
  h.of_rest (congrArg Link.state (waitCeilingEnds_within s).same_link) fun _ idle => by
    unfold Machine.waitCeilingEnds
    rw [idle.1]
    exact idle

theorem CoolantRest.coolantWaitWork (h : CoolantRest s) : CoolantRest (coolantWaitWork s) :=
  h.of_rest (congrArg Link.state (coolantWaitWork_within s).same_link) fun _ idle => by
    unfold Machine.coolantWaitWork
    rw [idle.1]
    exact idle

theorem CoolantRest.completeShift (h : CoolantRest s) : CoolantRest (completeShift s) := by
  rcases completeShift_cases s with ⟨-, e⟩ | ⟨r, u, -, hu, he⟩
  · exact e.symm ▸ h
  have released := shiftReleased_within (decide (s.gear.engaged ≠ some r)) (Machine.settleTriggers [] (shiftCompleted r s))
  have taken : CoolantRest u := by
    rw [hu]
    refine CoolantRest.of_only ?_ (.of_within released) (congrArg Link.state released.same_link)
    exact CoolantRest.settleTriggers (s := shiftCompleted r s) (h.of_only ⟨rfl, rfl, rfl, rfl⟩ rfl) []
  rcases he with ⟨-, e⟩ | ⟨q, -, e⟩
  · exact e.symm ▸ taken
  · exact e.symm ▸ taken.of_only (actOnRequest_only q u) (congrArg Link.state (actOnRequest_within q u).same_link)

theorem CoolantRest.gearStageWork (h : CoolantRest s) : CoolantRest (gearStageWork s) := by
  rcases gearStageWork_cases s with e | ⟨bs, r, -, -, -, -, e⟩ | ⟨bs, -, -, e⟩ | ⟨bs, n, -, -, e⟩ | ⟨bs, n, -, -, -, e⟩
  · exact e.symm ▸ h
  · exact e.symm ▸ coolantRest_reads.keep (enterEngaged_within r s) h
  · exact e.symm ▸ coolantRest_reads.keep (enterValveWait_within s) h
  · exact e.symm ▸ h
  · rw [e]
    exact CoolantRest.completeShift (s := { s with gear := { s.gear with settle := n } }) h

theorem CoolantRest.stopBitWork (h : CoolantRest s) (f : CycleFrame) : CoolantRest (stopBitWork f s) := by
  unfold Machine.stopBitWork
  split
  · exact .of_idle ⟨rfl, rfl, rfl⟩
  · exact h

theorem CoolantRest.effect {order : List ClampAxis} (h : CoolantRest s) (e : BlockEffect order s t) : CoolantRest t := by
  cases e
  case commit q hl _ _ =>
    refine .of_awake ?_
    rw [(commitEffects_within q _ order _).same_link]
    show s.link.state.atRest = false
    rw [hl]
    rfl
  case trigger p hc _ =>
    refine .of_awake ?_
    rw [(triggerProgram_within p s).same_link]
    simpa [coolantWorks] using hc
  case flags hw => exact coolantRest_reads.keep hw h
  case stop => exact .of_idle ⟨rfl, rfl, rfl⟩
  case growth hard => exact coolantRest_reads.keep (growthTrigger_within hard s) h
  case clamp a _ _ => exact coolantRest_reads.keep (clearClampFault_within a s) h
  case gear => exact coolantRest_reads.keep (reevaluate_within s) h
  all_goals exact h

end

theorem coolantResting_link : LinkKept CoolantRest where
  quiet l _ hst _ _ h := h.of_rest hst fun _ idle => idle
  raise _ _ h := h
  estop _ _ h := h
  rest st s _ _ := by
    obtain ⟨c, e⟩ := enterRest_coolant st s
    refine .of_idle ?_
    unfold CoolantIdle
    rw [e]
    exact ⟨rfl, rfl, rfl⟩
  standby order s _ _ _ := .of_awake (by rw [enterStandby_link]; rfl)
  activating _ _ _ _ _ := .of_awake rfl
  running _ _ _ := .of_awake rfl
  leave st s hst _ _ := .of_awake (by rw [leaveRunning_link]; rcases hst with rfl | rfl <;> rfl)
  lost _ _ := .of_awake rfl

theorem coolantResting_kept : Kept CoolantRest where
  reset _ _ _ _ _ := .of_idle ⟨rfl, rfl, rfl⟩
  settle order _ h := h.settleTriggers order
  sent _ _ h := h
  between e s h := by
    cases e
    case frameArrival bytes order => exact coolantResting_link.frameArrives bytes order h
    case returnFrame bytes => exact coolantResting_link.returnArrives bytes h
    case activationCeiling => exact coolantResting_link.activationEnds h
    case estopOpening => exact coolantResting_link.estopOpens h
    case waitCeiling => exact h.waitCeilingEnds
    case pauseEnd => exact h.pauseEnds
    case queuedProgramStart => exact h.startNext
    case lubeInterval =>
      show CoolantRest (lubeIntervalEnds s)
      unfold lubeIntervalEnds
      split
      · exact h.of_only (lubeDue_only s) rfl
      all_goals exact h
    all_goals exact coolantRest_reads.keep (betweenWork_within _ s) h
  linkService kind body order _ h :=
    coolantResting_link.linkService (fun hw hu => coolantRest_reads.keep hw hu) kind body order h
  restart {s} _ := by
    obtain ⟨l, e⟩ := restart_coolant s
    refine .of_idle ?_
    unfold CoolantIdle
    rw [e]
    exact ⟨rfl, rfl, rfl⟩
  passTime c s h := h.of_rest rfl fun _ idle => by
    obtain ⟨hr, hq, hreq⟩ := idle
    refine ⟨?_, hq, hreq⟩
    show s.coolant.running.map _ = none
    rw [hr]
    rfl
  linkWork taken order _ h := coolantResting_link.linkWork rfl taken order h
  intake inp taken _ h := coolantRest_reads.keep (intakeStage_within inp taken _) h
  task c u s h := by
    have same : (runTask c u s).link.state = s.link.state :=
      congrArg Link.state (((runTask_within c u s).mono (taskParts_subset u)).same_link)
    cases u
    case pendantFirst => exact h.of_only (pendantFirstWork_only s) same
    case panel => exact h.of_only (delivered_only handPanel_only s) same
    case rangeRequest => exact h.of_only (onFrame_only rangeRequestWork_only _ s) same
    case gearStage => exact h.gearStageWork
    case spindleAnnounce => exact h.of_only (spindleAnnounceWork_only s) same
    case coolantStopBit =>
      cases hf : c.taken with
      | some f => simp only [runTask, onFrame, hf]; exact h.stopBitWork f
      | none => simp only [runTask, onFrame, hf]; exact h
    case coolantRequests => exact h.of_only (onFrame_only requestsWork_only _ s) same
    case coolantWait => exact h.coolantWaitWork
    case travel => exact h.of_only (travelWork_only s) same
    case tank => exact h.of_only (tankWork_only s) same
    case service =>
      obtain ⟨v, he, hw⟩ := runTask_service_served (s := s) c
      exact coolantRest_reads.keep hw (h.effect he)
    all_goals exact coolantRest_reads.keep (runTask_within c _ s) h
  leave _ _ _ h := h

/-! ## The laws together -/

section
variable {s : State}

/-- HALTED and OFFLINE leave every clamp in a resting state and no change in progress. -/
theorem BankLaws.resting (h : BankLaws s) (hr : s.link.state.atRest = true) :
    (∀ a, (s.clamps.get a).state.rests = true) ∧ s.gear.state.changing = false := by
  refine ⟨fun a => ?_, ?_⟩
  · by_contra hn
    have := (h.placed a).rest (by simpa using hn)
    rw [hr] at this
    cases this
  · by_contra hn
    have := (h.geared (by simpa using hn)).2.2
    rw [hr] at this
    cases this

/-- So no claimant waits or holds the bank. -/
theorem BankLaws.bank_free (h : BankLaws s) (hr : s.link.state.atRest = true) :
    s.bank.queue = [] ∧ s.bank.holder = none := by
  obtain ⟨resting, unchanging⟩ := h.resting hr
  have idle (d : Claimant) : waits s d = false ∧ transits s d = false := by
    cases d with
    | clamp a =>
      have := resting a
      rw [waits_clamp, transits_clamp]
      revert this
      cases (s.clamps.get a).state <;> first | exact fun _ => ⟨rfl, rfl⟩ | exact nofun
    | gearbox =>
      revert unchanging
      unfold waits transits
      cases s.gear.state <;> first | exact fun _ => ⟨rfl, rfl⟩ | exact nofun
  refine ⟨List.eq_nil_iff_forall_not_mem.mpr fun d hd => ?_, Option.eq_none_iff_forall_ne_some.mpr fun d hd => ?_⟩
  · rw [h.bank.2.1, (idle d).1] at hd
    cases hd
  · rw [h.bank.2.2, (idle d).2] at hd
    cases hd

/-- The states of the bank's claimants that HALTED and OFFLINE leave follow from `BankLaws` and the idle sequencer. -/
theorem restLaw_iff (h : BankLaws s) : RestLaw s ↔ CoolantRest s := by
  constructor
  · intro k hr
    obtain ⟨hrun, hq, hreq, -⟩ := k hr
    exact ⟨hrun, hq, hreq⟩
  · intro k hr
    obtain ⟨hrun, hq, hreq⟩ := k hr
    obtain ⟨resting, unchanging⟩ := h.resting hr
    obtain ⟨queue, holder⟩ := h.bank_free hr
    refine ⟨hrun, hq, hreq, queue, holder, fun a => ?_, ?_⟩
    · have := resting a
      revert this
      cases (s.clamps.get a).state <;> simp [ClampState.rests]
    · revert unchanging
      cases s.gear.state <;> simp [GearState.changing]

/-- The five laws of a state are `BankLaws` and an idle sequencer at rest. -/
theorem bankLaws_iff : (BankLaw s ∧ ChangeLaw s ∧ RestLaw s ∧ TablesLaw s ∧ AbsentLaw s) ↔
    BankLaws s ∧ CoolantRest s := by
  constructor
  · rintro ⟨hbank, hchange, hrest, htables, habsent⟩
    have laws : BankLaws s := by
      refine ⟨htables, fun k => ?_, fun a => ⟨fun k => ?_, fun k => ?_⟩, hbank⟩
      · obtain ⟨ht, hp⟩ := hchange k
        refine ⟨ht, hp, ?_⟩
        by_contra hn
        obtain ⟨-, -, -, -, -, -, hg⟩ := hrest (by simpa using hn)
        rcases hg with e | e | e <;> rw [e] at k <;> cases k
      · by_contra hn
        obtain ⟨hw, ht⟩ := habsent a (by simpa using hn)
        rw [hw, ht] at k
        exact absurd k (by decide)
      · by_contra hn
        obtain ⟨-, -, -, -, -, hc, -⟩ := hrest (by simpa using hn)
        rcases hc a with e | e | e <;> rw [e] at k <;> cases k
    exact ⟨laws, (restLaw_iff laws).mp hrest⟩
  · rintro ⟨laws, hrest⟩
    refine ⟨laws.bank, fun k => ?_, (restLaw_iff laws).mpr hrest, laws.tables, fun a k => ?_⟩
    · obtain ⟨ht, hp, -⟩ := laws.geared k
      exact ⟨ht, hp⟩
    · have := mt (laws.placed a).absent (by rw [k]; decide)
      simpa using this

end

/-- Settles O9: whoever waits has claimed, whoever is in transit holds, and neither is left by HALTED and OFFLINE. -/
theorem bankLawKept : Obligations.BankLawKept := by
  intro s t h e
  obtain ⟨laws, hrest⟩ := bankLaws_iff.mp h
  refine bankLaws_iff.mpr ⟨?_, coolantResting_kept.step (fun _ _ hu => hu) hrest e⟩
  exact bankLaws_command.step (fun inp _ hu => hu.expiry inp)
    (fun q _ hu => hu.of_within (within_pending _ q)) laws e

end Sys2Proof.Machine

/-! # Service records: what is judged before a kind's own checks, and the services of link and store -/

namespace Sys2Proof.Machine

-- Many short proofs that wait for the same case splitters: one after the other they need less memory.
set_option Elab.async false

/-! ## A service as a command of its own -/

section
variable {s t : State}

/-- A service whose work is known ends in that state where it is settled. -/
theorem served_eq (hl : s.link.state ≠ .offline) {act : State → State} (he : act s = t) (ht : SettledLaw t) :
    served act s = .next t := by
  rw [served_of_law hl (he.symm ▸ ht), he]

/-- Work known to end in a settled state. -/
theorem settled_eq {u : State} (he : u = t) (ht : SettledLaw t) : settled u = .next t := by
  rw [settled_of_law (he.symm ▸ ht), he]

theorem SettledLaw.withSent (h : SettledLaw s) (x : Sent) : SettledLaw { s with sent := x } := h.of_same rfl rfl

theorem SettledLaw.withInputs (h : SettledLaw s) (x : Inputs) : SettledLaw { s with inputs := x } := h.of_same rfl rfl

theorem SettledLaw.withFlags (h : SettledLaw s) (x : FlagUnit) : SettledLaw { s with flags := x } := h.of_same rfl rfl

theorem SettledLaw.withAxes (h : SettledLaw s) (x : PerAxis AxisChannel) : SettledLaw { s with axes := x } :=
  h.of_same rfl rfl

theorem SettledLaw.withBank (h : SettledLaw s) (x : Bank) : SettledLaw { s with bank := x } := h.of_same rfl rfl

theorem SettledLaw.withClamps (h : SettledLaw s) (x : PerClamp ClampSequencer) : SettledLaw { s with clamps := x } :=
  h.of_same rfl rfl

/-- A refused record changes the answer alone. -/
theorem served_refuse (h : SettledLaw s) (hl : s.link.state ≠ .offline) {act : State → State} {k : ServiceKind}
    {st : Status} (he : act s = refuse k st s) :
    served act s = .next { s with sent := { s.sent with answer := ⟨k.code, st, []⟩ } } :=
  served_eq hl he (h.refuse k st)

/-! ## The order of R159 -/

/-- R159, step 2, for the three groups of services. -/
theorem linkService_of_bad {k : ServiceKind} {b : List Byte} (hb : bodyLengthOk k b = false)
    (hk : k ∈ [ServiceKind.start, .stop, .recover, .restart]) (o : List ClampAxis) (s : State) :
    linkService k b o s = refuse k .badParam s := by
  simp only [List.mem_cons, List.not_mem_nil, or_false] at hk
  rcases hk with rfl | rfl | rfl | rfl <;> exact judged_of_bad hb _ s

theorem blockService_of_bad {k : ServiceKind} {b : List Byte} (hb : bodyLengthOk k b = false)
    (hk : k ∈ [ServiceKind.writeSegment, .commit, .store, .clearFlags, .setMask, .coolantTrigger, .coolantStop,
      .compTrigger, .growthZero, .clearFault]) (o : List ClampAxis) (s : State) :
    blockService k b o s = refuse k .badParam s := by
  simp only [List.mem_cons, List.not_mem_nil, or_false] at hk
  rcases hk with rfl | rfl | rfl | rfl | rfl | rfl | rfl | rfl | rfl | rfl <;> exact judged_of_bad hb _ s

theorem readService_of_bad {k : ServiceKind} {b : List Byte} (hb : bodyLengthOk k b = false)
    (hk : k ∈ [ServiceKind.readInfo, .readSegment, .readFlags, .readState]) (s : State) :
    readService k b s = refuse k .badParam s := by
  simp only [List.mem_cons, List.not_mem_nil, or_false] at hk
  rcases hk with rfl | rfl | rfl | rfl <;> exact judged_of_bad hb _ s

/-- A refused STOP reaches the gearbox no more than the link. -/
theorem stopNow_of_refused {b : List Byte} (h : SettledLaw s) {st : Status} (he : linkService .stop b [] s = refuse .stop st s) :
    stopNow b s = refuse .stop st s := by
  unfold stopNow
  rw [he]
  split
  · rename_i hr
    rw [settleTriggers_eq_self [] (h.refuse _ _)]
    unfold gearLeaveWork
    rw [if_neg (by rw [refuse_link, hr]; decide)]
  · rfl

/-- A refused RESTART re-initialises nothing. -/
theorem restartNow_of_refused {b : List Byte} {st : Status} (hst : st ≠ .ok)
    (he : ∀ u : State, u.link = s.link → u.store = s.store → linkService .restart b [] u = refuse .restart st u) :
    restartNow b s = refuse .restart st s := by
  have work : linkService .restart b [] { s with sent := { s.sent with answer := noAnswer } }
      = refuse .restart st { s with sent := { s.sent with answer := noAnswer } } := he _ rfl rfl
  have taken : restartTaken (refuse .restart st { s with sent := { s.sent with answer := noAnswer } }) = false := by
    show (decide _ && decide (st = .ok)) = false
    rw [decide_eq_false hst, Bool.and_false]
  unfold restartNow
  dsimp only
  rw [work, taken]
  rfl

end

/-- Settles O46: in OFFLINE nothing is served, and elsewhere a record's length is judged before all else. -/
theorem servicesJudgeLinkAndLength : Obligations.ServicesJudgeLinkAndLength := by
  intro b o n s h
  refine ⟨fun hl c hc => ?_, fun hl c hc hb => ?_, fun hl => served_eq hl rfl (h.withSent _)⟩
  · simp only [List.mem_cons, List.not_mem_nil, or_false] at hc
    rcases hc with rfl | rfl | rfl | rfl | rfl | rfl | rfl | rfl | rfl | rfl | rfl | rfl | rfl | rfl | rfl | rfl | rfl |
      rfl | rfl <;> exact served_of_offline hl _
  · simp only [List.mem_cons, List.not_mem_nil, or_false] at hc
    have link {k : ServiceKind} (hk : k ∈ [ServiceKind.start, .stop, .recover, .restart]) (hb : bodyLengthOk k b = false)
        (o : List ClampAxis) := served_refuse h hl (linkService_of_bad hb hk o s)
    have block {k : ServiceKind} (hk : k ∈ [ServiceKind.writeSegment, .commit, .store, .clearFlags, .setMask,
        .coolantTrigger, .coolantStop, .compTrigger, .growthZero, .clearFault]) (hb : bodyLengthOk k b = false)
        (o : List ClampAxis) := served_refuse h hl (blockService_of_bad hb hk o s)
    have read {k : ServiceKind} (hk : k ∈ [ServiceKind.readInfo, .readSegment, .readFlags, .readState])
        (hb : bodyLengthOk k b = false) := served_refuse h hl (readService_of_bad hb hk s)
    rcases hc with rfl | rfl | rfl | rfl | rfl | rfl | rfl | rfl | rfl | rfl | rfl | rfl | rfl | rfl | rfl | rfl | rfl |
      rfl
    · exact read (by simp) hb
    · exact block (by simp) hb []
    · exact read (by simp) hb
    · exact block (by simp) hb o
    · exact block (by simp) hb []
    · exact link (by simp) hb []
    · exact served_refuse h hl (stopNow_of_refused h (linkService_of_bad hb (by simp) [] s))
    · exact link (by simp) hb o
    · exact served_refuse h hl (restartNow_of_refused (by decide) fun u _ _ => linkService_of_bad hb (by simp) [] u)
    · exact read (by simp) hb
    · exact block (by simp) hb []
    · exact block (by simp) hb []
    · exact block (by simp) hb []
    · exact block (by simp) hb []
    · exact block (by simp) hb []
    · exact block (by simp) hb []
    · exact block (by simp) hb []
    · exact read (by simp) hb

/-! ## STORE (R166, R167) -/

section
variable {s : State}

theorem storing_of_writing (h : s.store.state = .writing) : storing s = true := decide_eq_true h

theorem not_storing (h : s.store.state ≠ .writing) : storing s = false := decide_eq_false h

theorem storeService_eq (s : State) : storeService s =
    if s.store.state = .writing then refuse .store .busy s
    else if s.link.state ≠ .standby then refuse .store .wrongState s
    else answer .store .accepted [] (beginStore s) := by
  unfold storeService storing
  simp only [decide_eq_true_eq]

end

/-- Settles O51: the checks of R166 in their order, and the three ends of R167. -/
theorem storeWritesSnapshot : Obligations.StoreWritesSnapshot := by
  intro s h
  refine ⟨fun hl => ?_, fun snap hw hsnap => ⟨?_, ?_, ?_⟩⟩
  · have work : blockService .store [] [] s = storeService s := judged_of_ok rfl _ s
    by_cases hw : s.store.state = .writing
    · rw [if_pos hw]
      exact served_eq hl (by rw [work, storeService_eq, if_pos hw]; rfl) (h.withSent _)
    rw [if_neg hw]
    by_cases hs : s.link.state ≠ .standby
    · rw [if_pos hs]
      exact served_eq hl (by rw [work, storeService_eq, if_neg hw, if_pos hs]; rfl) (h.withSent _)
    · rw [if_neg hs]
      exact served_eq hl (by rw [work, storeService_eq, if_neg hw, if_neg hs]; rfl) (h.of_same rfl rfl)
  · refine settled_eq ?_ (h.of_same rfl rfl)
    unfold storeDone
    rw [hsnap, storing_of_writing hw]
    rfl
  all_goals
    refine settled_eq ?_ (h.of_same rfl rfl)
    unfold storeFails
    rw [storing_of_writing hw]
    rfl

/-! ## START (R13) -/

theorem periodOf_eq_some_iff {n : Nat} {p : Period} : periodOf n = some p ↔ n = p.ms := by
  unfold periodOf
  split <;> cases p <;> simp_all [Period.ms]

theorem periodOf_eq_none_iff {n : Nat} : periodOf n = none ↔ n ≠ 1 ∧ n ≠ 2 ∧ n ≠ 4 := by
  unfold periodOf
  split <;> simp_all

theorem allPresent_iff {s : State} : allPresent s = true ↔ ∀ t, (s.store.active.get t).isSome = true :=
  ⟨fun h t => List.all_eq_true.mp h t (by cases t <;> decide), fun h => List.all_eq_true.mpr fun t _ => h t⟩

section
variable {s : State} (v : Byte)

theorem startService_of_writing (h : s.store.state = .writing) (b : List Byte) :
    startService b s = refuse .start .busy s := by
  unfold startService
  rw [if_pos (storing_of_writing h)]

theorem startService_of_not_standby (h : s.store.state ≠ .writing) (hl : s.link.state ≠ .standby) (b : List Byte) :
    startService b s = refuse .start .wrongState s := by
  unfold startService
  rw [if_neg (by rw [not_storing h]; decide), if_pos hl]

theorem startService_of_no_period (h : s.store.state ≠ .writing) (hl : s.link.state = .standby) {b : List Byte}
    (hb : periodOf (byteAt b 0) = none) : startService b s = refuse .start .badParam s := by
  unfold startService
  rw [if_neg (by rw [not_storing h]; decide), if_neg (not_not.mpr hl), hb]

theorem startService_of_period (h : s.store.state ≠ .writing) (hl : s.link.state = .standby) {b : List Byte}
    {p : Period} (hb : periodOf (byteAt b 0) = some p) : startService b s =
      if allPresent s then answer .start .accepted [] (enterActivating p s) else refuse .start .tableAbsent s := by
  unfold startService
  rw [if_neg (by rw [not_storing h]; decide), if_neg (not_not.mpr hl), hb]

end

/-- Settles O52, check by check in R13's order. -/
theorem startEntersActivating : Obligations.StartEntersActivating := by
  intro v s h hl
  have work : linkService .start [v] [] s = startService [v] s := judged_of_ok rfl _ s
  refine ⟨fun hw => ?_, fun hw hs => ?_, fun hw hs h1 h2 h4 => ?_, fun p hw hs hp habs => ?_,
    fun p hw hs hp hall => ?_⟩
  · exact served_refuse h hl (work.trans (startService_of_writing hw _))
  · exact served_refuse h hl (work.trans (startService_of_not_standby hw hs _))
  · have none : periodOf (byteAt [v] 0) = none := periodOf_eq_none_iff.mpr
      ⟨fun e => h1 (BitVec.eq_of_toNat_eq e), fun e => h2 (BitVec.eq_of_toNat_eq e),
        fun e => h4 (BitVec.eq_of_toNat_eq e)⟩
    exact served_refuse h hl (work.trans (startService_of_no_period hw hs none))
  · have missing : ¬ allPresent s = true := fun k => by
      obtain ⟨t, ht⟩ := habs
      have := allPresent_iff.mp k t
      rw [ht] at this
      cases this
    have period := startService_of_period (b := [v]) hw hs (periodOf_eq_some_iff.mpr hp)
    exact served_refuse h hl (work.trans (period.trans (if_neg missing)))
  · have period := startService_of_period (b := [v]) hw hs (periodOf_eq_some_iff.mpr hp)
    exact served_eq hl (work.trans (period.trans (if_pos (allPresent_iff.mpr hall)))) (h.of_same rfl rfl)

end Sys2Proof.Machine

/-! # Encodings: fields at their offsets, frames and flag sets that read back -/

namespace Sys2Proof.Machine

-- Many short proofs that wait for the same case splitters: one after the other they need less memory.
set_option Elab.async false

/-! ## Fields -/

theorem byte_toNat {n : Nat} (h : n < 256) : (BitVec.ofNat 8 n).toNat = n := by
  rw [BitVec.toNat_ofNat]
  omega

theorem byteAt_drop (bs : List Byte) (k i : Nat) : byteAt (bs.drop k) i = byteAt bs (k + i) := by
  unfold byteAt
  rw [List.getD_eq_getElem?_getD, List.getElem?_drop, List.getD_eq_getElem?_getD]

/-- A number of two bytes, beyond them what may follow. -/
theorem u16At_be16_append {n : Nat} (h : n < 65536) (rest : List Byte) : u16At (be16 n ++ rest) 0 = n := by
  show (BitVec.ofNat 8 (n / 256)).toNat * 256 + (BitVec.ofNat 8 n).toNat = n
  simp only [BitVec.toNat_ofNat]
  omega

theorem u32At_be32_append {n : Nat} (h : n < 4294967296) (rest : List Byte) : u32At (be32 n ++ rest) 0 = n := by
  show (((BitVec.ofNat 8 (n / 65536 / 256)).toNat * 256 + (BitVec.ofNat 8 (n / 65536)).toNat) * 256 +
    (BitVec.ofNat 8 (n % 65536 / 256)).toNat) * 256 + (BitVec.ofNat 8 (n % 65536)).toNat = n
  simp only [BitVec.toNat_ofNat]
  omega

theorem signed_of_mod (w : Nat) {v : Int} (hw : 0 < w) (hlo : -(2 ^ (w - 1) : Nat) ≤ v) (hhi : v < (2 ^ (w - 1) : Nat)) :
    signed w (v % (2 ^ w : Nat)).toNat = v := by
  have double : 2 ^ w = 2 * 2 ^ (w - 1) := by rw [← Nat.pow_succ', Nat.succ_eq_add_one, Nat.sub_add_cancel hw]
  unfold signed
  generalize 2 ^ (w - 1) = m at *
  rw [double]
  by_cases h : 0 ≤ v
  · rw [Int.emod_eq_of_lt h (by omega), if_pos (by omega)]
    omega
  · have e : v % ((2 * m : Nat) : Int) = v + (2 * m : Nat) := by
      rw [← Int.add_emod_right, Int.emod_eq_of_lt (by omega) (by omega)]
    rw [e, if_neg (by omega)]
    omega

section
variable {bs rest : List Byte} {k n : Nat} {v : Int}

theorem byteAt_of_drop (h : bs.drop k = be8 n ++ rest) (hn : n < 256) : byteAt bs k = n := by
  have e : byteAt (bs.drop k) 0 = n := h ▸ byte_toNat hn
  rwa [byteAt_drop] at e

theorem u16At_of_drop (h : bs.drop k = be16 n ++ rest) (hn : n < 65536) : u16At bs k = n := by
  have e : u16At (bs.drop k) 0 = n := h ▸ u16At_be16_append hn rest
  unfold u16At at e
  rwa [byteAt_drop, byteAt_drop] at e

theorem u32At_of_drop (h : bs.drop k = be32 n ++ rest) (hn : n < 4294967296) : u32At bs k = n := by
  have e : u32At (bs.drop k) 0 = n := h ▸ u32At_be32_append hn rest
  unfold u32At u16At at e
  rwa [byteAt_drop, byteAt_drop, byteAt_drop, byteAt_drop] at e

theorem signedByteAt_of_drop (h : bs.drop k = beS8 v ++ rest) (hlo : -128 ≤ v) (hhi : v ≤ 127) :
    signed 8 (byteAt bs k) = v := by
  rw [byteAt_of_drop h (by omega)]
  exact signed_of_mod 8 (by decide) hlo (Int.lt_add_one_iff.mpr hhi)

theorem s16At_of_drop (h : bs.drop k = beS16 v ++ rest) (hlo : -32768 ≤ v) (hhi : v ≤ 32767) : s16At bs k = v := by
  unfold s16At
  rw [u16At_of_drop h (by omega)]
  exact signed_of_mod 16 (by decide) hlo (Int.lt_add_one_iff.mpr hhi)

theorem s32At_of_drop (h : bs.drop k = beS32 v ++ rest) (hlo : -2147483648 ≤ v) (hhi : v ≤ 2147483647) :
    s32At bs k = v := by
  unfold s32At
  rw [u32At_of_drop h (by omega)]
  exact signed_of_mod 32 (by decide) hlo (Int.lt_add_one_iff.mpr hhi)

end

/-- Behind a frame's own bytes stands their CRC. -/
theorem crc_of_withCrc (bs : List Byte) : u16At (withCrc bs) bs.length = (crc16 bs).toNat :=
  u16At_of_drop (rest := []) (by simp [withCrc]) (crc16 bs).isLt

theorem take_withCrc (bs : List Byte) : (withCrc bs).take bs.length = bs := by simp [withCrc]

/-! ## Cycle frames (R1, 11.2) -/

theorem cycleFrameOf_isSome_iff (bs : List Byte) : (cycleFrameOf bs).isSome = true ↔
    crcGood bs = true ∧ byteAt bs 0 = 0xC1 ∧ byteAt bs 32 ≤ 48 ∧ bs.length = 35 + byteAt bs 32 ∧
      (bs.getD 31 0 ≠ 0 ∨ byteAt bs 32 = 0) := by
  unfold cycleFrameOf
  dsimp only
  split
  · rename_i h
    simpa [and_assoc] using h
  · rename_i h
    simpa [and_assoc] using h

theorem byteAt_eq_zero_iff (bs : List Byte) (i : Nat) : byteAt bs i = 0 ↔ bs.getD i 0 = 0 :=
  ⟨fun h => BitVec.eq_of_toNat_eq h, fun h => congrArg BitVec.toNat h⟩

/-- Settles O13: the checks of R1 and R179 are those of `cycleFrameOf`. -/
theorem cycleFrameChecks : Obligations.CycleFrameChecks := by
  intro bs
  rw [cycleFrameOf_isSome_iff, byteAt_eq_zero_iff bs 31]
  unfold crcGood
  rw [Bool.and_eq_true, decide_eq_true_eq, decide_eq_true_eq, and_assoc]
  have kind : (bs.getD 31 0 ≠ 0 ∨ byteAt bs 32 = 0) ↔ (bs.getD 31 0 = 0 → byteAt bs 32 = 0) :=
    ⟨fun h e => h.resolve_left (not_not.mpr e), fun h => or_iff_not_imp_left.mpr fun e => h (not_not.mp e)⟩
  rw [kind]

section
variable {f : CycleFrame}

/-- The frame's own bytes, before the CRC. -/
def cyclePayload (f : CycleFrame) : List Byte :=
  be8 0xC1 ++ [f.seq] ++ axisRecordWire f.axes.x ++ axisRecordWire f.axes.y ++ axisRecordWire f.axes.z ++
    axisRecordWire f.axes.w ++ axisRecordWire f.axes.b ++ beS16 f.spindle ++ [f.range, coolantByte f.coolant, f.kind] ++
    be8 f.body.length ++ f.body

theorem cycleWire_eq (f : CycleFrame) : cycleWire f = withCrc (cyclePayload f) := rfl

theorem three_bits : ∀ u p a : Bool,
    let n := (BitVec.ofNat 8 ((if u then 1 else 0) + (if p then 2 else 0) + (if a then 4 else 0))).toNat
    n.testBit 0 = u ∧ n.testBit 1 = p ∧ n.testBit 2 = a := by
  decide

theorem requestByte_bits (r : AxisRecord) : (requestByte r).toNat.testBit 0 = r.unclamp ∧
    (requestByte r).toNat.testBit 1 = r.permit ∧ (requestByte r).toNat.testBit 2 = r.absorb :=
  three_bits r.unclamp r.permit r.absorb

theorem requestBitsOf_coolantByte (r : RequestBits) : requestBitsOf (coolantByte r).toNat = r := by
  obtain ⟨a, b, c, d, e⟩ := r
  cases a <;> cases b <;> cases c <;> cases d <;> cases e <;> rfl

/-- An axis record's five bytes read back. -/
theorem axisRecordAt_of_drop {bs rest : List Byte} {a : Axis} {r : AxisRecord}
    (h : bs.drop (2 + 5 * a.index) = axisRecordWire r ++ rest) (hlo : -2147483648 ≤ r.command)
    (hhi : r.command ≤ 2147483647) : axisRecordAt bs a = r := by
  have command : s32At bs (2 + 5 * a.index) = r.command := s32At_of_drop (rest := requestByte r :: rest) h hlo hhi
  have requests : byteAt bs (2 + 5 * a.index + 4) = (requestByte r).toNat := by
    rw [← byteAt_drop, h]
    rfl
  obtain ⟨unclamp, permit, absorb⟩ := requestByte_bits r
  unfold axisRecordAt
  dsimp only
  rw [command, requests, unclamp, permit, absorb]

theorem cycleWire_axis_drop (f : CycleFrame) (a : Axis) :
    ∃ rest, (cycleWire f).drop (2 + 5 * a.index) = axisRecordWire (f.axes.get a) ++ rest := by
  cases a <;> exact ⟨_, rfl⟩

theorem cycleWire_length (f : CycleFrame) : (cycleWire f).length = 35 + f.body.length := by
  rw [cycleWire_eq]
  simp [withCrc, cyclePayload, axisRecordWire, beS32, beS16]
  omega

end

/-- Settles O14: each field reads back from its own bytes. -/
theorem cycleFrameRoundTrip : Obligations.CycleFrameRoundTrip := by
  intro f hcommand hlo hhi hbody hkind
  have count : byteAt (cycleWire f) 32 = f.body.length := byte_toNat (by omega)
  have kind : (cycleWire f).getD 31 0 = f.kind := rfl
  have good : crcGood (cycleWire f) = true := crcGood_withCrc _
  have axes : PerAxis.of (axisRecordAt (cycleWire f)) = f.axes := perAxis_eq_of_get fun a => by
    obtain ⟨rest, h⟩ := cycleWire_axis_drop f a
    rw [PerAxis.get_of]
    exact axisRecordAt_of_drop h (hcommand a).1 (hcommand a).2
  have spindle : s16At (cycleWire f) 27 = f.spindle := s16At_of_drop (bs := cycleWire f) rfl hlo hhi
  have coolant : requestBitsOf (byteAt (cycleWire f) 30) = f.coolant := requestBitsOf_coolantByte f.coolant
  have body : sliceBytes (cycleWire f) 33 f.body.length = f.body := by
    have : (cycleWire f).drop 33 = f.body ++ be16 (crc16 (cyclePayload f)).toNat := rfl
    rw [sliceBytes, this, List.take_left]
  have nokind : f.kind ≠ 0 ∨ f.body.length = 0 :=
    or_iff_not_imp_left.mpr fun h => by rw [hkind (not_not.mp h)]; rfl
  have first : byteAt (cycleWire f) 0 = 0xC1 := rfl
  unfold cycleFrameOf
  dsimp only
  rw [count, kind, axes, spindle, coolant, body, good, first, cycleWire_length, if_pos (by simpa [hbody] using nokind)]
  rfl

/-! ## Flag sets (11.5) -/

theorem flagSetBytes_getD (set : BitVec 35) {j : Nat} (hj : j < 5) :
    (flagSetBytes set).getD j 0 = BitVec.ofNat 8 (set.toNat / 2 ^ (8 * j)) := by
  obtain _ | _ | _ | _ | _ | _ := j
  · exact congrArg (BitVec.ofNat 8) (Nat.div_one set.toNat).symm
  · rfl
  · rfl
  · rfl
  · rfl
  · omega

theorem flagSetNumber_flagSetBytes (set : BitVec 35) : flagSetNumber (flagSetBytes set) = set.toNat := by
  have bound := set.isLt
  unfold flagSetNumber byteAt
  rw [flagSetBytes_getD set (by decide), flagSetBytes_getD set (by decide), flagSetBytes_getD set (by decide),
    flagSetBytes_getD set (by decide), flagSetBytes_getD set (by decide)]
  simp only [BitVec.toNat_ofNat]
  omega

theorem Flag.num_lt (f : Flag) : f.num < 35 := by cases f <;> decide

/-- Settles O60: flag k is bit k mod 8 of byte k div 8. -/
theorem flagSetRoundTrip : Obligations.FlagSetRoundTrip := by
  intro set
  have bound := set.isLt
  have top : byteAt (flagSetBytes set) 4 < 8 := by
    unfold byteAt
    rw [flagSetBytes_getD set (by decide), BitVec.toNat_ofNat]
    omega
  refine ⟨rfl, ?_, fun f => ?_⟩
  · unfold flagSetOf
    rw [if_pos top, flagSetNumber_flagSetBytes, BitVec.ofNat_toNat, BitVec.setWidth_eq]
  · have := f.num_lt
    rw [flagSetBytes_getD set (by omega), BitVec.getLsbD_ofNat, Nat.testBit_div_two_pow, BitVec.getLsbD,
      Nat.mod_add_div, decide_eq_true (Nat.mod_lt _ (by decide)), Bool.true_and]

end Sys2Proof.Machine

/-! # Encodings: return frames, drive frames and echo frames (11.3, 11.4) -/

namespace Sys2Proof.Machine

-- Many short proofs that wait for the same case splitters: one after the other they need less memory.
set_option Elab.async false

/-! ## Groups of fields -/

/-- What stands `j` bytes into a group that begins at `k`. -/
theorem drop_of_group {w g x : List Byte} {k j : Nat} (h : w.drop k = g) (e : g.drop j = x) : w.drop (k + j) = x := by
  rw [← List.drop_drop, h, e]

/-- What stands behind a field. -/
theorem drop_of_field {w l m : List Byte} {k j : Nat} (h : w.drop k = l ++ m) (hl : l.length = j) : w.drop (k + j) = m :=
  drop_of_group h (List.drop_left' hl)

theorem byteAt_of_group {w g : List Byte} {k : Nat} (h : w.drop k = g) (j : Nat) : byteAt w (k + j) = byteAt g j := by
  rw [← h, byteAt_drop]

/-! ## Return frames (R9) -/

/-- A station record's five bytes read back. -/
theorem stationAt_of_drop {bs rest : List Byte} {j : Nat} {r : StationReport}
    (h : bs.drop (5 * j) = stationWire r ++ rest) (hlo : -2147483648 ≤ r.actual) (hhi : r.actual ≤ 2147483647) :
    stationAt bs j = some r := by
  have code : byteAt bs (5 * j) = r.status.code := byteAt_of_drop (rest := beS32 r.actual ++ rest) h
    (by cases r.status <;> decide)
  have actual : s32At bs (5 * j + 1) = r.actual :=
    s32At_of_drop (rest := rest) (drop_of_group h rfl) hlo hhi
  have status : stationStatusOf r.status.code = some r.status := by cases r.status <;> rfl
  unfold stationAt
  rw [code, status, actual]
  rfl

/-- A return frame's own bytes, before the CRC. -/
def returnPayload (r : Returns) : List Byte :=
  stationWire r.axes.x ++ (stationWire r.axes.y ++ (stationWire r.axes.z ++ (stationWire r.axes.w ++
    (stationWire r.axes.b ++ stationWire r.spindle))))

theorem returnWire_eq (r : Returns) : returnWire r = withCrc (returnPayload r) := by
  simp only [returnWire, returnPayload, List.append_assoc]

theorem stationWire_length (r : StationReport) : (stationWire r).length = 5 := rfl

theorem returnsOf_returnWire {r : Returns}
    (haxes : ∀ a, -2147483648 ≤ (r.axes.get a).actual ∧ (r.axes.get a).actual ≤ 2147483647)
    (hlo : -2147483648 ≤ r.spindle.actual) (hhi : r.spindle.actual ≤ 2147483647) :
    returnsOf (returnWire r) = some r := by
  have crc : crcGood (returnWire r) = true := returnWire_eq r ▸ crcGood_withCrc _
  have length : (returnWire r).length = 32 := rfl
  obtain ⟨whole, hwhole⟩ : ∃ w, w = returnWire r := ⟨_, rfl⟩
  have x0 : whole.drop 0 = stationWire r.axes.x ++ (stationWire r.axes.y ++ (stationWire r.axes.z ++
      (stationWire r.axes.w ++ (stationWire r.axes.b ++ (stationWire r.spindle ++
        be16 (crc16 (returnPayload r)).toNat))))) := by
    rw [hwhole, returnWire_eq, withCrc, returnPayload]
    simp only [List.append_assoc, List.drop_zero]
  have x1 := drop_of_field (j := 5) x0 (stationWire_length _)
  have x2 := drop_of_field (j := 5) x1 (stationWire_length _)
  have x3 := drop_of_field (j := 5) x2 (stationWire_length _)
  have x4 := drop_of_field (j := 5) x3 (stationWire_length _)
  have x5 := drop_of_field (j := 5) x4 (stationWire_length _)
  rw [← hwhole] at crc length ⊢
  unfold returnsOf
  rw [length, crc, stationAt_of_drop (j := 0) x0 (haxes .x).1 (haxes .x).2,
    stationAt_of_drop (j := 1) x1 (haxes .y).1 (haxes .y).2, stationAt_of_drop (j := 2) x2 (haxes .z).1 (haxes .z).2,
    stationAt_of_drop (j := 3) x3 (haxes .w).1 (haxes .w).2, stationAt_of_drop (j := 4) x4 (haxes .b).1 (haxes .b).2,
    stationAt_of_drop (j := 5) x5 hlo hhi]
  rfl

/-! ## Drive frames (R8) -/

/-- Behind the bytes that a frame's CRC is formed from stands the CRC. -/
theorem crc_of_payload {w p : List Byte} {n : Nat} (h : w = withCrc p) (hn : p.length = n) :
    u16At w n = (crc16 (w.take n)).toNat := by
  subst h hn
  rw [take_withCrc, crc_of_withCrc]

theorem beS32_length (v : Int) : (beS32 v).length = 4 := rfl

theorem beS16_length (v : Int) : (beS16 v).length = 2 := rfl

/-- A drive frame's own bytes, before the CRC. -/
def drivePayload (d : DriveFrame) : List Byte :=
  mark d.enable ++ (beS32 d.setpoints.x ++ (beS32 d.setpoints.y ++ (beS32 d.setpoints.z ++ (beS32 d.setpoints.w ++
    (beS32 d.setpoints.b ++ beS32 d.spindle)))))

theorem driveWire_eq (d : DriveFrame) : driveWire d = withCrc (drivePayload d) := by
  simp only [driveWire, drivePayload, List.append_assoc]

theorem mark_toNat (b : Bool) : (flagByte b).toNat = if b then 1 else 0 := by cases b <;> rfl

theorem driveWire_fields {d : DriveFrame} (hset : ∀ a, -2147483648 ≤ d.setpoints.get a ∧ d.setpoints.get a ≤ 2147483647)
    (hlo : -2147483648 ≤ d.spindle) (hhi : d.spindle ≤ 2147483647) :
    (∀ a, s32At (driveWire d) (1 + 4 * a.index) = d.setpoints.get a) ∧ s32At (driveWire d) 21 = d.spindle := by
  obtain ⟨whole, hwhole⟩ : ∃ w, w = driveWire d := ⟨_, rfl⟩
  have x : whole.drop 1 = beS32 d.setpoints.x ++ (beS32 d.setpoints.y ++ (beS32 d.setpoints.z ++
      (beS32 d.setpoints.w ++ (beS32 d.setpoints.b ++ (beS32 d.spindle ++ be16 (crc16 (drivePayload d)).toNat))))) := by
    rw [hwhole, driveWire_eq, withCrc, drivePayload]
    simp only [List.append_assoc]
    rfl
  have y := drop_of_field (j := 4) x (beS32_length _)
  have z := drop_of_field (j := 4) y (beS32_length _)
  have w := drop_of_field (j := 4) z (beS32_length _)
  have b := drop_of_field (j := 4) w (beS32_length _)
  have spindle := drop_of_field (j := 4) b (beS32_length _)
  rw [← hwhole]
  refine ⟨fun a => ?_, s32At_of_drop spindle hlo hhi⟩
  cases a
  · exact s32At_of_drop x (hset .x).1 (hset .x).2
  · exact s32At_of_drop y (hset .y).1 (hset .y).2
  · exact s32At_of_drop z (hset .z).1 (hset .z).2
  · exact s32At_of_drop w (hset .w).1 (hset .w).2
  · exact s32At_of_drop b (hset .b).1 (hset .b).2

/-! ## Echo frames (R11) -/

/-- The five bytes before the axis reports. -/
def echoHead (e : EchoFrame) : List Byte :=
  be8 0xE1 ++ [e.seq] ++ markBits e.fresh e.attention false false ++ be8 e.link.code ++ be8 e.cause.code

/-- The spindle's three speeds. -/
def echoSpeeds (e : EchoFrame) : List Byte :=
  beS16 e.spindleOut ++ (motorSpeedField e.spindleActual ++ beS16 e.spindleEffective)

/-- The thirteen bytes of gearbox, coolant, pendant and growth. -/
def echoBlocks (e : EchoFrame) : List Byte :=
  be8 e.gear.code ++ be8 (rangeCode e.engaged) ++ be8 (rangeCode e.target) ++ outputBits e.driven ++
    programByte e.program ++ be8 e.depth ++ be8 e.selector.code ++ be8 e.enable.code ++ be8 e.feedOverride ++
    be8 e.spindleOverride ++ markBits e.button5 e.button6 e.button7 e.button8 ++ beS16 e.applied

/-- The answer to the taken record. -/
def echoAnswer (e : EchoFrame) : List Byte :=
  [e.answer.kind] ++ be8 e.answer.status.code ++ be8 e.answer.body.length ++ e.answer.body

/-- The five axis reports. -/
def echoAxes (e : EchoFrame) : List Byte :=
  axisReportWire e.axes.x ++ (axisReportWire e.axes.y ++ (axisReportWire e.axes.z ++ (axisReportWire e.axes.w ++
    axisReportWire e.axes.b)))

/-- An echo frame's own bytes, before the CRC. -/
def echoPayload (e : EchoFrame) : List Byte :=
  echoHead e ++ (echoAxes e ++ (echoSpeeds e ++ (echoBlocks e ++ echoAnswer e)))

theorem echoAxes_eq (e : EchoFrame) : allAxes.flatMap (fun a => axisReportWire (e.axes.get a)) = echoAxes e := by
  show _ ++ (_ ++ (_ ++ (_ ++ (axisReportWire e.axes.b ++ [])))) = _
  rw [List.append_nil]
  rfl

theorem echoWire_eq (e : EchoFrame) : echoWire e = withCrc (echoPayload e) := by
  unfold echoWire
  rw [echoAxes_eq]
  simp only [echoPayload, echoHead, echoSpeeds, echoBlocks, echoAnswer, List.append_assoc]

theorem axisReportWire_length (r : AxisReport) : (axisReportWire r).length = 14 := rfl

theorem motorSpeedField_length (v : Int) : (motorSpeedField v).length = 2 := by
  unfold motorSpeedField
  split <;> rfl

theorem programByte_length (p : Option (Fin 8)) : (programByte p).length = 1 := by cases p <;> rfl

theorem echoHead_length (e : EchoFrame) : (echoHead e).length = 5 := rfl

theorem echoAxes_length (e : EchoFrame) : (echoAxes e).length = 70 := rfl

theorem echoSpeeds_length (e : EchoFrame) : (echoSpeeds e).length = 6 := by
  simp only [echoSpeeds, List.length_append, beS16_length, motorSpeedField_length]

/-- A running program's number, 255 for none. -/
def programNumber (p : Option (Fin 8)) : Nat := (p.map Fin.val).getD 255

theorem programByte_eq (p : Option (Fin 8)) : programByte p = be8 (programNumber p) := by
  cases p <;> rfl

theorem programNumber_lt (p : Option (Fin 8)) : programNumber p < 256 := by
  cases p with
  | none => decide
  | some p => exact Nat.lt_trans p.isLt (by decide)

theorem echoBlocks_length (e : EchoFrame) : (echoBlocks e).length = 13 := by
  unfold echoBlocks
  rw [programByte_eq]
  rfl

/-- A bit at its place in a byte. -/
def bitAt (b : Bool) (k : Nat) : Nat := if b then 2 ^ k else 0

theorem markBits_toNat : ∀ b0 b1 b2 b3 : Bool,
    (BitVec.ofNat 8 (bitAt b0 0 + bitAt b1 1 + bitAt b2 2 + bitAt b3 3)).toNat =
      bitAt b0 0 + bitAt b1 1 + bitAt b2 2 + bitAt b3 3 := by
  decide

theorem outputBits_toNat : ∀ b0 b1 b2 b3 b4 b5 : Bool,
    (BitVec.ofNat 8 (bitAt b0 0 + bitAt b1 1 + bitAt b2 2 + bitAt b3 3 + bitAt b4 4 + bitAt b5 5)).toNat =
      bitAt b0 0 + bitAt b1 1 + bitAt b2 2 + bitAt b3 3 + bitAt b4 4 + bitAt b5 5 := by
  decide

section
variable {w m : List Byte} {e : EchoFrame}

theorem echoHead_fields (h : w.drop 0 = echoHead e ++ m) : byteAt w 0 = 0xE1 ∧ byteAt w 1 = e.seq.toNat ∧
    byteAt w 2 = bitAt e.fresh 0 + bitAt e.attention 1 ∧ byteAt w 3 = e.link.code ∧ byteAt w 4 = e.cause.code :=
  ⟨byteAt_of_group h 0, byteAt_of_group h 1, (byteAt_of_group h 2).trans (markBits_toNat e.fresh e.attention false false),
    (byteAt_of_group h 3).trans (byte_toNat (by cases e.link <;> decide)),
    (byteAt_of_group h 4).trans (byte_toNat (by cases e.cause <;> decide))⟩

theorem axisReport_fields {k : Nat} {r : AxisReport} (h : w.drop k = axisReportWire r ++ m)
    (hr : -2147483648 ≤ r.setpoint ∧ r.setpoint ≤ 2147483647 ∧ -2147483648 ≤ r.actual ∧ r.actual ≤ 2147483647 ∧
      -2147483648 ≤ r.offset ∧ r.offset ≤ 2147483647) :
    s32At w k = r.setpoint ∧ s32At w (k + 4) = r.actual ∧ s32At w (k + 8) = r.offset ∧
      byteAt w (k + 12) = r.clampCode.toNat ∧
      byteAt w (k + 13) = bitAt r.envelopeInd 0 + bitAt r.rateInd 1 + bitAt r.granted 2 + bitAt r.heldClamped 3 := by
  obtain ⟨slo, shi, alo, ahi, olo, ohi⟩ := hr
  have fields : w.drop k = beS32 r.setpoint ++ (beS32 r.actual ++ (beS32 r.offset ++ ([r.clampCode] ++
      (markBits r.envelopeInd r.rateInd r.granted r.heldClamped ++ m)))) := by
    rw [h, axisReportWire]
    simp only [List.append_assoc]
  have actual := drop_of_field (j := 4) fields (beS32_length _)
  have offset := drop_of_field (j := 4) actual (beS32_length _)
  have marks := drop_of_field (j := 4) offset (beS32_length _)
  exact ⟨s32At_of_drop fields slo shi, s32At_of_drop actual alo ahi, s32At_of_drop offset olo ohi,
    byteAt_of_group marks 0, (byteAt_of_group marks 1).trans (markBits_toNat ..)⟩

theorem echoAxes_drop (h : w.drop 5 = echoAxes e ++ m) (a : Axis) :
    ∃ m, w.drop (5 + 14 * a.index) = axisReportWire (e.axes.get a) ++ m := by
  have x : w.drop 5 = axisReportWire e.axes.x ++ (axisReportWire e.axes.y ++ (axisReportWire e.axes.z ++
      (axisReportWire e.axes.w ++ (axisReportWire e.axes.b ++ m)))) := by
    rw [h, echoAxes]
    simp only [List.append_assoc]
  have y := drop_of_field (j := 14) x (axisReportWire_length _)
  have z := drop_of_field (j := 14) y (axisReportWire_length _)
  have wy := drop_of_field (j := 14) z (axisReportWire_length _)
  have b := drop_of_field (j := 14) wy (axisReportWire_length _)
  cases a
  · exact ⟨_, x⟩
  · exact ⟨_, y⟩
  · exact ⟨_, z⟩
  · exact ⟨_, wy⟩
  · exact ⟨_, b⟩

theorem echoSpeeds_fields (h : w.drop 75 = echoSpeeds e ++ m) (olo : -32768 ≤ e.spindleOut) (ohi : e.spindleOut ≤ 32767)
    (elo : -32768 ≤ e.spindleEffective) (ehi : e.spindleEffective ≤ 32767) :
    s16At w 75 = e.spindleOut ∧
      (-32768 ≤ e.spindleActual → e.spindleActual ≤ 32767 → s16At w 77 = e.spindleActual) ∧
      s16At w 79 = e.spindleEffective := by
  have out : w.drop 75 = beS16 e.spindleOut ++ (motorSpeedField e.spindleActual ++ (beS16 e.spindleEffective ++ m)) := by
    rw [h, echoSpeeds]
    simp only [List.append_assoc]
  have actual := drop_of_field (j := 2) out (beS16_length _)
  have effective := drop_of_field (j := 2) actual (motorSpeedField_length _)
  refine ⟨s16At_of_drop out olo ohi, fun lo hi => ?_, s16At_of_drop effective elo ehi⟩
  rw [motorSpeedField, if_pos ⟨lo, hi⟩] at actual
  exact s16At_of_drop actual lo hi

theorem echoBlocks_fields (h : w.drop 81 = echoBlocks e ++ m) (lo : -32768 ≤ e.applied) (hi : e.applied ≤ 32767)
    (hdepth : e.depth < 256) (hfeed : e.feedOverride < 256) (hspindle : e.spindleOverride < 256) :
    byteAt w 81 = e.gear.code ∧ byteAt w 82 = rangeCode e.engaged ∧ byteAt w 83 = rangeCode e.target ∧
      byteAt w 84 = bitAt e.driven.flood 0 + bitAt e.driven.tscPump 1 + bitAt e.driven.tscDrain 2 +
        bitAt e.driven.mist 3 + bitAt e.driven.conveyor 4 + bitAt e.driven.lube 5 ∧
      byteAt w 85 = programNumber e.program ∧ byteAt w 86 = e.depth ∧ byteAt w 87 = e.selector.code ∧
      byteAt w 88 = e.enable.code ∧ byteAt w 89 = e.feedOverride ∧ byteAt w 90 = e.spindleOverride ∧
      byteAt w 91 = bitAt e.button5 0 + bitAt e.button6 1 + bitAt e.button7 2 + bitAt e.button8 3 ∧
      s16At w 92 = e.applied := by
  have range : ∀ r : Option Range, rangeCode r < 256 := by
    rintro (_ | r)
    · decide
    · cases r <;> decide
  have x0 : w.drop 81 = be8 e.gear.code ++ (be8 (rangeCode e.engaged) ++ (be8 (rangeCode e.target) ++
      (outputBits e.driven ++ (be8 (programNumber e.program) ++ (be8 e.depth ++ (be8 e.selector.code ++
      (be8 e.enable.code ++ (be8 e.feedOverride ++ (be8 e.spindleOverride ++
      (markBits e.button5 e.button6 e.button7 e.button8 ++ (beS16 e.applied ++ m))))))))))) := by
    rw [h, echoBlocks, programByte_eq]
    simp only [List.append_assoc]
  have x1 := drop_of_field (j := 1) x0 rfl
  have x2 := drop_of_field (j := 1) x1 rfl
  have x3 := drop_of_field (j := 1) x2 rfl
  have x4 := drop_of_field (j := 1) x3 rfl
  have x5 := drop_of_field (j := 1) x4 rfl
  have x6 := drop_of_field (j := 1) x5 rfl
  have x7 := drop_of_field (j := 1) x6 rfl
  have x8 := drop_of_field (j := 1) x7 rfl
  have x9 := drop_of_field (j := 1) x8 rfl
  have x10 := drop_of_field (j := 1) x9 rfl
  have x11 := drop_of_field (j := 1) x10 rfl
  refine ⟨byteAt_of_drop x0 ?_, byteAt_of_drop x1 (range _), byteAt_of_drop x2 (range _),
    (byteAt_of_group x3 0).trans (outputBits_toNat ..), byteAt_of_drop x4 (programNumber_lt _), byteAt_of_drop x5 hdepth,
    byteAt_of_drop x6 ?_, byteAt_of_drop x7 ?_, byteAt_of_drop x8 hfeed, byteAt_of_drop x9 hspindle,
    (byteAt_of_group x10 0).trans (markBits_toNat ..), s16At_of_drop x11 lo hi⟩
  · cases e.gear <;> decide
  · rcases e.selector with _ | a
    · decide
    · cases a <;> decide
  · cases e.enable <;> decide

theorem echoAnswer_fields (h : w.drop 94 = echoAnswer e ++ m) (hbody : e.answer.body.length < 256) :
    byteAt w 94 = e.answer.kind.toNat ∧ byteAt w 95 = e.answer.status.code ∧
      byteAt w 96 = e.answer.body.length ∧ (w.drop 97).take e.answer.body.length = e.answer.body := by
  refine ⟨byteAt_of_group h 0, (byteAt_of_group h 1).trans (byte_toNat ?_), (byteAt_of_group h 2).trans (byte_toNat hbody),
    ?_⟩
  · cases e.answer.status <;> decide
  · have body : w.drop 97 = e.answer.body ++ m := drop_of_group (j := 3) h rfl
    rw [body, List.take_left]

end

/-- Where each group of an echo frame begins. -/
theorem echoWire_drop (e : EchoFrame) :
    (∃ m, (echoWire e).drop 0 = echoHead e ++ m) ∧ (∃ m, (echoWire e).drop 5 = echoAxes e ++ m) ∧
      (∃ m, (echoWire e).drop 75 = echoSpeeds e ++ m) ∧ (∃ m, (echoWire e).drop 81 = echoBlocks e ++ m) ∧
      ∃ m, (echoWire e).drop 94 = echoAnswer e ++ m := by
  obtain ⟨m, head⟩ : ∃ m, (echoWire e).drop 0 =
      echoHead e ++ (echoAxes e ++ (echoSpeeds e ++ (echoBlocks e ++ (echoAnswer e ++ m)))) := by
    refine ⟨be16 (crc16 (echoPayload e)).toNat, ?_⟩
    rw [echoWire_eq, withCrc, List.drop_zero]
    generalize crc16 (echoPayload e) = crc
    simp only [echoPayload, List.append_assoc]
  have axes := drop_of_field (j := 5) head (echoHead_length e)
  have speeds := drop_of_field (j := 70) axes (echoAxes_length e)
  have blocks := drop_of_field (j := 6) speeds (echoSpeeds_length e)
  have answer := drop_of_field (j := 13) blocks (echoBlocks_length e)
  exact ⟨⟨_, head⟩, ⟨_, axes⟩, ⟨_, speeds⟩, ⟨_, blocks⟩, ⟨_, answer⟩⟩

theorem echoPayload_length (e : EchoFrame) : (echoPayload e).length = 97 + e.answer.body.length := by
  simp only [echoPayload, List.length_append, echoHead_length, echoAxes_length, echoSpeeds_length, echoBlocks_length]
  simp only [echoAnswer, List.length_append, List.length_cons, List.length_nil, be8_length]
  omega

/-- Settles O15, group by group. -/
theorem returnFrameRoundTrip : Obligations.ReturnFrameRoundTrip := by
  refine ⟨fun r haxes hlo hhi => returnsOf_returnWire haxes hlo hhi, fun d hset hlo hhi => ?_,
    fun e haxes hwords hbytes => ?_, rfl, rfl, rfl, rfl, rfl, rfl⟩
  · obtain ⟨setpoints, spindle⟩ := driveWire_fields hset hlo hhi
    exact ⟨rfl, mark_toNat d.enable, setpoints, spindle, crc_of_payload (driveWire_eq d) rfl⟩
  · obtain ⟨⟨_, head⟩, ⟨_, axes⟩, ⟨_, speeds⟩, ⟨_, blocks⟩, ⟨_, answer⟩⟩ := echoWire_drop e
    have out := hwords e.spindleOut (by simp)
    have effective := hwords e.spindleEffective (by simp)
    have applied := hwords e.applied (by simp)
    have depth := hbytes e.depth (by simp)
    have feed := hbytes e.feedOverride (by simp)
    have spindle := hbytes e.spindleOverride (by simp)
    have body := hbytes e.answer.body.length (by simp)
    obtain ⟨first, seq, marks, link, cause⟩ := echoHead_fields head
    obtain ⟨spindleOut, spindleActual, spindleEffective⟩ :=
      echoSpeeds_fields speeds out.1 out.2 effective.1 effective.2
    obtain ⟨gear, engaged, target, driven, program, queued, selector, enable, feedField, spindleField, buttons, growth⟩ :=
      echoBlocks_fields blocks applied.1 applied.2 depth feed spindle
    obtain ⟨kind, status, count, text⟩ := echoAnswer_fields answer body
    have length : (echoWire e).length = 99 + e.answer.body.length := by
      rw [echoWire_eq, withCrc, List.length_append, echoPayload_length, be16_length]
      omega
    have crc := crc_of_payload (echoWire_eq e) (echoPayload_length e)
    generalize echoWire e = whole at *
    refine ⟨length, first, seq, marks, link, cause, fun a => ?_, spindleOut, spindleActual, spindleEffective, gear, ?_, ?_,
      driven, ?_, queued, selector, enable, feedField, spindleField, buttons, growth, kind, status, count, text, crc⟩
    · obtain ⟨_, report⟩ := echoAxes_drop axes a
      obtain ⟨setpoint, actual, offset, clamp, indications⟩ := axisReport_fields report (haxes a)
      exact ⟨setpoint, (congrArg (s32At whole) (by omega)).trans actual, (congrArg (s32At whole) (by omega)).trans offset,
        (congrArg (byteAt whole) (by omega)).trans clamp, (congrArg (byteAt whole) (by omega)).trans indications⟩
    · rw [engaged]
      cases e.engaged <;> rfl
    · rw [target]
      cases e.target <;> rfl
    · rw [program]
      cases e.program <;> rfl

end Sys2Proof.Machine

/-! # The services that only read (R160, R163, R169, R174) and the records of READ_STATE (11.5.1) -/

namespace Sys2Proof.Machine

-- Many short proofs that wait for the same case splitters: one after the other they need less memory.
set_option Elab.async false

/-! ## The answers -/

section
variable {s : State}

/-- What only reads ends in the state that it was given, with its answer. -/
theorem served_answer (h : SettledLaw s) (hl : s.link.state ≠ .offline) {act : State → State} {k : ServiceKind} {st : Status}
    {body : List Byte} (he : act s = answer k st body s) :
    served act s = .next { s with sent := { s.sent with answer := ⟨k.code, st, body⟩ } } :=
  served_eq hl he (h.answer k st body)

theorem tableOfId_index (t : TableId) : tableOfId t.index = some t := by cases t <;> rfl

theorem TableId.index_lt (t : TableId) : t.index < 256 := by cases t <;> decide

/-- The body of a READ_SEGMENT: the table, the copy, the offset and the count. -/
def segmentBody (t : TableId) (copy : Byte) (off n : Nat) : List Byte := be8 t.index ++ [copy] ++ be16 off ++ be8 n

theorem tableSizes_le (t : TableId) : tableSizes.get t ≤ 296 := by cases t <;> decide

variable {t : TableId} {copy : Byte} {off n : Nat}

theorem segmentBody_fields (hoff : off < 65536) (hn : n < 256) :
    tableOfId (byteAt (segmentBody t copy off n) 0) = some t ∧ byteAt (segmentBody t copy off n) 1 = copy.toNat ∧
      u16At (segmentBody t copy off n) 2 = off ∧ byteAt (segmentBody t copy off n) 4 = n := by
  have table : byteAt (segmentBody t copy off n) 0 = t.index := byte_toNat t.index_lt
  refine ⟨by rw [table, tableOfId_index], rfl, u16At_of_drop (rest := be8 n) rfl hoff, byte_toNat hn⟩

/-- What READ_SEGMENT answers of a stretch within the table, once the copy is known. -/
theorem readSegmentService_of_copy (hn : 1 ≤ n) (hn' : n ≤ 44) (hfit : off + n ≤ tableSizes.get t) :
    (∀ bs, copyOf s t copy.toNat = some (some bs) → readSegmentService (segmentBody t copy off n) s =
      answer .readSegment .ok (be8 t.index ++ [copy] ++ be16 off ++ (bs.drop off).take n) s) ∧
    (copyOf s t copy.toNat = some none →
      readSegmentService (segmentBody t copy off n) s = refuse .readSegment .tableAbsent s) := by
  have size := tableSizes_le t
  obtain ⟨table, named, start, count⟩ := segmentBody_fields (t := t) (copy := copy) (off := off) (n := n) (by omega) (by omega)
  have ok : (within 1 44 n && decide (off + n ≤ tableSizes.get t)) = true := by
    simp [within, hn, hn', hfit]
  refine ⟨fun bs hcopy => ?_, fun hcopy => ?_⟩ <;>
    (unfold readSegmentService; rw [table]; dsimp only; rw [named, start, count, hcopy]; dsimp only; rw [if_pos ok])
  rfl

end

/-! ## Fields of a record that depend on a case -/

theorem padded_length (n fill : Nat) (l : List Nat) : (padded n fill l).length = n := by
  unfold padded
  simp [List.length_flatMap]
  omega

/-- A list of codes filled up to `n` places reads back place by place. -/
theorem byteAt_padded {n fill i : Nat} {l : List Nat} (hi : i < n) (hfill : fill < 256) (hl : ∀ x ∈ l, x < 256)
    (m : List Byte) : byteAt (padded n fill l ++ m) i = l[i]?.getD fill := by
  have bytes : padded n fill l = (l.take n ++ List.replicate (n - l.length) fill).map (BitVec.ofNat 8) :=
    List.flatMap_pure_eq_map ..
  rw [byteAt_append_left (by rw [padded_length]; exact hi)]
  unfold byteAt
  rw [bytes, List.getD_eq_getElem?_getD, List.getElem?_map]
  by_cases h : i < l.length
  · rw [List.getElem?_append_left (by simp; omega), List.getElem?_take_of_lt hi, List.getElem?_eq_getElem h]
    exact byte_toNat (hl _ (List.getElem_mem h))
  · have short : (l.take n).length = l.length := by simp; omega
    rw [List.getElem?_append_right (by omega), short, List.getElem?_replicate, if_pos (by omega),
      List.getElem?_eq_none (l := l) (by omega)]
    exact byte_toNat hfill

/-- A claimant's code, 0 for none. -/
def claimantNumber (c : Option Claimant) : Nat := (c.map Claimant.code).getD 0

theorem Claimant.code_lt (c : Claimant) : c.code < 256 := by
  rcases c with a | _
  · cases a <;> decide
  · decide

theorem claimantNumber_lt (c : Option Claimant) : claimantNumber c < 256 := by
  cases c with
  | none => decide
  | some c => exact c.code_lt

/-- The running step's four fields: step, phase, wait remaining, pause count. -/
def runNumbers : Option Run → Nat × Nat × Nat × Nat
  | none => (0, 0, Config.waitFieldWhenStopped.toNat, 0)
  | some ⟨_, i, .wait n⟩ => (i, 1, n, 0)
  | some ⟨_, i, .pause n⟩ => (i, 2, Config.waitFieldWhenStopped.toNat, n)

theorem runFields_eq (r : Option Run) : runFields r = be8 (runNumbers r).1 ++ (be8 (runNumbers r).2.1 ++
    (be16 (runNumbers r).2.2.1 ++ be16 (runNumbers r).2.2.2)) := by
  rcases r with _ | ⟨_, _, _ | _⟩ <;> rfl

/-- The interval timer's state and seconds. -/
def lubeNumbers : LubeTimer → Nat × Nat
  | .stopped => (0, Config.intervalFieldWhenStopped.toNat)
  | .running n => (1, n)
  | .held n => (2, n)

theorem lubeFields_eq (l : LubeTimer) : lubeFields l = be8 (lubeNumbers l).1 ++ be16 (lubeNumbers l).2 := by
  cases l <;> rfl

/-- Pending updates, 65535 for ALWAYS. -/
def updatesNumber : Updates → Nat
  | .count n => n
  | .always => 65535

theorem updatesField_eq (u : Updates) : updatesField u = be16 (updatesNumber u) := by cases u <;> rfl

/-- The grant state and its axis. -/
def grantNumbers : Grant → Nat × Nat
  | .free => (0, 0)
  | .waiting a => (1, a.index + 1)
  | .granted a => (2, a.index + 1)

theorem grantFields_eq (g : Grant) : grantFields g = be8 (grantNumbers g).1 ++ be8 (grantNumbers g).2 := by
  cases g <;> rfl

/-- A band, 255 for none. -/
def bandNumber (b : Option (Fin 16)) : Nat := (b.map Fin.val).getD 255

theorem bandByte_eq (b : Option (Fin 16)) : bandByte b = be8 (bandNumber b) := by cases b <;> rfl

theorem bandNumber_lt (b : Option (Fin 16)) : bandNumber b < 256 := by
  cases b with
  | none => decide
  | some k => exact Nat.lt_trans k.isLt (by decide)

section
variable {w m : List Byte} {k : Nat}

/-- A mark is one byte. -/
theorem mark_of_drop {b : Bool} (h : w.drop k = mark b ++ m) : byteAt w k = if b then 1 else 0 :=
  (byteAt_of_group h 0).trans (mark_toNat b)

theorem knobFields_of_drop {q : Knob} (h : w.drop k = knobFields q ++ m) (hcount : q.count < 256) :
    byteAt w k = bandNumber q.accepted ∧ byteAt w (k + 1) = bandNumber q.candidate ∧ byteAt w (k + 2) = q.count := by
  have x0 : w.drop k = be8 (bandNumber q.accepted) ++ (be8 (bandNumber q.candidate) ++ (be8 q.count ++ m)) := by
    rw [h, knobFields, bandByte_eq, bandByte_eq]
    simp only [List.append_assoc]
  have x1 := drop_of_field (j := 1) x0 rfl
  have x2 := drop_of_field (j := 1) x1 rfl
  exact ⟨byteAt_of_drop x0 (bandNumber_lt _), byteAt_of_drop x1 (bandNumber_lt _), byteAt_of_drop x2 hcount⟩

end

/-! ## The four records -/

section
variable {s : State}

/-- The valve bank's record, field by field. -/
theorem bankRecord_fields (hqueue : s.bank.queue.length ≤ 5) (hdisagree : s.bank.disagree < 256) :
    (bankRecord s).length = 9 ∧
    byteAt (bankRecord s) 0 = claimantNumber s.bank.holder ∧ byteAt (bankRecord s) 1 = s.bank.queue.length ∧
      (∀ i, i < 5 → byteAt (bankRecord s) (2 + i) = claimantNumber s.bank.queue[i]?) ∧
      byteAt (bankRecord s) 7 = (if s.bank.pressureOk then 1 else 0) ∧ byteAt (bankRecord s) 8 = s.bank.disagree := by
  have codes : ∀ x ∈ s.bank.queue.map Claimant.code, x < 256 := fun x hx => by
    obtain ⟨c, -, rfl⟩ := List.mem_map.mp hx
    exact c.code_lt
  have x0 : (bankRecord s).drop 0 = be8 (claimantNumber s.bank.holder) ++ (be8 s.bank.queue.length ++
      (padded 5 0 (s.bank.queue.map Claimant.code) ++ (mark s.bank.pressureOk ++ (be8 s.bank.disagree ++ [])))) := by
    unfold bankRecord
    simp only [List.append_assoc, List.drop_zero, List.append_nil]
    cases s.bank.holder <;> rfl
  have length : (bankRecord s).length = 9 := by
    rw [← List.drop_zero (l := bankRecord s), x0]
    simp only [List.length_append, padded_length]
    rfl
  generalize bankRecord s = w at *
  have x1 := drop_of_field (j := 1) x0 rfl
  have x2 := drop_of_field (j := 1) x1 rfl
  have x7 := drop_of_field (j := 5) x2 (padded_length _ _ _)
  have x8 := drop_of_field (j := 1) x7 rfl
  refine ⟨length, byteAt_of_drop x0 (claimantNumber_lt _), byteAt_of_drop x1 (by omega), fun i hi => ?_, mark_of_drop x7,
    byteAt_of_drop x8 hdisagree⟩
  rw [byteAt_of_group x2 i, byteAt_padded hi (by decide) codes, List.getElem?_map]
  rfl

/-- The coolant sequencer's record, field by field. -/
theorem coolantRecord_fields (hqueue : s.coolant.queue.length ≤ 4) (htravel : s.coolant.travel < 4294967296)
    (hlo : -32768 ≤ s.inputs.tankTemp.getD 0) (hhi : s.inputs.tankTemp.getD 0 ≤ 32767) :
    (coolantRecord s).length = 24 ∧
    byteAt (coolantRecord s) 0 = programNumber (s.coolant.running.map Run.program) ∧
      ((runNumbers s.coolant.running).1 < 256 → byteAt (coolantRecord s) 1 = (runNumbers s.coolant.running).1) ∧
      ((runNumbers s.coolant.running).2.1 < 256 → byteAt (coolantRecord s) 2 = (runNumbers s.coolant.running).2.1) ∧
      ((runNumbers s.coolant.running).2.2.1 < 65536 →
        u16At (coolantRecord s) 3 = (runNumbers s.coolant.running).2.2.1) ∧
      ((runNumbers s.coolant.running).2.2.2 < 65536 →
        u16At (coolantRecord s) 5 = (runNumbers s.coolant.running).2.2.2) ∧
      byteAt (coolantRecord s) 7 = s.coolant.queue.length ∧
      (∀ i, i < 4 → byteAt (coolantRecord s) (8 + i) = programNumber s.coolant.queue[i]?) ∧
      byteAt (coolantRecord s) 12 = bitAt s.coolant.requested.flood 0 + bitAt s.coolant.requested.tscPump 1 +
        bitAt s.coolant.requested.tscDrain 2 + bitAt s.coolant.requested.mist 3 + bitAt s.coolant.requested.conveyor 4 +
        bitAt s.coolant.requested.lube 5 ∧
      byteAt (coolantRecord s) 13 = (if s.coolant.withheld then 1 else 0) ∧
      u32At (coolantRecord s) 14 = s.coolant.travel ∧
      ((lubeNumbers s.coolant.lube).1 < 256 → byteAt (coolantRecord s) 18 = (lubeNumbers s.coolant.lube).1) ∧
      ((lubeNumbers s.coolant.lube).2 < 65536 → u16At (coolantRecord s) 19 = (lubeNumbers s.coolant.lube).2) ∧
      s16At (coolantRecord s) 21 = s.inputs.tankTemp.getD 0 ∧ byteAt (coolantRecord s) 23 = s.coolant.tank.code := by
  have codes : ∀ x ∈ s.coolant.queue.map Fin.val, x < 256 := fun x hx => by
    obtain ⟨p, -, rfl⟩ := List.mem_map.mp hx
    exact Nat.lt_trans p.isLt (by decide)
  have x0 : (coolantRecord s).drop 0 = be8 (programNumber (s.coolant.running.map Run.program)) ++
      (be8 (runNumbers s.coolant.running).1 ++ (be8 (runNumbers s.coolant.running).2.1 ++
      (be16 (runNumbers s.coolant.running).2.2.1 ++ (be16 (runNumbers s.coolant.running).2.2.2 ++
      (be8 s.coolant.queue.length ++ (padded 4 0xFF (s.coolant.queue.map Fin.val) ++
      (outputBits s.coolant.requested ++ (mark s.coolant.withheld ++ (be32 s.coolant.travel ++
      (be8 (lubeNumbers s.coolant.lube).1 ++ (be16 (lubeNumbers s.coolant.lube).2 ++
      (beS16 (s.inputs.tankTemp.getD 0) ++ (be8 s.coolant.tank.code ++ []))))))))))))) := by
    unfold coolantRecord
    simp only [programByte_eq, runFields_eq, lubeFields_eq, List.append_assoc, List.drop_zero, List.append_nil]
  have length : (coolantRecord s).length = 24 := by
    rw [← List.drop_zero (l := coolantRecord s), x0]
    simp only [List.length_append, padded_length]
    rfl
  generalize coolantRecord s = w at *
  have x1 := drop_of_field (j := 1) x0 rfl
  have x2 := drop_of_field (j := 1) x1 rfl
  have x3 := drop_of_field (j := 1) x2 rfl
  have x5 := drop_of_field (j := 2) x3 rfl
  have x7 := drop_of_field (j := 2) x5 rfl
  have x8 := drop_of_field (j := 1) x7 rfl
  have x12 := drop_of_field (j := 4) x8 (padded_length _ _ _)
  have x13 := drop_of_field (j := 1) x12 rfl
  have x14 := drop_of_field (j := 1) x13 rfl
  have x18 := drop_of_field (j := 4) x14 rfl
  have x19 := drop_of_field (j := 1) x18 rfl
  have x21 := drop_of_field (j := 2) x19 rfl
  have x23 := drop_of_field (j := 2) x21 rfl
  refine ⟨length, byteAt_of_drop x0 (programNumber_lt _), byteAt_of_drop x1, byteAt_of_drop x2, u16At_of_drop x3,
    u16At_of_drop x5, byteAt_of_drop x7 (by omega), fun i hi => ?_, (byteAt_of_group x12 0).trans (outputBits_toNat ..),
    mark_of_drop x13, u32At_of_drop x14 htravel, byteAt_of_drop x18, u16At_of_drop x19, s16At_of_drop x21 hlo hhi,
    byteAt_of_drop x23 (by cases s.coolant.tank <;> decide)⟩
  rw [byteAt_of_group x8 i, byteAt_padded hi (by decide) codes, List.getElem?_map]
  rfl

/-- The growth tracker's record, field by field. -/
theorem growthRecord_fields (halo : -32768 ≤ s.comp.applied) (hahi : s.comp.applied ≤ 32767)
    (hmlo : -2147483648 ≤ s.comp.lastMeasurement.getD 0) (hmhi : s.comp.lastMeasurement.getD 0 ≤ 2147483647)
    (hwindow : s.comp.windowCount < 256) (hstopped : s.comp.stoppedMs < 4294967296) :
    (growthRecord s).length = 16 ∧ s16At (growthRecord s) 0 = s.comp.applied ∧
      byteAt (growthRecord s) 2 = (if s.comp.lastMeasurement.isSome then 1 else 0) ∧
      s32At (growthRecord s) 3 = s.comp.lastMeasurement.getD 0 ∧
      (updatesNumber s.comp.updates < 65536 → u16At (growthRecord s) 7 = updatesNumber s.comp.updates) ∧
      byteAt (growthRecord s) 9 = (if s.comp.hardFirst then 1 else 0) ∧
      byteAt (growthRecord s) 10 = s.comp.windowCount ∧
      byteAt (growthRecord s) 11 = (if s.comp.windowFaulted then 1 else 0) ∧
      u32At (growthRecord s) 12 = s.comp.stoppedMs := by
  have x0 : (growthRecord s).drop 0 = beS16 s.comp.applied ++ (mark s.comp.lastMeasurement.isSome ++
      (beS32 (s.comp.lastMeasurement.getD 0) ++ (be16 (updatesNumber s.comp.updates) ++ (mark s.comp.hardFirst ++
      (be8 s.comp.windowCount ++ (mark s.comp.windowFaulted ++ (be32 s.comp.stoppedMs ++ []))))))) := by
    unfold growthRecord
    simp only [updatesField_eq, List.append_assoc, List.drop_zero, List.append_nil]
  have length : (growthRecord s).length = 16 := by
    rw [← List.drop_zero (l := growthRecord s), x0]
    rfl
  generalize growthRecord s = w at *
  have x2 := drop_of_field (j := 2) x0 rfl
  have x3 := drop_of_field (j := 1) x2 rfl
  have x7 := drop_of_field (j := 4) x3 rfl
  have x9 := drop_of_field (j := 2) x7 rfl
  have x10 := drop_of_field (j := 1) x9 rfl
  have x11 := drop_of_field (j := 1) x10 rfl
  have x12 := drop_of_field (j := 1) x11 rfl
  exact ⟨length, s16At_of_drop x0 halo hahi, mark_of_drop x2, s32At_of_drop x3 hmlo hmhi, u16At_of_drop x7,
    mark_of_drop x9, byteAt_of_drop x10 hwindow, mark_of_drop x11, u32At_of_drop x12 hstopped⟩

/-- The pendant unit's record, field by field. -/
theorem pendantRecord_fields (hstill : s.pendant.stillCount < 256) (hdlo : -2147483648 ≤ s.pendant.distance)
    (hdhi : s.pendant.distance ≤ 2147483647) (helo : -128 ≤ s.pendant.edges) (hehi : s.pendant.edges ≤ 127)
    (hfeed : s.pendant.feedKnob.count < 256) (hspindle : s.pendant.spindleKnob.count < 256) :
    (pendantRecord s).length = 16 ∧ byteAt (pendantRecord s) 0 = (grantNumbers s.pendant.grant).1 ∧
      byteAt (pendantRecord s) 1 = (grantNumbers s.pendant.grant).2 ∧
      byteAt (pendantRecord s) 2 = (if s.pendant.permitMark then 1 else 0) ∧
      byteAt (pendantRecord s) 3 = s.pendant.stillCount ∧
      byteAt (pendantRecord s) 4 = (if s.pendant.commandMark then 1 else 0) ∧
      s32At (pendantRecord s) 5 = s.pendant.distance ∧ signed 8 (byteAt (pendantRecord s) 9) = s.pendant.edges ∧
      byteAt (pendantRecord s) 10 = bandNumber s.pendant.feedKnob.accepted ∧
      byteAt (pendantRecord s) 11 = bandNumber s.pendant.feedKnob.candidate ∧
      byteAt (pendantRecord s) 12 = s.pendant.feedKnob.count ∧
      byteAt (pendantRecord s) 13 = bandNumber s.pendant.spindleKnob.accepted ∧
      byteAt (pendantRecord s) 14 = bandNumber s.pendant.spindleKnob.candidate ∧
      byteAt (pendantRecord s) 15 = s.pendant.spindleKnob.count := by
  have grant : (grantNumbers s.pendant.grant).1 < 256 ∧ (grantNumbers s.pendant.grant).2 < 256 := by
    rcases s.pendant.grant with _ | a | a
    · decide
    · cases a <;> decide
    · cases a <;> decide
  have knob (q : Knob) : (knobFields q).length = 3 := by
    rw [knobFields, bandByte_eq, bandByte_eq]
    rfl
  have x0 : (pendantRecord s).drop 0 = be8 (grantNumbers s.pendant.grant).1 ++ (be8 (grantNumbers s.pendant.grant).2 ++
      (mark s.pendant.permitMark ++ (be8 s.pendant.stillCount ++ (mark s.pendant.commandMark ++
      (beS32 s.pendant.distance ++ (beS8 s.pendant.edges ++ (knobFields s.pendant.feedKnob ++
      (knobFields s.pendant.spindleKnob ++ [])))))))) := by
    unfold pendantRecord
    simp only [grantFields_eq, List.append_assoc, List.drop_zero, List.append_nil]
  have length : (pendantRecord s).length = 16 := by
    rw [← List.drop_zero (l := pendantRecord s), x0]
    simp only [List.length_append, knob]
    rfl
  generalize pendantRecord s = w at *
  have x1 := drop_of_field (j := 1) x0 rfl
  have x2 := drop_of_field (j := 1) x1 rfl
  have x3 := drop_of_field (j := 1) x2 rfl
  have x4 := drop_of_field (j := 1) x3 rfl
  have x5 := drop_of_field (j := 1) x4 rfl
  have x9 := drop_of_field (j := 4) x5 rfl
  have x10 := drop_of_field (j := 1) x9 rfl
  have x13 := drop_of_field (j := 3) x10 (knob _)
  obtain ⟨feedAccepted, feedCandidate, feedCount⟩ := knobFields_of_drop x10 hfeed
  obtain ⟨spindleAccepted, spindleCandidate, spindleCount⟩ := knobFields_of_drop x13 hspindle
  exact ⟨length, byteAt_of_drop x0 grant.1, byteAt_of_drop x1 grant.2, mark_of_drop x2, byteAt_of_drop x3 hstill,
    mark_of_drop x4, s32At_of_drop x5 hdlo hdhi, signedByteAt_of_drop x9 helo hehi, feedAccepted, feedCandidate, feedCount,
    spindleAccepted, spindleCandidate, spindleCount⟩

end

/-- READ_STATE of a record's number. -/
theorem exec_readState {s : State} (h : SettledLaw s) (hl : s.link.state ≠ .offline) {v : Byte} {r : List Byte}
    (hr : recordOf s v.toNat = some r) :
    exec (.readState [v]) s = .next { s with sent := { s.sent with answer := ⟨18, .ok, r⟩ } } := by
  have work : readService .readState [v] s = answer .readState .ok r s := by
    refine (judged_of_ok rfl _ s).trans ?_
    unfold readStateService
    rw [show byteAt [v] 0 = v.toNat from rfl, hr]
  exact served_answer h hl work

theorem recordOf_none {n : Nat} (h : 4 ≤ n) (s : State) : recordOf s n = none := by
  obtain ⟨k, rfl⟩ := Nat.exists_eq_add_of_le' h
  rfl

/-- READ_SEGMENT of a stretch within a table. -/
theorem exec_readSegment {s : State} (h : SettledLaw s) (hl : s.link.state ≠ .offline) {t : TableId} {copy : Byte}
    {off n : Nat} {st : Status} {r : List Byte}
    (he : readSegmentService (segmentBody t copy off n) s = answer .readSegment st r s) :
    exec (.readSegment (segmentBody t copy off n)) s =
      .next { s with sent := { s.sent with answer := ⟨3, st, r⟩ } } :=
  served_answer h hl ((judged_of_ok rfl _ s).trans he)

/-- Settles O47: the answers, and the four records field by field. -/
theorem readingServicesAnswer : Obligations.ReadingServicesAnswer := by
  intro s h hl
  refine ⟨?_, served_answer h hl (judged_of_ok rfl _ s), fun t off n hn hn' hfit => ?_, exec_readState h hl rfl,
    exec_readState h hl rfl, exec_readState h hl rfl, exec_readState h hl rfl, fun v hv => ?_, fun hqueue hdisagree => ?_,
    fun hqueue htravel hlo hhi => ?_, fun halo hahi hmlo hmhi hwindow hstopped => ?_,
    fun hstill hdlo hdhi helo hehi hfeed hspindle => ?_⟩
  · have info : infoBody s = ([0x4E, 0x04, 0x18, 0x03] : List Byte) ++
        allTables.flatMap (fun t => infoOf (s.store.active.get t)) ++ be8 s.store.state.code := rfl
    refine (served_answer h hl (judged_of_ok rfl _ s)).trans ?_
    rw [info]
    congr 7
  · obtain ⟨staging, -⟩ := readSegmentService_of_copy (s := s) (copy := 0) hn hn' hfit
    obtain ⟨active, absent⟩ := readSegmentService_of_copy (s := s) (copy := 1) hn hn' hfit
    refine ⟨exec_readSegment h hl (staging _ rfl), fun img himg => exec_readSegment h hl (active _ ?_),
      fun himg => exec_readSegment h hl (absent ?_)⟩
    · show some (activeBytes s t) = _
      unfold activeBytes
      rw [himg]
      rfl
    · show some (activeBytes s t) = _
      unfold activeBytes
      rw [himg]
      rfl
  · have work : readService .readState [v] s = answer .readState .badParam [] s := by
      refine (judged_of_ok rfl _ s).trans ?_
      unfold readStateService
      rw [show byteAt [v] 0 = v.toNat from rfl, recordOf_none hv]
      rfl
    exact served_answer h hl work
  · obtain ⟨length, holder, depth, queue, pressure, disagree⟩ := bankRecord_fields hqueue hdisagree
    have number (c : Option Claimant) : claimantNumber c = match c with
        | none => 0
        | some (.clamp .x) => 1
        | some (.clamp .y) => 2
        | some (.clamp .z) => 3
        | some (.clamp .b) => 4
        | some .gearbox => 5 := by
      rcases c with _ | _ | _
      · rfl
      · rename_i a
        cases a <;> rfl
      · rfl
    exact ⟨length, holder.trans (number _), depth, fun i hi => (queue i hi).trans (number _), pressure, disagree⟩
  · obtain ⟨length, program, step, phase, wait, pause, depth, queue, outputs, withheld, travel, lube, seconds, temp, tank⟩ :=
      coolantRecord_fields hqueue htravel hlo hhi
    have number (p : Option (Fin 8)) : programNumber p = match p with
        | none => 255
        | some p => p.val := by cases p <;> rfl
    refine ⟨length, program.trans (number _), fun e => ?_, fun p i n hi hn e => ?_, fun p i n hi hn e => ?_, depth,
      fun i hi => (queue i hi).trans (number _), outputs, withheld, travel, fun e => ?_, fun n hn => ⟨fun e => ?_, fun e => ?_⟩,
      temp, ?_⟩
    · rw [e] at step phase pause
      exact ⟨step (by decide), phase (by decide), pause (by decide)⟩
    · rw [e] at step phase wait pause
      exact ⟨step hi, phase (by simp [runNumbers]), wait hn, pause (by simp [runNumbers])⟩
    · rw [e] at step phase pause
      exact ⟨step hi, phase (by simp [runNumbers]), pause hn⟩
    · rw [e] at lube
      exact lube (by decide)
    · rw [e] at lube seconds
      exact ⟨lube (by simp [lubeNumbers]), seconds hn⟩
    · rw [e] at lube seconds
      exact ⟨lube (by simp [lubeNumbers]), seconds hn⟩
    · rw [tank]
      cases s.coolant.tank <;> rfl
  · obtain ⟨length, applied, measured, measurement, updates, hard, count, faulted, stopped⟩ :=
      growthRecord_fields halo hahi hmlo hmhi hwindow hstopped
    refine ⟨length, applied, ?_, measurement, fun e => ?_, fun n hn e => ?_, hard, count, faulted, stopped⟩
    · rw [measured]
      cases s.comp.lastMeasurement <;> rfl
    · rw [e] at updates
      exact updates (by decide)
    · rw [e] at updates
      exact updates hn
  · obtain ⟨length, grant, axis, permit, still, command, distance, edges, feedAccepted, feedCandidate, feedCount,
      spindleAccepted, spindleCandidate, spindleCount⟩ := pendantRecord_fields hstill hdlo hdhi helo hehi hfeed hspindle
    have number (k : Option (Fin 16)) : bandNumber k = match k with
        | none => 255
        | some k => k.val := by cases k <;> rfl
    refine ⟨length, fun e => ?_, fun a => ⟨fun e => ?_, fun e => ?_⟩, permit, still, command, distance, edges,
      feedAccepted.trans (number _), feedCandidate.trans (number _), feedCount, spindleAccepted.trans (number _),
      spindleCandidate.trans (number _), spindleCount⟩ <;>
    · rw [e] at grant axis
      exact ⟨grant, axis⟩

end Sys2Proof.Machine

/-! # Services of growth and faults (R57, R58, R80, R105, R170) -/

namespace Sys2Proof.Machine

-- Many short proofs that wait for the same case splitters: one after the other they need less memory.
set_option Elab.async false

/-! ## COMP_TRIGGER (R57) -/

section
variable {s : State}

theorem activeBytes_of_some {t : TableId} {img : Image} (h : s.store.active.get t = some img) :
    activeBytes s t = some img.bytes := by
  unfold activeBytes
  rw [h]
  rfl

theorem activeBytes_of_none {t : TableId} (h : s.store.active.get t = none) : activeBytes s t = none := by
  unfold activeBytes
  rw [h]
  rfl

theorem present_of_some {t : TableId} {img : Image} (h : s.store.active.get t = some img) : present s t = true := by
  unfold present
  rw [h]
  rfl

theorem not_present_of_none {t : TableId} (h : s.store.active.get t = none) : ¬ present s t = true := by
  unfold present
  rw [h]
  nofun

/-- A trigger under a table sets the updates of R48 and, where HARD, the hard-first mark. -/
theorem growthTrigger_of_active {bs : List Byte} (h : activeBytes s .compensation = some bs) (hard : Bool) :
    growthTrigger hard s = { s with comp := { s.comp with
      updates := updatesOf (compRestart bs), hardFirst := s.comp.hardFirst || hard } } := by
  unfold growthTrigger
  rw [h]

theorem compTriggerService_of_absent (h : s.store.active.compensation = none) (b : List Byte) :
    compTriggerService b s = refuse .compTrigger .tableAbsent s :=
  if_neg (not_present_of_none (t := .compensation) h)

theorem compTriggerService_of_present {img : Image} (h : s.store.active.compensation = some img) (v : Byte) :
    (v.toNat ≤ 1 → compTriggerService [v] s = answer .compTrigger .ok [] (growthTrigger (decide (v = 1)) s)) ∧
    (1 < v.toNat → compTriggerService [v] s = refuse .compTrigger .badParam s) := by
  have hp : present s .compensation = true := present_of_some (t := .compensation) h
  refine ⟨fun hv => ?_, fun hv => ?_⟩
  · rcases Nat.le_one_iff_eq_zero_or_eq_one.mp hv with e | e
    · obtain rfl : v = 0 := BitVec.eq_of_toNat_eq e
      exact if_pos hp
    · obtain rfl : v = 1 := BitVec.eq_of_toNat_eq e
      exact if_pos hp
  · unfold compTriggerService
    rw [if_pos hp, show byteAt [v] 0 = v.toNat from rfl]
    obtain ⟨k, hk⟩ := Nat.exists_eq_add_of_le' hv
    rw [hk]
    rfl

/-! ## GROWTH_ZERO (R58) -/

theorem overwrite_drop {bs data : List Byte} {off : Nat} (h : off ≤ bs.length) :
    (overwrite bs off data).drop off = data ++ bs.drop (off + data.length) := by
  have front : (bs.take off).length = off := by rw [List.length_take]; omega
  unfold overwrite
  rw [List.append_assoc, List.drop_left' front]

/-- Bytes outside the stretch written over stay as they were. -/
theorem overwrite_getElem? {bs data : List Byte} {off i : Nat} (h : off + data.length ≤ bs.length)
    (hi : i < off ∨ off + data.length ≤ i) : (overwrite bs off data)[i]? = bs[i]? := by
  have front : (bs.take off).length = off := by rw [List.length_take]; omega
  unfold overwrite
  rcases hi with hi | hi
  · rw [List.append_assoc, List.getElem?_append_left (by omega), List.getElem?_take_of_lt hi]
  · have both : (bs.take off ++ data).length = off + data.length := by rw [List.length_append, front]
    rw [List.getElem?_append_right (by omega), both, List.getElem?_drop]
    congr 1
    omega

theorem growthRef_lt {sum : Nat} (h : sum ≤ 16 * 4095) : growthRef sum < 65536 := by
  have : roundDiv (sum : Int) 16 ≤ 4095 := roundDiv_le_of_le_mul (by decide) (by omega)
  unfold growthRef
  omega

/-- The ref field stands in bytes 42 and 43. -/
theorem compRef_overwrite {bs : List Byte} (h : bs.length = 53) {n : Nat} (hn : n < 65536) :
    compRef (overwrite bs 42 (be16 n)) = n :=
  u16At_of_drop (overwrite_drop (by omega)) hn

/-- The active compensation table after a GROWTH_ZERO. -/
def zeroedTable (bs : List Byte) (sum : Nat) : List Byte := overwrite bs 42 (be16 (growthRef sum))

theorem growthZeroService_of_wrong (h : s.link.state ≠ .standby ∧ s.link.state ≠ .running) :
    growthZeroService s = refuse .growthZero .wrongState s :=
  if_neg fun k => k.elim h.1 h.2

theorem growthZeroService_of_absent (hl : s.link.state = .standby ∨ s.link.state = .running)
    (h : s.store.active.compensation = none) : growthZeroService s = refuse .growthZero .tableAbsent s := by
  unfold growthZeroService
  rw [if_pos hl, activeBytes_of_none (t := .compensation) h]

theorem growthZeroService_of_table (hl : s.link.state = .standby ∨ s.link.state = .running) {img : Image}
    (h : s.store.active.compensation = some img) :
    (s.comp.lastSum = none → growthZeroService s = refuse .growthZero .wrongState s) ∧
    (∀ sum, s.comp.lastSum = some sum → growthZeroService s =
      answer .growthZero .ok (be16 (growthRef sum) ++ be16 (crc16 (zeroedTable img.bytes sum)).toNat)
        (setActive .compensation (imageOf (zeroedTable img.bytes sum)) s)) := by
  refine ⟨fun hs => ?_, fun sum hs => ?_⟩ <;>
    (unfold growthZeroService; rw [if_pos hl, activeBytes_of_some (t := .compensation) h]; dsimp only; rw [hs])
  rfl

end

/-- Settles O58, case by case of R57 and R58. -/
theorem growthServicesAct : Obligations.GrowthServicesAct := by
  intro v s h hl
  have trigger : blockService .compTrigger [v] [] s = compTriggerService [v] s := judged_of_ok rfl _ s
  have zero : blockService .growthZero [] [] s = growthZeroService s := judged_of_ok rfl _ s
  refine ⟨fun ha => served_refuse h hl (trigger.trans (compTriggerService_of_absent ha _)), fun img himg => ?_,
    fun hw => served_refuse h hl (zero.trans (growthZeroService_of_wrong hw)),
    fun hst ha => served_refuse h hl (zero.trans (growthZeroService_of_absent hst ha)), fun hst hp hsum => ?_,
    fun img sum hst himg hsum hlen hle => ?_⟩
  · obtain ⟨passes, other⟩ := compTriggerService_of_present himg v
    by_cases hv : v.toNat ≤ 1
    · rw [if_pos hv]
      have active := activeBytes_of_some (s := s) (t := .compensation) himg
      exact served_eq hl (trigger.trans ((passes hv).trans (by rw [growthTrigger_of_active active]; rfl)))
        (h.of_same rfl rfl)
    · rw [if_neg hv]
      exact served_refuse h hl (trigger.trans (other (by omega)))
  · obtain ⟨img, himg⟩ := Option.ne_none_iff_exists'.mp hp
    exact served_refuse h hl (zero.trans ((growthZeroService_of_table hst himg).1 hsum))
  · refine ⟨_, zeroedTable img.bytes sum, served_eq hl (zero.trans ((growthZeroService_of_table hst himg).2 sum hsum))
      (((h.withStore _).answer _ _ _)), rfl, ?_, compRef_overwrite hlen (growthRef_lt hle), fun i h42 h43 => ?_, ?_, rfl, rfl,
      rfl, rfl, rfl⟩
    · exact (overwrite_length (by rw [be16_length]; omega)).trans hlen
    · exact overwrite_getElem? (by rw [be16_length]; omega) (by rw [be16_length]; omega)
    · rw [show compRef (zeroedTable img.bytes sum) = growthRef sum from compRef_overwrite hlen (growthRef_lt hle)]
      rfl

/-! ## CLEAR_FAULT (R80, R105, R170) -/

section
variable {s : State}

theorem clampInForce_iff {a : ClampAxis} : clampInForce s a = true ↔
    ∃ bs, activeBytes s .clamp = some bs ∧ clampRecordPresent bs a = true := by
  unfold clampInForce
  cases activeBytes s .clamp with
  | none => simp
  | some bs => simp

theorem clampAbsent_iff {a : ClampAxis} : clampAbsent s a = true ↔
    ∃ bs, activeBytes s .clamp = some bs ∧ clampRecordPresent bs a = false := by
  unfold clampAbsent
  cases activeBytes s .clamp with
  | none => simp
  | some bs => simp

theorem clearTargetOf_none {n : Nat} (h : 5 ≤ n) : clearTargetOf n = none := by
  obtain ⟨k, rfl⟩ := Nat.exists_eq_add_of_le' h
  rfl

theorem clearFaultService_of_unknown {v : Byte} (h : 5 ≤ v.toNat) :
    clearFaultService [v] s = refuse .clearFault .badParam s := by
  unfold clearFaultService
  rw [show byteAt [v] 0 = v.toNat from rfl, clearTargetOf_none h]

theorem clearFaultService_clamp (a : ClampAxis) : clearFaultService (be8 a.index) s = clearClampService a s := by
  cases a <;> rfl

theorem clearClampService_of_no_table {a : ClampAxis} (h : s.store.active.clamp = none) :
    clearClampService a s = refuse .clearFault .tableAbsent s := by
  unfold clearClampService
  rw [activeBytes_of_none (t := .clamp) h]

theorem clearClampService_of_absent {a : ClampAxis} (h : clampAbsent s a = true) :
    clearClampService a s = refuse .clearFault .badParam s := by
  obtain ⟨bs, hbs, hp⟩ := clampAbsent_iff.mp h
  unfold clearClampService
  rw [hbs]
  exact if_neg (by rw [hp]; decide)

theorem clearClampService_of_inForce {a : ClampAxis} (h : clampInForce s a = true) : clearClampService a s =
    if (s.clamps.get a).state = .fault then
      answer .clearFault .ok (be8 ((clearClampFault a s).clamps.get a).state.code) (clearClampFault a s)
    else refuse .clearFault .wrongState s := by
  obtain ⟨bs, hbs, hp⟩ := clampInForce_iff.mp h
  unfold clearClampService
  rw [hbs]
  exact if_pos hp

theorem clearGearService_of_no_table (h : s.store.active.gear = none) :
    clearGearService s = refuse .clearFault .tableAbsent s := if_neg (not_present_of_none (t := .gear) h)

theorem clearGearService_of_table (h : s.store.active.gear ≠ none) : clearGearService s =
    if s.gear.state = .fault then
      answer .clearFault .ok (be8 (reevaluate s).gear.state.code ++ be8 (rangeCode (reevaluate s).gear.engaged))
        (reevaluate s)
    else refuse .clearFault .wrongState s := by
  obtain ⟨img, himg⟩ := Option.ne_none_iff_exists'.mp h
  exact if_pos (present_of_some (t := .gear) himg)

theorem reevaluate_of_shown {r : Range} (h : shownRange s = some r) : reevaluate s = enterEngaged r s := by
  unfold reevaluate
  rw [h]

theorem reevaluate_of_none (h : shownRange s = none) : reevaluate s = enterUnknown s := by
  unfold reevaluate
  rw [h]

/-- Outside ENGAGED the pump is withheld, whatever the tank. -/
theorem withholding_of_not_engaged (h : s.gear.state ≠ .engaged) : withholding s = true := by
  unfold withholding
  rw [decide_eq_true h]
  rfl

/-- Entering ENGAGED leaves a settled state settled where the pump was not requested or stays withheld by the tank. -/
theorem SettledLaw.enterEngaged (h : SettledLaw s) (hg : s.gear.state ≠ .engaged) (r : Range)
    (hpump : s.coolant.tank ≠ .inactive ∨ s.coolant.requested.tscPump = false) : SettledLaw (enterEngaged r s) := by
  refine ⟨h.1, h.2.trans ?_⟩
  rcases hpump with htank | hoff
  · have before := withholding_of_not_engaged hg
    have after : withholding (Machine.enterEngaged r s) = true := by
      unfold withholding
      rw [decide_eq_true (show (Machine.enterEngaged r s).coolant.tank ≠ .inactive from htank), Bool.or_true]
    unfold demandNow
    rw [before, after]
    rfl
  · unfold demandNow
    rw [hoff, show (Machine.enterEngaged r s).coolant.requested.tscPump = false from hoff]
    rfl

end

/-- Settles O59, target by target. -/
theorem clearFaultReevaluates : Obligations.ClearFaultReevaluates := by
  intro s h hl
  have work (b : List Byte) (hb : bodyLengthOk .clearFault b = true) :
      blockService .clearFault b [] s = clearFaultService b s := judged_of_ok hb _ s
  have clamp (a : ClampAxis) : blockService .clearFault (be8 a.index) [] s = clearClampService a s :=
    (work _ rfl).trans (clearFaultService_clamp a)
  have gear : blockService .clearFault [4] [] s = clearGearService s := work _ rfl
  refine ⟨fun v hv => served_refuse h hl ((work _ rfl).trans (clearFaultService_of_unknown hv)),
    fun a ha => served_refuse h hl ((clamp a).trans (clearClampService_of_no_table ha)),
    fun a ha => served_refuse h hl ((clamp a).trans (clearClampService_of_absent ha)),
    fun a hp hf => served_refuse h hl ((clamp a).trans ((clearClampService_of_inForce hp).trans (if_neg hf))),
    fun a st hp hf hst => ?_, fun ha => served_refuse h hl (gear.trans (clearGearService_of_no_table ha)),
    fun hp hf => served_refuse h hl (gear.trans ((clearGearService_of_table hp).trans (if_neg hf))),
    fun hp hf hshown => ?_, fun r hp hf hshown hpump => ?_⟩
  · have cleared : clearedClampState (decide (s.link.state = .halted)) (s.seen.reading.get a) = st := by
      rw [hst]
      unfold clearedClampState
      cases s.seen.reading.get a <;> simp
    have effect : clearClampFault a s = setClamp a st none s := by
      unfold clearClampFault
      rw [cleared]
    refine served_eq hl ((clamp a).trans ((clearClampService_of_inForce hp).trans (if_pos hf) |>.trans ?_))
      (h.of_same rfl rfl)
    rw [effect, setClamp_get_self]
    rfl
  · have effect := reevaluate_of_none hshown
    refine served_eq hl (gear.trans ((clearGearService_of_table hp).trans (if_pos hf) |>.trans (by rw [effect]; rfl))) ?_
    refine ⟨h.1, h.2.trans ?_⟩
    unfold demandNow
    rw [withholding_of_not_engaged (by rw [hf]; decide)]
    rfl
  · have effect := reevaluate_of_shown hshown
    have hg : s.gear.state ≠ .engaged := by rw [hf]; decide
    exact served_eq hl (gear.trans ((clearGearService_of_table hp).trans (if_pos hf) |>.trans (by rw [effect]; rfl)))
      ((h.enterEngaged hg r hpump).withSent _)

end Sys2Proof.Machine

/-! # Recovery of dropped clamps (R78), and RECOVER (R18) -/

namespace Sys2Proof.Machine

-- Many short proofs that wait for the same case splitters: one after the other they need less memory.
set_option Elab.async false

/-! ## What a grant does to the bank and to one clamp (R65) -/

section
variable {s t u : State} {a c : ClampAxis}

theorem beginTransit_bank (d : Claimant) (s : State) : (beginTransit d s).bank = s.bank := by
  cases d with
  | clamp a =>
    show (beginClampTransit a s).bank = s.bank
    unfold beginClampTransit
    split <;> rfl
  | gearbox =>
    show (beginShift s).bank = s.bank
    unfold beginShift
    split <;> rfl

theorem beginClampTransit_of_clampWait {r : Bool} (h : (s.clamps.get a).state = .clampWait r) :
    beginClampTransit a s = setClamp a .clamping (some (clampCeiling s a)) s := by
  unfold beginClampTransit
  rw [h]

theorem beginClampTransit_of_unclampWait (h : (s.clamps.get a).state = .unclampWait) :
    beginClampTransit a s = setClamp a .unclamping (some (unclampCeiling s a)) s := by
  unfold beginClampTransit
  rw [h]

theorem beginClampTransit_of_not_waiting (h : (s.clamps.get a).state.waits = false) : beginClampTransit a s = s := by
  unfold beginClampTransit
  split
  case h_1 e => rw [e] at h; cases h
  case h_2 e => rw [e] at h; cases h
  all_goals rfl

theorem beginClampTransit_get_ne (h : c ≠ a) (s : State) : (beginClampTransit a s).clamps.get c = s.clamps.get c := by
  unfold beginClampTransit
  split
  · exact setClamp_get_ne h _ _ s
  · exact setClamp_get_ne h _ _ s
  all_goals rfl

theorem beginShift_clamps (s : State) : (beginShift s).clamps = s.clamps := by
  unfold beginShift
  split <;> rfl

/-- The conditions of a grant (R65). -/
theorem grantReady_iff : grantReady s = true ↔
    s.bank.holder = none ∧ s.bank.pressureOk = true ∧ s.link.state.atRest = false := by
  simp [grantReady, and_assoc]

theorem tryGrant_pressureOk (s : State) : (tryGrant s).bank.pressureOk = s.bank.pressureOk := by
  rcases tryGrant_cases s with ⟨-, e⟩ | ⟨d, rest, -, -, e⟩
  · rw [e]
  · rw [e, beginTransit_bank]

/-- After a test of the grant nothing that waits could be granted. -/
theorem tryGrant_eager (s : State) (h : grantReady (tryGrant s) = true) : (tryGrant s).bank.queue = [] := by
  rcases tryGrant_cases s with ⟨e | e, k⟩ | ⟨d, rest, -, -, k⟩
  · rw [k] at h ⊢
    rw [e] at h
    cases h
  · rw [k, e]
  · have := (grantReady_iff.mp h).1
    rw [k, beginTransit_bank] at this
    cases this

/-- A grant changes one waiting clamp alone, which then holds the bank. -/
theorem tryGrant_clamp (s : State) (a : ClampAxis) : (tryGrant s).clamps.get a = s.clamps.get a ∨
    ((s.clamps.get a).state.waits = true ∧ s.bank.pressureOk = true ∧ (tryGrant s).bank.holder = some (.clamp a) ∧
      (tryGrant s).clamps.get a = (beginClampTransit a s).clamps.get a) := by
  rcases tryGrant_cases s with ⟨-, e⟩ | ⟨d, rest, hr, -, e⟩
  · exact .inl (by rw [e])
  · rw [e]
    cases d with
    | gearbox => exact .inl (by rw [show beginTransit .gearbox _ = beginShift _ from rfl, beginShift_clamps])
    | clamp q =>
      by_cases hb : a = q
      · subst hb
        by_cases hw : (s.clamps.get a).state.waits = true
        · refine .inr ⟨hw, (grantReady_iff.mp hr).2.1, by rw [beginTransit_bank], ?_⟩
          show (beginClampTransit a _).clamps.get a = _
          unfold beginClampTransit
          dsimp only
          split <;> rfl
        · refine .inl ?_
          show (beginClampTransit a _).clamps.get a = _
          rw [beginClampTransit_of_not_waiting (by simpa using hw)]
      · exact .inl (beginClampTransit_get_ne hb _)

/-! ## Claims -/

theorem claim_pressureOk (d : Claimant) (s : State) : (claim d s).bank.pressureOk = s.bank.pressureOk := by
  rcases claim_cases d s with ⟨-, e⟩ | ⟨-, -, e⟩
  · rw [e]
  · rw [e, tryGrant_pressureOk]

/-- A claim changes one waiting clamp alone, which then holds the bank. -/
theorem claim_clamp (d : Claimant) (s : State) (a : ClampAxis) : (claim d s).clamps.get a = s.clamps.get a ∨
    ((s.clamps.get a).state.waits = true ∧ s.bank.pressureOk = true ∧ (claim d s).bank.holder = some (.clamp a) ∧
      (claim d s).clamps.get a = (beginClampTransit a s).clamps.get a) := by
  rcases claim_cases d s with ⟨-, e⟩ | ⟨-, -, e⟩
  · exact .inl (by rw [e])
  · rw [e]
    rcases tryGrant_clamp { s with bank := { s.bank with queue := s.bank.queue ++ [d] } } a with k | ⟨hw, hp, hh, k⟩
    · exact .inl k
    · refine .inr ⟨hw, hp, hh, k.trans ?_⟩
      unfold beginClampTransit
      dsimp only
      split <;> rfl

theorem claim_holder {d e : Claimant} (h : s.bank.holder = some e) : (claim d s).bank.holder = some e := by
  rcases claim_cases d s with ⟨-, k⟩ | ⟨-, -, k⟩
  · rw [k, h]
  · rw [k, tryGrant_of_holder (s := { s with bank := { s.bank with queue := s.bank.queue ++ [d] } }) h]
    exact h

/-- Where nothing that waits could be granted before a claim, neither could it after. -/
theorem claim_eager {d : Claimant} (h : grantReady s = true → s.bank.queue = [])
    (hr : grantReady (claim d s) = true) : (claim d s).bank.queue = [] := by
  rcases claim_cases d s with ⟨-, e⟩ | ⟨-, -, e⟩
  · rw [e] at hr ⊢
    exact h hr
  · rw [e] at hr ⊢
    exact tryGrant_eager _ hr

/-! ## A recovery -/

/-- What its recovery makes of a dropped clamp: it waits under the drop ceiling, or it holds the bank and clamps. -/
def Recovered (u : State) (a : ClampAxis) (t : State) : Prop :=
  t.clamps.get a = ⟨.clampWait true, some (dropCeiling u), 0⟩ ∨
  (t.clamps.get a = ⟨.clamping, some (clampCeiling u a), 0⟩ ∧ t.bank.holder = some (.clamp a) ∧
    t.bank.pressureOk = true)

theorem recoverClamp_within (s : State) (a : ClampAxis) : Within bankParts s (recoverClamp s a) :=
  (recoverClamp_bankOnly s a).within

theorem clampCeiling_congr (h : t.store = s.store) (a : ClampAxis) : clampCeiling t a = clampCeiling s a := by
  unfold clampCeiling
  rw [activeBytes_congr h]

theorem dropCeiling_congr (h : t.store = s.store) : dropCeiling t = dropCeiling s := by
  unfold dropCeiling
  rw [activeBytes_congr h]

theorem recoverable_congr (hw : Within bankParts s t) (h : t.clamps.get a = s.clamps.get a) :
    recoverable t a = recoverable s a := by
  unfold recoverable clampInForce
  rw [h, activeBytes_congr hw.same_store, hw.same_link, hw.same_inputs]

theorem recoverable_iff : recoverable s a = true ↔ (s.clamps.get a).state = .dropped ∧ clampInForce s a = true ∧
    s.link.state.atRest = false ∧ s.inputs.clampsDelivered = true := by
  simp [recoverable, and_assoc]

theorem recoverClamp_pressureOk (s : State) (a : ClampAxis) : (recoverClamp s a).bank.pressureOk = s.bank.pressureOk := by
  rcases recoverClamp_cases s a with ⟨-, e⟩ | ⟨-, e⟩
  · rw [e]
  · rw [e, claim_pressureOk]
    rfl

theorem recoverClamp_holder {d : Claimant} (h : s.bank.holder = some d) : (recoverClamp s c).bank.holder = some d := by
  rcases recoverClamp_cases s c with ⟨-, e⟩ | ⟨-, e⟩
  · rw [e, h]
  · rw [e]
    exact claim_holder h

/-- The recovery of one clamp leaves any other that does not wait, and itself where it may not recover. -/
theorem recoverClamp_of_not_waiting (hw : (s.clamps.get a).state.waits = false)
    (h : c ≠ a ∨ recoverable s a = false) : (recoverClamp s c).clamps.get a = s.clamps.get a := by
  rcases recoverClamp_cases s c with ⟨-, e⟩ | ⟨hr, e⟩
  · rw [e]
  · have hne : c ≠ a := h.elim id fun k e => by rw [e, k] at hr; cases hr
    rw [e]
    have kept := setClamp_get_ne (Ne.symm hne) (.clampWait true) (some (dropCeiling s)) s
    rcases claim_clamp (.clamp c) (setClamp c (.clampWait true) (some (dropCeiling s)) s) a with k | ⟨k, -⟩
    · exact k.trans kept
    · rw [kept, hw] at k
      cases k

/-- A clamp that waits is left as it is by another's recovery, or granted the bank. -/
theorem recoverClamp_of_waiting (hw : (s.clamps.get a).state.waits = true) :
    (recoverClamp s c).clamps.get a = s.clamps.get a ∨
    (s.bank.pressureOk = true ∧ (recoverClamp s c).bank.holder = some (.clamp a) ∧
      (recoverClamp s c).clamps.get a = (beginClampTransit a s).clamps.get a) := by
  rcases recoverClamp_cases s c with ⟨-, e⟩ | ⟨hr, e⟩
  · exact .inl (by rw [e])
  · have hne : a ≠ c := fun k => by
      rw [k, (recoverable_iff.mp hr).1] at hw
      cases hw
    rw [e]
    have kept := setClamp_get_ne hne (.clampWait true) (some (dropCeiling s)) s
    rcases claim_clamp (.clamp c) (setClamp c (.clampWait true) (some (dropCeiling s)) s) a with k | ⟨-, hp, hh, k⟩
    · exact .inl (k.trans kept)
    · refine .inr ⟨hp, hh, k.trans ?_⟩
      unfold beginClampTransit
      rw [kept]
      split
      · rw [setClamp_get_self, setClamp_get_self]
        rfl
      · rw [setClamp_get_self, setClamp_get_self]
        rfl
      all_goals exact kept

/-- At its turn a clamp that may recover does. -/
theorem recoverClamp_recovered (h : recoverable s a = true) : Recovered s a (recoverClamp s a) := by
  rcases recoverClamp_cases s a with ⟨k, -⟩ | ⟨-, e⟩
  · rw [h] at k; cases k
  · rw [e]
    have own := setClamp_get_self a (.clampWait true) (some (dropCeiling s)) s
    rcases claim_clamp (.clamp a) (setClamp a (.clampWait true) (some (dropCeiling s)) s) a with k | ⟨-, hp, hh, k⟩
    · exact .inl (k.trans own)
    · refine .inr ⟨k.trans ?_, hh, (claim_pressureOk _ _).trans hp⟩
      rw [beginClampTransit_of_clampWait (by rw [own]), setClamp_get_self]
      rfl

theorem Recovered.recoverClamp (hw : Within bankParts u s) (h : Recovered u a s) (c : ClampAxis) :
    Recovered u a (recoverClamp s c) := by
  rcases h with h | ⟨h, hh, hp⟩
  · rcases recoverClamp_of_waiting (c := c) (show (s.clamps.get a).state.waits = true by rw [h]; rfl) with k | ⟨hp, hh, k⟩
    · exact .inl (k.trans h)
    · refine .inr ⟨k.trans ?_, hh, (recoverClamp_pressureOk s c).trans hp⟩
      rw [beginClampTransit_of_clampWait (by rw [h]), setClamp_get_self, clampCeiling_congr hw.same_store]
  · refine .inr ⟨?_, recoverClamp_holder hh, (recoverClamp_pressureOk s c).trans hp⟩
    rw [recoverClamp_of_not_waiting (by rw [h]; rfl) (.inr (by unfold recoverable; rw [h]; rfl)), h]

/-! ## All of them, in whatever order -/

theorem foldl_recoverClamp_within (l : List ClampAxis) (s : State) : Within bankParts s (l.foldl recoverClamp s) :=
  foldl_within recoverClamp_within l s

theorem foldl_recoverClamp_recovered (l : List ClampAxis) (h : recoverable s a = true) (ha : a ∈ l) :
    Recovered s a (l.foldl recoverClamp s) := by
  have after (l : List ClampAxis) {t : State} (hw : Within bankParts s t) (h : Recovered s a t) :
      Recovered s a (l.foldl recoverClamp t) := by
    induction l generalizing t with
    | nil => exact h
    | cons c l ih => exact ih (hw.trans (recoverClamp_within t c)) (h.recoverClamp hw c)
  have state (t : State) (hr : recoverable t a = true) : (t.clamps.get a).state.waits = false := by
    rw [(recoverable_iff.mp hr).1]
    rfl
  have before : ∀ (l : List ClampAxis) {t : State}, Within bankParts s t → t.clamps.get a = s.clamps.get a → a ∈ l →
      Recovered s a (l.foldl recoverClamp t) := by
    intro l
    induction l with
    | nil => nofun
    | cons c l ih =>
      intro t hw ht ha
      have hr : recoverable t a = true := (recoverable_congr hw ht).trans h
      by_cases hc : c = a
      · subst hc
        refine after l (hw.trans (recoverClamp_within t c)) ?_
        have own := recoverClamp_recovered hr
        unfold Recovered at own ⊢
        rwa [dropCeiling_congr hw.same_store, clampCeiling_congr hw.same_store] at own
      · exact ih (hw.trans (recoverClamp_within t c))
          ((recoverClamp_of_not_waiting (state t hr) (.inl hc)).trans ht) ((List.mem_cons.mp ha).resolve_left (Ne.symm hc))
  exact before l (.refl _ s) rfl ha

theorem foldl_recoverClamp_of_not_waiting (l : List ClampAxis) (hw : (s.clamps.get a).state.waits = false)
    (hr : recoverable s a = false) : (l.foldl recoverClamp s).clamps.get a = s.clamps.get a := by
  induction l generalizing s with
  | nil => rfl
  | cons c l ih =>
    have kept : (recoverClamp s c).clamps.get a = s.clamps.get a := recoverClamp_of_not_waiting hw (.inr hr)
    exact (ih (by rw [kept]; exact hw) ((recoverable_congr (recoverClamp_within s c) kept).trans hr)).trans kept

theorem mem_fullClampOrder (order : List ClampAxis) (a : ClampAxis) : a ∈ fullClampOrder order := by
  have add (l : List ClampAxis) : ∀ acc : List ClampAxis, a ∈ acc ∨ a ∈ l → a ∈ l.foldl addNew acc := by
    induction l with
    | nil => exact fun acc h => h.resolve_right List.not_mem_nil
    | cons c l ih =>
      refine fun acc h => ih _ ?_
      have keep : a ∈ acc → a ∈ addNew acc c := fun k => by
        unfold addNew
        split
        · exact k
        · exact List.mem_append_left _ k
      rcases h with h | h
      · exact .inl (keep h)
      · rcases List.mem_cons.mp h with rfl | h
        · refine .inl ?_
          unfold addNew
          split
          · assumption
          · exact List.mem_append_right _ (List.mem_singleton.mpr rfl)
        · exact .inr h
  exact add _ [] (.inr (List.mem_append_right _ (by cases a <;> decide)))

/-- R78: every dropped clamp that may recover does. -/
theorem recoverDropped_recovered (order : List ClampAxis) (h : recoverable s a = true) :
    Recovered s a (recoverDropped order s) :=
  foldl_recoverClamp_recovered _ h (mem_fullClampOrder order a)

theorem recoverDropped_of_not_waiting (order : List ClampAxis) (hw : (s.clamps.get a).state.waits = false)
    (hr : recoverable s a = false) : (recoverDropped order s).clamps.get a = s.clamps.get a :=
  foldl_recoverClamp_of_not_waiting _ hw hr

theorem recoverDropped_pressureOk (order : List ClampAxis) (s : State) :
    (recoverDropped order s).bank.pressureOk = s.bank.pressureOk :=
  foldl_keeps (P := fun t => t.bank.pressureOk = s.bank.pressureOk)
    (fun t c h => (recoverClamp_pressureOk t c).trans h) _ rfl

/-- Where nothing that waits could be granted before, neither could it after. -/
theorem recoverDropped_eager (order : List ClampAxis) (h : grantReady s = true → s.bank.queue = []) :
    grantReady (recoverDropped order s) = true → (recoverDropped order s).bank.queue = [] :=
  foldl_keeps (P := fun t => grantReady t = true → t.bank.queue = []) (fun t c ht => by
    rcases recoverClamp_cases t c with ⟨-, e⟩ | ⟨-, e⟩
    · rw [e]; exact ht
    · rw [e]; exact claim_eager (s := setClamp c (.clampWait true) (some (dropCeiling t)) t) ht) _ h

/-- With none that may recover nothing happens. -/
theorem recoverDropped_of_none (order : List ClampAxis) (h : ∀ a, recoverable s a = false) : recoverDropped order s = s :=
  foldl_keeps (P := fun t => t = s) (fun t c ht => by
    subst ht
    rcases recoverClamp_cases t c with ⟨-, e⟩ | ⟨hr, -⟩
    · exact e
    · rw [h c] at hr; cases hr) _ rfl

/-- With no gearbox in the queue a recovery reaches the clamps and the bank alone. -/
theorem recoverDropped_gear (order : List ClampAxis) (h : .gearbox ∉ s.bank.queue) :
    (recoverDropped order s).gear = s.gear := by
  have grant {t : State} (ht : .gearbox ∉ t.bank.queue) :
      (tryGrant t).gear = t.gear ∧ .gearbox ∉ (tryGrant t).bank.queue := by
    rcases tryGrant_cases t with ⟨-, e⟩ | ⟨d, rest, -, hq, e⟩
    · rw [e]; exact ⟨rfl, ht⟩
    · rw [e, beginTransit_bank]
      rw [hq] at ht
      refine ⟨?_, fun k => ht (List.mem_cons_of_mem _ k)⟩
      cases d with
      | clamp q => exact beginClampTransit_gear q _
      | gearbox => exact absurd (List.mem_cons_self) ht
  refine (foldl_keeps (P := fun t => t.gear = s.gear ∧ .gearbox ∉ t.bank.queue) (fun t c ht => ?_) _ ⟨rfl, h⟩).1
  rcases recoverClamp_cases t c with ⟨-, e⟩ | ⟨-, e⟩
  · rw [e]; exact ht
  · rw [e]
    rcases claim_cases (.clamp c) (setClamp c (.clampWait true) (some (dropCeiling t)) t) with ⟨-, k⟩ | ⟨-, -, k⟩
    · rw [k]; exact ht
    · rw [k]
      obtain ⟨hg, hq⟩ := grant (t := { setClamp c (.clampWait true) (some (dropCeiling t)) t with
        bank := { t.bank with queue := t.bank.queue ++ [.clamp c] } }) (by simpa using ht.2)
      exact ⟨hg.trans ht.1, hq⟩

end

end Sys2Proof.Machine

/-! # RECOVER (R18) and the acceptance that ends OFFLINE (R12) -/

namespace Sys2Proof.Machine

-- Many short proofs that wait for the same case splitters: one after the other they need less memory.
set_option Elab.async false

section
variable {s : State}

/-! ## The entry into STANDBY -/

/-- What an entry into STANDBY leaves before the clamps recover (R8, R38, R124). -/
def standbyBegun (s : State) : State := coolantResume (clearAxes { s with link := disabledLink .standby s.link })

theorem enterStandby_eq (order : List ClampAxis) (s : State) :
    enterStandby order s = recoverDropped order (standbyBegun s) := rfl

theorem standbyBegun_settled (h : SettledLaw s) : SettledLaw (standbyBegun s) := ⟨h.1, h.2⟩

theorem SettledLaw.recoverDropped (h : SettledLaw s) (order : List ClampAxis) (hq : .gearbox ∉ s.bank.queue) :
    SettledLaw (recoverDropped order s) :=
  h.of_same (recoverDropped_within order s).same_coolant (by rw [recoverDropped_gear order hq])

/-- From rest the laws of the bank hold as STANDBY is entered. -/
theorem standbyBegun_bankLaws (h : RestLaw s) (hl : s.link.state.atRest = true) : BankLaws (standbyBegun s) := by
  obtain ⟨-, -, -, queue, holder, clamps, gear⟩ := h hl
  refine .of_rest rfl ?_ (fun a => ?_) queue holder
  · show s.gear.state.changing = false
    rcases gear with e | e | e <;> rw [e] <;> rfl
  · show (s.clamps.get a).state.rests = true
    rcases clamps a with e | e | e <;> rw [e] <;> rfl

/-- A clamp that recovers waits in the queue or holds the bank. -/
theorem Recovered.claims {u t : State} {a : ClampAxis} (h : Recovered u a t) (hb : BankLaws t) :
    (t.clamps.get a = ⟨.clampWait true, some (dropCeiling u), 0⟩ ∧ .clamp a ∈ t.bank.queue) ∨
    (t.clamps.get a = ⟨.clamping, some (clampCeiling u a), 0⟩ ∧ t.bank.holder = some (.clamp a) ∧
      t.bank.pressureOk = true) := by
  refine h.imp (fun e => ⟨e, ?_⟩) id
  exact (hb.bank.2.1 (.clamp a)).mpr (by rw [waits_clamp, e]; rfl)

theorem enterStandby_bankLaws (h : RestLaw s) (hl : s.link.state.atRest = true) (order : List ClampAxis) :
    BankLaws (enterStandby order s) := (standbyBegun_bankLaws h hl).recoverDropped order

theorem enterStandby_pressureOk (order : List ClampAxis) (s : State) :
    (enterStandby order s).bank.pressureOk = s.bank.pressureOk := recoverDropped_pressureOk order _

/-- R78: as STANDBY is entered every dropped clamp of a present record begins its recovery. -/
theorem enterStandby_recovers (h : RestLaw s) (hl : s.link.state.atRest = true) (order : List ClampAxis) {a : ClampAxis}
    (hd : (s.clamps.get a).state = .dropped) (hp : clampInForce s a = true) (hg : s.inputs.clampsDelivered = true) :
    ((enterStandby order s).clamps.get a = ⟨.clampWait true, some (dropCeiling s), 0⟩ ∧
      .clamp a ∈ (enterStandby order s).bank.queue) ∨
    ((enterStandby order s).clamps.get a = ⟨.clamping, some (clampCeiling s a), 0⟩ ∧
      (enterStandby order s).bank.holder = some (.clamp a) ∧ (enterStandby order s).bank.pressureOk = true) := by
  have hr : recoverable (standbyBegun s) a = true := recoverable_iff.mpr ⟨hd, hp, rfl, hg⟩
  exact (recoverDropped_recovered order hr).claims (enterStandby_bankLaws h hl order)

/-- A clamp at rest that may not recover stays as it was. -/
theorem enterStandby_clamp_same (order : List ClampAxis) {a : ClampAxis} (hw : (s.clamps.get a).state.waits = false)
    (hn : (s.clamps.get a).state ≠ .dropped ∨ clampInForce s a = false ∨ s.inputs.clampsDelivered = false) :
    (enterStandby order s).clamps.get a = s.clamps.get a := by
  refine recoverDropped_of_not_waiting order hw (Bool.eq_false_iff.mpr fun k => ?_)
  obtain ⟨hd, hp, -, hg⟩ := recoverable_iff.mp k
  rcases hn with hn | hn | hn
  · exact hn hd
  · exact absurd (show clampInForce s a = true from hp) (by rw [hn]; decide)
  · exact absurd (show s.inputs.clampsDelivered = true from hg) (by rw [hn]; decide)

theorem enterStandby_of_none_dropped (order : List ClampAxis) (h : ∀ a, (s.clamps.get a).state ≠ .dropped) :
    enterStandby order s = standbyBegun s :=
  recoverDropped_of_none order fun a => Bool.eq_false_iff.mpr fun k => h a (recoverable_iff.mp k).1

/-- At rest no clamp waits. -/
theorem RestLaw.not_waits (h : RestLaw s) (hl : s.link.state.atRest = true) (a : ClampAxis) :
    (s.clamps.get a).state.waits = false := by
  obtain ⟨-, -, -, -, -, clamps, -⟩ := h hl
  rcases clamps a with e | e | e <;> rw [e] <;> rfl

theorem enterStandby_within_begun (order : List ClampAxis) (s : State) :
    Within bankParts (standbyBegun s) (enterStandby order s) := recoverDropped_within order (standbyBegun s)

theorem enterStandby_gear (h : RestLaw s) (hl : s.link.state.atRest = true) (order : List ClampAxis) :
    (enterStandby order s).gear = s.gear := by
  obtain ⟨-, -, -, queue, -, -, -⟩ := h hl
  exact recoverDropped_gear order (s := standbyBegun s) (by rw [show (standbyBegun s).bank.queue = [] from queue]; nofun)

theorem enterStandby_settled (h : SettledLaw s) (hr : RestLaw s) (hl : s.link.state.atRest = true)
    (order : List ClampAxis) : SettledLaw (enterStandby order s) := by
  obtain ⟨-, -, -, queue, -, -, -⟩ := hr hl
  exact (standbyBegun_settled h).recoverDropped order (by rw [show (standbyBegun s).bank.queue = [] from queue]; nofun)

/-- With a good bank no claim is left waiting while the bank is free. -/
theorem enterStandby_holds (h : RestLaw s) (hl : s.link.state.atRest = true) (order : List ClampAxis)
    (hp : s.bank.pressureOk = true) (hq : (enterStandby order s).bank.queue ≠ []) :
    (enterStandby order s).bank.holder ≠ none := fun hn => by
  obtain ⟨-, -, -, queue, -, -, -⟩ := h hl
  have ready : grantReady (enterStandby order s) = true :=
    grantReady_iff.mpr ⟨hn, (enterStandby_pressureOk order s).trans hp, by rw [enterStandby_link]; rfl⟩
  exact hq (recoverDropped_eager order (s := standbyBegun s) (fun _ => queue) ready)

end

/-- Settles O54: a refusal, a recovery with nothing to recover, and one with dropped clamps. -/
theorem recoverLeavesHalted : Obligations.RecoverLeavesHalted := by
  intro o s h hl
  have work : linkService .recover [] o s = recoverService o s := judged_of_ok rfl _ s
  have passes (hs : s.link.state = .halted) (he : s.inputs.estopOpen = false) : recoverService o s =
      answer .recover .ok [] (enterStandby o { s with link := { s.link with cause := .none } }) := if_pos ⟨hs, he⟩
  refine ⟨fun hw => ?_, fun hs he hd => ?_, fun hs he hr => ?_⟩
  · refine served_refuse h hl (work.trans (if_neg fun k => ?_))
    rcases hw with hw | hw
    · exact hw k.1
    · rw [k.2] at hw
      cases hw
  · refine served_eq hl (work.trans ((passes hs he).trans ?_)) ⟨h.1, h.2⟩
    rw [enterStandby_of_none_dropped o (s := { s with link := { s.link with cause := .none } }) hd]
    rfl
  · obtain ⟨u, hu⟩ : ∃ u, u = { s with link := { s.link with cause := .none } } := ⟨_, rfl⟩
    have rest : RestLaw u := hu ▸ hr
    have atRest : u.link.state.atRest = true := by
      rw [hu]
      show s.link.state.atRest = true
      rw [hs]
      rfl
    have settles : SettledLaw (enterStandby o u) := enterStandby_settled (hu ▸ h) rest atRest o
    have w := enterStandby_within_begun o u
    have answers := (passes hs he).trans (congrArg (fun v => answer .recover .ok [] (enterStandby o v)) hu.symm)
    refine ⟨answer .recover .ok [] (enterStandby o u), served_eq hl (work.trans answers) (settles.answer _ _ _), rfl, ?_,
      fun a => ?_, ?_, ?_, ?_, ?_, ?_, ?_, ?_, fun a hd hp hg => ?_, fun a hn => ?_, fun hp hq => ?_⟩
    · exact (enterStandby_link o u).trans (by rw [hu]; rfl)
    · rw [answer_axes, enterStandby_axes, hu]
      rfl
    · rw [answer_coolant, w.same_coolant, hu]
      rfl
    · rw [answer_gear, enterStandby_gear rest atRest, hu]
    · rw [answer_pendant, w.same_pendant, hu]
      rfl
    · rw [answer_inputs, w.same_inputs, hu]
      rfl
    · rw [answer_store, w.same_store, hu]
      rfl
    · rw [answer_flags, w.same_flags, hu]
      rfl
    · rw [answer_bank, enterStandby_pressureOk, hu]
    · have recovers := enterStandby_recovers rest atRest o (a := a) (hu ▸ hd) (hu ▸ hp) (hu ▸ hg)
      rw [enterStandby_pressureOk] at recovers
      rw [hu] at recovers ⊢
      exact recovers
    · rw [answer_clamps, enterStandby_clamp_same o (rest.not_waits atRest a) (hu ▸ hn), hu]
    · exact enterStandby_holds rest atRest o (hu ▸ hp) hq

end Sys2Proof.Machine

/-! # The axis channels on plain numbers: follow, deceleration, the envelope and the shorter way -/

namespace Sys2Proof.Machine

-- Many short proofs that wait for the same case splitters: one after the other they need less memory.
set_option Elab.async false

section
variable {lo hi p q : Int}

/-! ## The envelope on a candidate -/

theorem natAbs_envelopeClamp_sub_le (h : lo ≤ hi) : (envelopeClamp lo hi p q - p).natAbs ≤ (q - p).natAbs := by
  unfold envelopeClamp clampInt
  split_ifs <;> omega

theorem le_envelopeClamp (h : lo ≤ hi) (hq : p ≤ q) : p ≤ envelopeClamp lo hi p q := by
  unfold envelopeClamp clampInt
  split_ifs <;> omega

theorem envelopeClamp_le (hq : q ≤ p) : envelopeClamp lo hi p q ≤ p := by
  unfold envelopeClamp clampInt
  split_ifs <;> omega

/-- R30 from within the envelope. -/
theorem envelopeClamp_of_mem (hl : lo ≤ p) (hh : p ≤ hi) : envelopeClamp lo hi p q = clampInt lo hi q := by
  simp [envelopeClamp, not_lt.2 hl, not_lt.2 hh]

/-- R30 from below: no way back down, and not beyond the far end. -/
theorem envelopeClamp_of_lt (h : lo ≤ hi) (hp : p < lo) :
    p ≤ envelopeClamp lo hi p q ∧ envelopeClamp lo hi p q ≤ hi := by
  rw [envelopeClamp, if_pos hp]
  omega

theorem envelopeClamp_of_gt (h : lo ≤ hi) (hp : hi < p) :
    lo ≤ envelopeClamp lo hi p q ∧ envelopeClamp lo hi p q ≤ p := by
  rw [envelopeClamp, if_neg (by omega), if_pos hp]
  omega

theorem clampInt_ne_iff (h : lo ≤ hi) : clampInt lo hi q ≠ q ↔ q < lo ∨ hi < q := by
  unfold clampInt; omega

end

/-! ## A candidate of a LINEAR axis -/

section
variable {a : AxisParams} {p q : Int} {rate : Bool}

theorem settleMotion_out (hr : a.rotary = false) : (settleMotion a p q rate).out = envelopeClamp a.lo a.hi p q := by
  simp [settleMotion, hr]

theorem settleMotion_step (hr : a.rotary = false) :
    (settleMotion a p q rate).step = (settleMotion a p q rate).out - p := by
  simp [settleMotion, hr, wrapDiff]

/-- R30: the indication of the envelope, from within it. -/
theorem settleMotion_envelopeInd (hr : a.rotary = false) (h : a.lo ≤ a.hi) (hl : a.lo ≤ p) (hh : p ≤ a.hi) :
    (settleMotion a p q rate).envelopeInd = true ↔ q < a.lo ∨ a.hi < q := by
  rw [← clampInt_ne_iff h, ← envelopeClamp_of_mem hl hh]
  simp [settleMotion, hr]

/-- What R29 to R31 make of a LINEAR candidate `q` from `p`, whichever computation formed it. -/
structure LinearMove (a : AxisParams) (p q : Int) (m : Motion) : Prop where
  step_eq : m.step = m.out - p
  step_le : m.step.natAbs ≤ (q - p).natAbs
  forward : p ≤ q → 0 ≤ m.step
  backward : q ≤ p → m.step ≤ 0
  out_eq : a.lo ≤ p → p ≤ a.hi → m.out = clampInt a.lo a.hi q
  inside : a.lo ≤ p → p ≤ a.hi → a.lo ≤ m.out ∧ m.out ≤ a.hi
  below : p < a.lo → p ≤ m.out ∧ m.out ≤ a.hi
  above : a.hi < p → a.lo ≤ m.out ∧ m.out ≤ p

theorem linearMove_settleMotion (hr : a.rotary = false) (h : a.lo ≤ a.hi) :
    LinearMove a p q (settleMotion a p q rate) := by
  have out : (settleMotion a p q rate).out = envelopeClamp a.lo a.hi p q := settleMotion_out hr
  have step : (settleMotion a p q rate).step = envelopeClamp a.lo a.hi p q - p := out ▸ settleMotion_step hr
  constructor
  · rw [step, out]
  · rw [step]; exact natAbs_envelopeClamp_sub_le h
  · intro hq; rw [step]; have := le_envelopeClamp h hq; omega
  · intro hq; rw [step]; have := envelopeClamp_le (lo := a.lo) (hi := a.hi) hq; omega
  · intro hl hh; rw [out, envelopeClamp_of_mem hl hh]
  · intro hl hh; rw [out, envelopeClamp_of_mem hl hh]; exact ⟨le_clampInt _, clampInt_le h _⟩
  · intro hp; rw [out]; exact envelopeClamp_of_lt h hp
  · intro hp; rw [out]; exact envelopeClamp_of_gt h hp

/-- The candidate of a LINEAR axis in RUNNING. -/
def followCandidate (a : AxisParams) (t p : Int) : Int := p + clampInt (-(a.ceiling : Int)) a.ceiling (t - p)

theorem follow_linear (hr : a.rotary = false) (t p : Int) :
    follow a false t p = settleMotion a p (followCandidate a t p)
      (decide (clampInt (-(a.ceiling : Int)) a.ceiling (t - p) ≠ t - p)) := by
  simp [follow, hr, wrapDiff, followCandidate]

theorem decelerate_free (p v : Int) :
    decelerate a false p v = settleMotion a p (p + towardZero v a.decel) false := rfl

theorem follow_move (hr : a.rotary = false) (h : a.lo ≤ a.hi) (t p : Int) :
    LinearMove a p (followCandidate a t p) (follow a false t p) :=
  (follow_linear hr t p).symm ▸ linearMove_settleMotion hr h

theorem decelerate_move (hr : a.rotary = false) (h : a.lo ≤ a.hi) (p v : Int) :
    LinearMove a p (p + towardZero v a.decel) (decelerate a false p v) :=
  linearMove_settleMotion hr h

theorem follow_rateInd (a : AxisParams) (t p : Int) :
    (follow a false t p).rateInd = true ↔ a.ceiling < (wrapDiff a.rotary (t - p)).natAbs := by
  have rate : (follow a false t p).rateInd = decide (clampInt (-(a.ceiling : Int)) a.ceiling
    (wrapDiff a.rotary (t - p)) ≠ wrapDiff a.rotary (t - p)) := rfl
  rw [rate, decide_eq_true_iff]
  unfold clampInt
  omega

end

/-- Settles O27, by the one account of a LINEAR candidate (`LinearMove`) for the follow and the deceleration. -/
theorem followKeepsRateAndEnvelope : Obligations.FollowKeepsRateAndEnvelope := by
  intro a t p v hr h
  have follows := follow_move hr h t p
  have slows := decelerate_move hr h p v
  have q_def : followCandidate a t p = p + clampInt (-(a.ceiling : Int)) a.ceiling (t - p) := rfl
  have q_eq : ∀ q, (t < p - a.ceiling ∧ q = p - a.ceiling) ∨ (p + a.ceiling < t ∧ q = p + a.ceiling) →
      followCandidate a t p = q := by
    intro q hq; rw [q_def, clampInt]; omega
  have v_eq : ∀ q, (a.decel < v ∧ q = p + v - a.decel) ∨ (v < -(a.decel : Int) ∧ q = p + v + a.decel) →
      p + towardZero v a.decel = q := by
    intro q hq; unfold towardZero; split_ifs <;> omega
  refine ⟨rfl, rfl, ?_, follows.step_eq, ?_, ?_, ?_, follows.inside, follows.below, follows.above, ?_, ?_, ?_, ?_, ?_,
    slows.step_eq, rfl, ?_, slows.inside, slows.below, slows.above, ?_, ?_, ?_, rfl, rfl, rfl, rfl, ?_⟩
  · simp [follow, heldMotion]
  · simp [follow, settleMotion]
  · refine follows.step_le.trans ?_
    rw [q_def, add_sub_cancel_left]
    exact natAbs_clampInt_le _ _
  · rw [follow_rateInd, hr]; rfl
  · intro near tl th pl ph
    rw [follows.out_eq pl ph, q_def]
    unfold clampInt; omega
  · intro ht; exact follows.forward (by rw [q_def, clampInt]; omega)
  · intro ht; exact follows.backward (by rw [q_def, clampInt]; omega)
  · intro q hq pl ph
    rw [follows.out_eq pl ph, follow_linear hr, settleMotion_envelopeInd hr h pl ph, q_eq q hq]
    exact ⟨rfl, Iff.rfl⟩
  · have := slows.step_le
    rwa [add_sub_cancel_left, natAbs_towardZero] at this
  · intro hv pl ph
    rw [slows.out_eq pl ph, towardZero, if_pos hv, add_zero, clampInt_eq_self pl ph]
  · intro hv; exact slows.forward (by unfold towardZero; split_ifs <;> omega)
  · intro hv; exact slows.backward (by unfold towardZero; split_ifs <;> omega)
  · intro q hq pl ph
    rw [slows.out_eq pl ph, decelerate_free, settleMotion_envelopeInd hr h pl ph, v_eq q hq]
    exact ⟨rfl, Iff.rfl⟩
  · simp only [decelerate, heldMotion]
    simp [towardZero]
    omega

/-! ## The shorter way round -/

/-- R27: the wrapped difference of two reduced positions lies in a half turn to either side. -/
theorem wrapDiff_mem {t p : Int} (ht : 0 ≤ t) (ht' : t < 360000) (hp : 0 ≤ p) (hp' : p < 360000) :
    -180000 < wrapDiff true (t - p) ∧ wrapDiff true (t - p) ≤ 180000 := by
  simp only [wrapDiff, if_true]
  split_ifs <;> omega

theorem add_wrapDiff {t p : Int} (ht : 0 ≤ t) (ht' : t < 360000) : (p + wrapDiff true (t - p)) % 360000 = t := by
  simp only [wrapDiff, if_true]
  split_ifs <;> omega

/-- A step within a half turn reads back from the reduced positions. -/
theorem wrapDiff_of_step {p d : Int} (hp : 0 ≤ p) (hp' : p < 360000) (hd : -180000 < d) (hd' : d ≤ 180000) :
    wrapDiff true ((p + d) % 360000 - p) = d := by
  simp only [wrapDiff, if_true]
  split_ifs <;> omega

theorem follow_rotary {a : AxisParams} (hr : a.rotary = true) (t p : Int) :
    (follow a false t p).out = (p + clampInt (-(a.ceiling : Int)) a.ceiling (wrapDiff true (t - p))) % 360000 ∧
      (follow a false t p).step = wrapDiff true ((follow a false t p).out - p) := by
  simp [follow, settleMotion, hr]

/-- Settles O28, from the wrapped difference and its reading back. -/
theorem rotaryFollowsShorterWay : Obligations.RotaryFollowsShorterWay := by
  intro a t p hr hc ht ht' hp hp'
  obtain ⟨out, step⟩ := follow_rotary hr t p
  obtain ⟨above, below⟩ := wrapDiff_mem ht ht' hp hp'
  have back := add_wrapDiff (p := p) ht ht'
  generalize hd : wrapDiff true (t - p) = d at *
  have step_eq : (follow a false t p).step = clampInt (-(a.ceiling : Int)) a.ceiling d := by
    rw [step, out]
    refine wrapDiff_of_step hp hp' ?_ ?_ <;> unfold clampInt <;> omega
  refine ⟨by rw [out]; omega, by rw [out]; omega, step_eq ▸ natAbs_clampInt_le _ _, by rw [out, step_eq], above, below,
    back, step_eq, ?_, ?_, ?_⟩
  · intro half
    have : d = 180000 := by
      rw [← hd]; simp only [wrapDiff, if_true]; split_ifs <;> omega
    refine ⟨this, ?_⟩
    rw [step_eq, this]; unfold clampInt; omega
  · rw [follow_rateInd, hr, hd]
  · intro near
    rw [out, clampInt_eq_self (by omega) (by omega), back]

end Sys2Proof.Machine

/-! # The droop value and the rounding of 1.5.2 -/

namespace Sys2Proof.Machine

-- Many short proofs that wait for the same case splitters: one after the other they need less memory.
set_option Elab.async false

/-! ## Rounding -/

/-- The nearest multiple for a numerator that is not negative: within half the divisor, and above on a tie. -/
theorem roundDiv_near {n : Int} {d : Nat} (hd : 0 < d) (hn : 0 ≤ n) :
    -(d : Int) < 2 * (roundDiv n d * d - n) ∧ 2 * (roundDiv n d * d - n) ≤ d := by
  have hd' : (0 : Int) < 2 * d := by omega
  rw [roundDiv, if_pos hn]
  have low : (2 * n + d) / (2 * d) * (2 * d) ≤ 2 * n + d := Int.ediv_mul_le _ hd'.ne'
  have high : 2 * n + d < ((2 * n + d) / (2 * d) + 1) * (2 * d) := Int.lt_ediv_add_one_mul_self _ hd'
  generalize (2 * n + (d : Int)) / (2 * d) = q at low high ⊢
  constructor <;> nlinarith

theorem roundDiv_nearest_of_nonneg {n : Int} {d : Nat} (hd : 0 < d) (hn : 0 ≤ n) :
    2 * (roundDiv n d * d - n).natAbs ≤ d ∧
      (2 * (roundDiv n d * d - n).natAbs = d → n.natAbs < (roundDiv n d * d).natAbs) := by
  obtain ⟨low, high⟩ := roundDiv_near hd hn
  generalize roundDiv n d * d = q at low high ⊢
  omega

theorem roundDiv_nearest (n : Int) {d : Nat} (hd : 0 < d) :
    2 * (roundDiv n d * d - n).natAbs ≤ d ∧
      (2 * (roundDiv n d * d - n).natAbs = d → n.natAbs < (roundDiv n d * d).natAbs) := by
  rcases le_total 0 n with hn | hn
  · exact roundDiv_nearest_of_nonneg hd hn
  · have mirror := roundDiv_nearest_of_nonneg (n := -n) hd (by omega)
    rw [roundDiv_neg, neg_mul] at mirror
    generalize roundDiv n d * d = q at mirror ⊢
    omega

/-- Part `r` of `d` of a difference, rounded, lies between 0 and the difference. -/
theorem roundDiv_part_between {δ : Int} {r d : Nat} (hd : 0 < d) (hr : r ≤ d) :
    min 0 δ ≤ roundDiv (δ * r) d ∧ roundDiv (δ * r) d ≤ max 0 δ := by
  have hr' : (r : Int) ≤ d := by exact_mod_cast hr
  have h0 : (0 : Int) ≤ r := by positivity
  rcases le_total 0 δ with hδ | hδ
  · rw [min_eq_left hδ, max_eq_right hδ]
    exact ⟨le_roundDiv_of_mul_le hd (by nlinarith), roundDiv_le_of_le_mul hd (by nlinarith)⟩
  · rw [min_eq_right hδ, max_eq_left hδ]
    exact ⟨le_roundDiv_of_mul_le hd (by nlinarith), roundDiv_le_of_le_mul hd (by nlinarith)⟩

/-! ## The droop value -/

section
variable {bs : List Byte} {w : Int}

theorem droopAt_of_le (h : 0 < compSpan bs) (hw : w ≤ compZero bs) : droopAt bs w = droopPoint bs 0 := by
  have x : (clampInt 0 (compSpan bs) (w - compZero bs)).toNat = 0 := by unfold clampInt; omega
  simp [droopAt, x, roundDiv_zero]

theorem droopAt_of_ge (h : 0 < compSpan bs) (hw : compZero bs + compSpan bs ≤ w) :
    droopAt bs w = droopPoint bs 16 := by
  have x : (clampInt 0 (compSpan bs) (w - compZero bs)).toNat = compSpan bs := by unfold clampInt; omega
  simp [droopAt, x, Nat.mul_div_cancel_left _ h]

/-- R44 between the points `i` and `i + 1`. -/
theorem droopAt_of_between (i r : Nat) (h : 0 < compSpan bs) (hi : i < 16) (hr : r < compSpan bs)
    (hw : 16 * (w - compZero bs) = i * compSpan bs + r) :
    droopAt bs w = droopPoint bs i + roundDiv ((droopPoint bs (i + 1) - droopPoint bs i) * r) (compSpan bs) := by
  have room : (i : Int) * compSpan bs + r < 16 * compSpan bs := by
    have : (i : Int) + 1 ≤ 16 := by omega
    have : (r : Int) < compSpan bs := by omega
    nlinarith
  have start : (0 : Int) ≤ (i : Int) * compSpan bs := by positivity
  have inSpan : clampInt 0 (compSpan bs) (w - compZero bs) = w - compZero bs :=
    clampInt_eq_self (by omega) (by omega)
  have x : (clampInt 0 (compSpan bs) (w - compZero bs)).toNat * 16 = compSpan bs * i + r := by
    have : ((w - compZero bs).toNat : Int) = w - compZero bs := Int.toNat_of_nonneg (by omega)
    rw [inSpan]
    zify
    rw [this, mul_comm (compSpan bs : Int)]
    omega
  have part : (compSpan bs * i + r) / compSpan bs = i := by
    rw [Nat.mul_add_div h, Nat.div_eq_of_lt hr, add_zero]
  have rest : compSpan bs * i + r - i * compSpan bs = r := by rw [mul_comm]; omega
  simp only [droopAt, x, part, rest]
  rw [if_neg (by omega)]

end

theorem droopWork_of_some {bs : List Byte} {s : State} (h : activeBytes s .compensation = some bs) :
    droopWork s = { s with comp := { s.comp with droop := droopAt bs s.seen.out.w } } := by
  rw [droopWork, h]

theorem droopWork_of_none {s : State} (h : activeBytes s .compensation = none) :
    droopWork s = { s with comp := { s.comp with droop := 0 } } := by
  rw [droopWork, h]

/-- Settles O29, the value on each segment by `droopAt_of_between`. -/
theorem droopLiesBetweenPoints : Obligations.DroopLiesBetweenPoints := by
  refine ⟨fun bs w h => ⟨droopAt_of_le h, droopAt_of_ge h, fun i hi low high => ?_⟩, fun c s => ⟨?_, ?_⟩,
    fun n d hd => roundDiv_nearest n hd⟩
  · obtain ⟨r, hr⟩ := Int.eq_ofNat_of_zero_le (sub_nonneg.2 low)
    have width : ((i + 1) * compSpan bs : Int) = i * compSpan bs + compSpan bs := by ring
    have value := droopAt_of_between (bs := bs) (w := w) i r h hi (by omega) (by omega)
    obtain ⟨above, below⟩ := roundDiv_part_between (δ := droopPoint bs (i + 1) - droopPoint bs i) (r := r)
      (d := compSpan bs) h (by omega)
    rw [hr]
    refine ⟨value, ?_, ?_⟩ <;> rw [value] <;> omega
  · intro bs hbs
    exact droopWork_of_some hbs
  · intro hn
    exact droopWork_of_none (activeBytes_of_none (t := .compensation) hn)

end Sys2Proof.Machine

/-! # The analog channels and the knobs -/

namespace Sys2Proof.Machine

-- Many short proofs that wait for the same case splitters: one after the other they need less memory.
set_option Elab.async false

/-! ## A knob's sample -/

section
variable {v : BitVec 12} {k : Knob}

theorem channelFault_iff (n : Nat) : channelFault n = true ↔ n < 16 ∨ 4080 ≤ n := by
  simp only [channelFault, Bool.or_eq_true, decide_eq_true_eq]
  omega

theorem channelFault_of_between {n : Nat} (low : 16 ≤ n) (high : n < 4080) : channelFault n = false :=
  Bool.eq_false_iff.2 fun h => by rcases (channelFault_iff n).1 h with h | h <;> omega

theorem bandOf_eq {band : Fin 16} (h : band.val = v.toNat * 16 / 4096) : bandOf v = band := Fin.ext h.symm

theorem knobSample_of_fault (h : channelFault v.toNat = true) :
    knobSample (some v) k = ({ k with candidate := none, count := 0 }, none) := by
  simp [knobSample, h]

theorem knobSample_of_accepted (h : channelFault v.toNat = false) (ha : k.accepted = some (bandOf v)) :
    knobSample (some v) k = ({ k with candidate := none, count := 0 }, none) := by
  simp [knobSample, h, ha]

theorem knobSample_of_new (h : channelFault v.toNat = false) (ha : k.accepted ≠ some (bandOf v))
    (hc : k.candidate ≠ some (bandOf v)) :
    knobSample (some v) k = ({ k with candidate := some (bandOf v), count := 1 }, none) := by
  simp [knobSample, h, ha, hc]

theorem knobSample_of_candidate (h : channelFault v.toNat = false) (ha : k.accepted ≠ some (bandOf v))
    (hc : k.candidate = some (bandOf v)) :
    knobSample (some v) k = if 3 ≤ k.count + 1 then (⟨some (bandOf v), none, 0⟩, some (bandOf v))
      else ({ k with count := k.count + 1 }, none) := by
  simp [knobSample, h, ha, hc]

end

/-! ## Both knobs -/

theorem raiseIf_flags (c : Bool) (f : Flag) (s : State) :
    raiseIf c f s = { s with flags := { s.flags with raised := s.flags.raised ||| (if c then f.bit else 0) } } := by
  cases c
  · simp [raiseIf]
  · rfl

theorem knobsWork_of_readings {feed spindle : BitVec 12} {s : State} (hf : s.inputs.readings.an4 = some feed)
    (hs : s.inputs.readings.an5 = some spindle) :
    knobsWork s = raiseIf (channelFault feed.toNat || channelFault spindle.toNat) .knobFault
      { s with pendant := { s.pendant with
        feedKnob := (knobSample (some feed) s.pendant.feedKnob).1
        spindleKnob := (knobSample (some spindle) s.pendant.spindleKnob).1
        feedOverride := overrideAfter s feedBand (knobSample (some feed) s.pendant.feedKnob).2 s.pendant.feedOverride
        spindleOverride := overrideAfter s spindleBand (knobSample (some spindle) s.pendant.spindleKnob).2
          s.pendant.spindleOverride } } := by
  rw [knobsWork, hf, hs]
  rfl

/-- Settles O33. -/
theorem analogChannelsScaled : Obligations.AnalogChannelsScaled := by
  refine ⟨fun v s => ⟨rfl, rfl, rfl⟩, ?_, ?_, ?_⟩
  · intro v band k low high hb
    obtain rfl := bandOf_eq hb
    have sound := channelFault_of_between low high
    refine ⟨knobSample_of_accepted sound, knobSample_of_new sound, fun ha hc hn => ?_, fun ha hc hn => ?_⟩
    · rw [knobSample_of_candidate sound ha hc, if_neg (by omega)]
    · rw [knobSample_of_candidate sound ha hc, if_pos hn]
      exact ⟨rfl, rfl, rfl⟩
  · intro v k h
    exact knobSample_of_fault ((channelFault_iff _).2 h)
  · rintro feed spindle f sp s hf hs rfl rfl
    have bad : (channelFault feed.toNat || channelFault spindle.toNat) = true ↔
        feed.toNat < 16 ∨ 4080 ≤ feed.toNat ∨ spindle.toNat < 16 ∨ 4080 ≤ spindle.toNat := by
      rw [Bool.or_eq_true, channelFault_iff, channelFault_iff, or_assoc]
    rw [knobsWork_of_readings hf hs, raiseIf_flags]
    simp only [bad]
    rfl

end Sys2Proof.Machine

/-! # The pendant unit: edges and detents, waits and grants, the transfer -/

namespace Sys2Proof.Machine

-- Many short proofs that wait for the same case splitters: one after the other they need less memory.
set_option Elab.async false

section
variable {s t : State}

theorem raise_flags (f : Flag) (s : State) :
    raise f s = { s with flags := { s.flags with raised := s.flags.raised ||| f.bit } } := rfl

theorem getLsbD_flagBit (f : Flag) : f.bit.getLsbD f.num = true := by
  cases f <;> decide

theorem isRaised_raise_self (f : Flag) (s : State) : isRaised f (raise f s) = true := by
  unfold isRaised raise
  simp [getLsbD_flagBit]

theorem isRaised_raiseIf_self (c : Bool) (f : Flag) (s : State) :
    isRaised f (raiseIf c f s) = true ↔ isRaised f s = true ∨ c = true := by
  cases c
  · simp [raiseIf]
  · simp [raiseIf, isRaised_raise_self]

theorem PerAxis.set_get_self {α : Type} (v : PerAxis α) (a : Axis) : v.set a (v.get a) = v := by
  cases a <;> rfl

end

/-! ## Edges of the handwheel (R133) -/

section
variable {a c : Bool} {s : State}

/-- The state in which a new phase pair has been seen. -/
def phasesAt (a c : Bool) (s : State) : State := { s with pendant := { s.pendant with phaseA := a, phaseB := c } }

/-- Whether an edge to the pair (a, c) is forward in the pairs' order. -/
def edgeForward (a c : Bool) (s : State) : Bool := if a = s.pendant.phaseA then decide (a = c) else decide (a ≠ c)

theorem phasesSeen_of_same (hA : a = s.pendant.phaseA) (hB : c = s.pendant.phaseB) : phasesSeen a c s = s := by
  subst hA hB
  simp [phasesSeen]

theorem phasesSeen_of_both (hA : a ≠ s.pendant.phaseA) (hB : c ≠ s.pendant.phaseB) :
    phasesSeen a c s = raise .phaseError (phasesAt a c s) := by
  have : (phaseIndex a c + 4 - phaseIndex s.pendant.phaseA s.pendant.phaseB) % 4 = 2 := by
    revert hA hB
    generalize s.pendant.phaseA = x
    generalize s.pendant.phaseB = y
    revert a c x y
    decide
  simp [phasesSeen, this, phasesAt]

theorem phaseIndex_of_edge (h : a = s.pendant.phaseA ↔ c ≠ s.pendant.phaseB) :
    (phaseIndex a c + 4 - phaseIndex s.pendant.phaseA s.pendant.phaseB) % 4 = if edgeForward a c s then 1 else 3 := by
  unfold edgeForward
  revert h
  generalize s.pendant.phaseA = x
  generalize s.pendant.phaseB = y
  revert a c x y
  decide

/-- One phase changed: an edge, inverted by REVERSED. -/
theorem phasesSeen_of_edge (h : a = s.pendant.phaseA ↔ c ≠ s.pendant.phaseB) :
    phasesSeen a c s = countEdge (if edgeForward a c s = wheelInverted s then -1 else 1) (phasesAt a c s) := by
  have step := phaseIndex_of_edge h
  unfold phasesSeen
  dsimp only
  rw [step]
  cases edgeForward a c s <;> cases wheelInverted s <;> rfl

theorem countEdge_of_lt {e : Int} (h : (s.pendant.edges + e).natAbs < wheelEdges s) :
    countEdge e s = { s with pendant := { s.pendant with edges := s.pendant.edges + e } } := by
  simp [countEdge, not_le.2 h]

theorem countEdge_of_le {e : Int} (h : wheelEdges s ≤ (s.pendant.edges + e).natAbs) :
    countEdge e s = countDetent (if 0 ≤ s.pendant.edges + e then 1 else -1)
      { s with pendant := { s.pendant with edges := 0 } } := by
  simp [countEdge, h]

/-! ## Detents (R133, R134) -/

theorem countDetent_of_discarded {sign : Int} (h : s.pendant.enable ≠ .held ∨ ∀ q, s.pendant.grant ≠ .granted q) :
    countDetent sign s = s := by
  unfold countDetent
  split
  · rename_i q _ hq
    rw [if_neg (h.resolve_right fun k => k q hq)]
  · rfl

theorem countDetent_of_absent {sign : Int} (h : activeBytes s .pendant = none) : countDetent sign s = s := by
  simp [countDetent, h]

theorem countDetent_of_granted {sign : Int} {bs : List Byte} {q : Axis} (hb : activeBytes s .pendant = some bs)
    (he : s.pendant.enable = .held) (hg : s.pendant.grant = .granted q) :
    countDetent sign s = addDetent (pendingLimit bs) (sign * incrementDistance bs s.pendant.increment) s := by
  simp [countDetent, hb, he, hg]

theorem addDetent_of_le {limit : Nat} {d : Int} (h : (s.pendant.distance + d).natAbs ≤ limit) :
    addDetent limit d s = { s with pendant := { s.pendant with distance := s.pendant.distance + d } } := by
  have kept : clampInt (-(limit : Int)) limit (s.pendant.distance + d) = s.pendant.distance + d :=
    clampInt_eq_self (by omega) (by omega)
  simp [addDetent, kept, raiseIf]

theorem addDetent_of_lt {limit : Nat} {d : Int} (h : limit < (s.pendant.distance + d).natAbs) :
    addDetent limit d s = raise .handwheelDiscard { s with pendant := { s.pendant with
      distance := if 0 < s.pendant.distance + d then (limit : Int) else -(limit : Int) } } := by
  have kept : clampInt (-(limit : Int)) limit (s.pendant.distance + d) =
      if 0 < s.pendant.distance + d then (limit : Int) else -(limit : Int) := by
    unfold clampInt; split <;> omega
  have cut : clampInt (-(limit : Int)) limit (s.pendant.distance + d) ≠ s.pendant.distance + d := by
    unfold clampInt; omega
  rw [addDetent, decide_eq_true cut, kept]
  rfl

end

/-- Settles O45: an edge by the pairs' order, then what the accumulator makes of it. -/
theorem handwheelCountsEdges : Obligations.HandwheelCountsEdges := by
  rintro a b forward s u h rfl rfl
  have settledAt (x : Pendant) : SettledLaw { s with pendant := x } := h.withPendant x
  refine ⟨fun hA hB => ?_, fun hA hB => ?_, ?_, ?_⟩
  · exact settled_eq (phasesSeen_of_same hA hB) h
  · exact settled_eq (phasesSeen_of_both hA hB) ((settledAt _).withFlags _)
  · intro bs sum hbs edge hsum
    have inverted : wheelInverted s = wheelReversed bs := by rw [wheelInverted, hbs]
    have edges : wheelEdges (phasesAt a b s) = edgesPerDetent bs := by
      rw [wheelEdges, show activeBytes (phasesAt a b s) .pendant = some bs from hbs]
    have seen := phasesSeen_of_edge edge
    rw [inverted] at seen
    have total : s.pendant.edges + (if edgeForward a b s = wheelReversed bs then -1 else 1) = sum := by
      rw [hsum]
      show _ = if edgeForward a b s = wheelReversed bs then _ else _
      split <;> omega
    refine ⟨fun few => ?_, fun full idle => ?_, fun q d full held granted hd => ⟨fun near => ?_, fun far => ?_⟩⟩
    · have counted := countEdge_of_lt (s := phasesAt a b s) (by rw [edges]; exact total.symm ▸ few)
      exact settled_eq (seen.trans (counted.trans (by rw [← total]; rfl))) (settledAt _)
    · have counted := countEdge_of_le (s := phasesAt a b s) (by rw [edges]; exact total.symm ▸ full)
      exact settled_eq (seen.trans (counted.trans (countDetent_of_discarded idle))) (settledAt _)
    all_goals
      have counted := countEdge_of_le (s := phasesAt a b s) (by rw [edges]; exact total.symm ▸ full)
      have detent := counted.trans (countDetent_of_granted hbs held granted)
      have moved : s.pendant.distance + (if 0 ≤ s.pendant.edges + (if edgeForward a b s = wheelReversed bs then -1 else 1)
          then 1 else -1) * (incrementDistance bs s.pendant.increment : Int) = d := by
        rw [total, hd]; split <;> simp
    · refine settled_eq (seen.trans (detent.trans ((addDetent_of_le ?_).trans ?_))) (settledAt _)
      · exact moved.symm ▸ near
      · rw [← moved]; rfl
    · refine settled_eq (seen.trans (detent.trans ((addDetent_of_lt ?_).trans ?_))) (h.of_same rfl rfl)
      · exact moved.symm ▸ far
      · rw [← moved]; rfl
  · intro sum hn edge hsum
    have inverted : wheelInverted s = false := by rw [wheelInverted, hn]
    have edges : wheelEdges (phasesAt a b s) = 4 := by
      rw [wheelEdges, show activeBytes (phasesAt a b s) .pendant = none from hn]
    have seen := phasesSeen_of_edge edge
    rw [inverted] at seen
    have total : s.pendant.edges + (if edgeForward a b s = false then -1 else 1) = sum := by
      rw [hsum]
      show _ = if edgeForward a b s = true then _ else _
      cases edgeForward a b s <;> simp [sub_eq_add_neg]
    by_cases few : sum.natAbs < 4
    · rw [if_pos few]
      have counted := countEdge_of_lt (s := phasesAt a b s) (by rw [edges]; exact total.symm ▸ few)
      exact settled_eq (seen.trans (counted.trans (by rw [← total]; rfl))) (settledAt _)
    · rw [if_neg few]
      have counted := countEdge_of_le (s := phasesAt a b s) (by rw [edges]; exact total.symm ▸ not_lt.1 few)
      exact settled_eq (seen.trans (counted.trans (countDetent_of_absent hn))) (settledAt _)

end Sys2Proof.Machine

/-! # The pendant unit: grants, waits and the transfer -/

namespace Sys2Proof.Machine

-- Many short proofs that wait for the same case splitters: one after the other they need less memory.
set_option Elab.async false

section
variable {s : State} {a : Axis}

/-! ## A grant's end, the selector and the enable -/

theorem endGrant_of_not_granted (h : ∀ q, s.pendant.grant ≠ .granted q) : endGrant s = s := by
  rcases endGrant_cases s with ⟨-, e⟩ | ⟨q, hq, -⟩
  · exact e
  · exact absurd hq (h q)

theorem endGrant_of_granted (h : s.pendant.grant = .granted a) :
    endGrant s = raise .pendantReleased
      { s with pendant := { s.pendant with grant := .free, distance := 0, commandMark := false },
               axes := s.axes.set a { s.axes.get a with frozen := none } } := by
  unfold endGrant
  rw [h]

theorem selectorChange_off (s : State) :
    selectorChange .off s = { endGrant s with
      pendant := { (endGrant s).pendant with selector := .off, grant := .free } } := rfl

theorem selectorChange_axis (a : Axis) (s : State) :
    selectorChange (.axis a) s = { endGrant s with
      pendant := { (endGrant s).pendant with
        selector := .axis a, grant := if clampFaulted s a then .free else .waiting a,
        permitMark := false, stillCount := 0 } } := by
  have faulted : clampFaulted { endGrant s with pendant := { (endGrant s).pendant with selector := .axis a } } a =
      clampFaulted s a := by
    rcases endGrant_cases s with ⟨-, e⟩ | ⟨q, -, e⟩ <;> rw [e] <;> rfl
  rw [← faulted]
  rfl

theorem clampFaulted_iff : clampFaulted s a = true ↔
    ∃ c, a.clamp = some c ∧ clampAbsent s c = false ∧ (s.clamps.get c).state = .fault := by
  unfold clampFaulted
  cases a.clamp <;> simp

theorem selectorChange_grant_of_faulted (h : clampFaulted s a = true) :
    (selectorChange (.axis a) s).pendant.grant = .free := by
  rw [selectorChange_axis]; simp [h]

theorem selectorChange_grant_of_sound (h : clampFaulted s a = false) :
    (selectorChange (.axis a) s).pendant.grant = .waiting a := by
  rw [selectorChange_axis]; simp [h]

theorem selectorChange_flags (sel : Selector) (s : State) : (selectorChange sel s).flags = (endGrant s).flags := by
  cases sel <;> rfl

theorem selectorChange_distance (sel : Selector) (s : State) :
    (selectorChange sel s).pendant.distance = (endGrant s).pendant.distance := by
  cases sel <;> rfl

theorem selectorChange_commandMark (sel : Selector) (s : State) :
    (selectorChange sel s).pendant.commandMark = (endGrant s).pendant.commandMark := by
  cases sel <;> rfl

theorem changedTo_of_same {α : Type} [DecidableEq α] {d : Debounced α} {view : α}
    (h : d.value = none ∨ d.value = some view) : changedTo d view = none := by
  rcases h with h | h <;> simp [changedTo, h]

theorem changedTo_of_new {α : Type} [DecidableEq α] {d : Debounced α} {view v : α} (h : d.value = some v)
    (hv : v ≠ view) : changedTo d view = some v := by
  simp [changedTo, h, hv]

theorem handEnable_of_same (h : s.inputs.enable.value = none ∨ s.inputs.enable.value = some s.pendant.enable) :
    handEnable s = s := by
  rw [handEnable, changedTo_of_same h]

theorem handEnable_of_new {e : Enable} (h : s.inputs.enable.value = some e) (he : e ≠ s.pendant.enable) :
    handEnable s = { s with pendant := { s.pendant with
      enable := e, distance := if s.pendant.enable = .held then 0 else s.pendant.distance } } := by
  have cleared : (s.pendant.enable = .held ∧ e ≠ .held) ↔ s.pendant.enable = .held :=
    ⟨And.left, fun k => ⟨k, k ▸ he⟩⟩
  rw [handEnable, changedTo_of_new h he]
  simp only [enableChange, cleared]

/-! ## Permit, wait and grant at an expiry -/

theorem permitWithdrawn_of_permit {f : CycleFrame} (hg : s.pendant.grant = .granted a)
    (hp : (f.axes.get a).permit = true) : permitWithdrawn (some f) s = s := by
  simp [permitWithdrawn, hg, hp]

theorem permitWithdrawn_of_withdrawn {f : CycleFrame} (hg : s.pendant.grant = .granted a)
    (hp : (f.axes.get a).permit = false) : permitWithdrawn (some f) s = endGrant s := by
  simp [permitWithdrawn, hg, hp]

theorem clampFree_iff : clampFree s a = true ↔
    ∀ c, a.clamp = some c → clampAbsent s c = true ∨ s.seen.clampState.get c = .unclamped := by
  unfold clampFree clampHold
  cases a.clamp <;> simp

theorem permitOf_iff {held : Option CycleFrame} : permitOf held a = true ↔
    ∃ f, held = some f ∧ (f.axes.get a).permit = true := by
  cases held <;> simp [permitOf]

theorem grantDue_eq_true_iff {held : Option CycleFrame} : grantDue (permitOf held a) a s = true ↔
    s.seen.grant = .waiting a ∧ s.seen.permitMark = true ∧ (∃ f, held = some f ∧ (f.axes.get a).permit = true) ∧
      (∀ c, a.clamp = some c → clampAbsent s c = true ∨ s.seen.clampState.get c = .unclamped) ∧
      stillFrames s a ≤ s.pendant.stillCount := by
  rw [← clampFree_iff, ← permitOf_iff]
  simp [grantDue, and_assoc]

/-- R137: the permit mark and the still count of a wait after an expiry's frame. -/
theorem stillUpdate_permitUpdate (taken : Option CycleFrame) (a : Axis) (s : State) :
    stillUpdate taken a (permitUpdate taken a s) = { s with pendant := { s.pendant with
      stillCount := if (s.axes.get a).newer ≠ (s.axes.get a).older then 0
        else if taken = none then s.pendant.stillCount else min 255 (s.pendant.stillCount + 1)
      permitMark := taken.elim s.pendant.permitMark fun f => (f.axes.get a).permit } } := by
  unfold stillUpdate
  cases taken <;> by_cases h : (s.axes.get a).newer = (s.axes.get a).older <;> simp [permitUpdate, h]

theorem waitWork_of_waiting (taken held : Option CycleFrame) (h : s.pendant.grant = .waiting a) :
    waitWork taken held s = if grantDue (permitOf held a) a (stillUpdate taken a (permitUpdate taken a s)) then
      grantAxis a (stillUpdate taken a (permitUpdate taken a s)) else stillUpdate taken a (permitUpdate taken a s) := by
  rw [waitWork, h]

/-! ## The transfer (R135) -/

/-- The distance that an expiry transfers, before the offset limit. -/
def transferStep (bs : List Byte) (p : AxisParams) (s : State) : Int :=
  clampInt (-((min (pendantStep bs) p.ceiling : Nat) : Int)) (min (pendantStep bs) p.ceiling : Nat) s.pendant.distance

/-- The offset after a transfer, within ± the offset limit. -/
def transferOffset (bs : List Byte) (p : AxisParams) (a : Axis) (s : State) : Int :=
  clampInt (-(offsetLimit bs : Int)) (offsetLimit bs) ((s.axes.get a).offset + transferStep bs p s)

theorem transfer_of_granted {bs : List Byte} {p : AxisParams} (hg : s.pendant.grant = .granted a)
    (hb : activeBytes s .pendant = some bs) (hp : axisParams s a = some p) : transfer s = transferMove bs p a s := by
  simp [transfer, hg, hb, hp]

theorem transferMove_of_still {bs : List Byte} {p : AxisParams} (h : transferStep bs p s = 0) :
    transferMove bs p a s = s := by
  have h' : clampInt (-((min (pendantStep bs) p.ceiling : Nat) : Int)) (min (pendantStep bs) p.ceiling : Nat)
    s.pendant.distance = 0 := h
  unfold transferMove
  dsimp only
  rw [h']
  simp only [raiseIf, sub_zero]
  simp [show ({ s.axes.get a with offset := (s.axes.get a).offset } : AxisChannel) = s.axes.get a from rfl,
    PerAxis.set_get_self]

theorem transferMove_of_moving {bs : List Byte} {p : AxisParams} (h : transferStep bs p s ≠ 0) :
    transferMove bs p a s = raiseIf (decide (transferOffset bs p a s ≠ (s.axes.get a).offset + transferStep bs p s))
      .handwheelDiscard
      { s with
        pendant := { s.pendant with distance := s.pendant.distance - transferStep bs p s }
        axes := s.axes.set a { s.axes.get a with offset := transferOffset bs p a s } } := by
  have h' : decide (clampInt (-((min (pendantStep bs) p.ceiling : Nat) : Int)) (min (pendantStep bs) p.ceiling : Nat)
    s.pendant.distance ≠ 0) = true := decide_eq_true h
  unfold transferMove
  dsimp only
  rw [h', Bool.true_and, if_pos rfl]
  rfl

theorem transferStep_le (bs : List Byte) (p : AxisParams) (s : State) :
    (transferStep bs p s).natAbs ≤ min (pendantStep bs) p.ceiling := natAbs_clampInt_le _ _

theorem transferStep_rest (bs : List Byte) (p : AxisParams) (s : State) :
    (s.pendant.distance - transferStep bs p s).natAbs = s.pendant.distance.natAbs - min (pendantStep bs) p.ceiling := by
  unfold transferStep
  generalize min (pendantStep bs) p.ceiling = m
  unfold clampInt
  omega

theorem transferStep_eq_zero {bs : List Byte} {p : AxisParams} (h : s.pendant.distance = 0) :
    transferStep bs p s = 0 := by
  unfold transferStep clampInt
  omega

/-! ## Commands off the frozen base (R140) -/

theorem strayWork_of_idle (h : (∀ q, s.seen.grant ≠ .granted q) ∨ s.link.state ≠ .running) : strayWork s = s := by
  unfold strayWork
  split
  · rename_i q hq
    exact if_neg fun k => h.elim (fun h => h q hq) fun h => h k.1
  all_goals rfl

theorem strayWork_of_granted (hg : s.seen.grant = .granted a) (hl : s.link.state = .running) :
    strayWork s = if s.seen.frozen.get a ≠ some (commandOf s a) ∧ s.seen.commandMark = false ∧
        s.pendant.commandMark = false then
      raise .commandWhileGranted
        { s with pendant := { s.pendant with commandMark := decide (s.pendant.grant = .granted a) } }
      else s := by
  simp [strayWork, hg, hl]

end

/-- Settles O34, clause by clause from the rules above. -/
theorem transferKeepsLimits : Obligations.TransferKeepsLimits := by
  refine ⟨?_, ?_, ?_, ?_, fun s => ⟨handEnable_of_same, fun e => handEnable_of_new⟩, fun s =>
    ⟨strayWork_of_idle, ?_⟩⟩
  · intro bs p a s hg hb hp limit
    rw [transfer_of_granted hg hb hp]
    have small := transferStep_le bs p s
    have rest := transferStep_rest bs p s
    by_cases still : transferStep bs p s = 0
    · rw [still, sub_zero] at rest
      rw [transferMove_of_still still]
      simpa using ⟨limit, rest⟩
    · have frame := raiseIf_within
        (decide (transferOffset bs p a s ≠ (s.axes.get a).offset + transferStep bs p s)) .handwheelDiscard
        { s with
          pendant := { s.pendant with distance := s.pendant.distance - transferStep bs p s }
          axes := s.axes.set a { s.axes.get a with offset := transferOffset bs p a s } }
      rw [transferMove_of_moving still, isRaised_raiseIf_self, frame.same_axes, frame.same_pendant, frame.same_link,
        frame.same_clamps, frame.same_gear]
      refine ⟨?_, ?_, rest, fun h => absurd (transferStep_eq_zero h) still, fun q hq => PerAxis.get_set_ne _ _ hq, ?_,
        rfl, rfl, rfl⟩
      · rw [PerAxis.get_set_self]
        exact natAbs_clampInt_le _ _
      · rw [PerAxis.get_set_self]
        refine le_trans ?_ small
        show (transferOffset bs p a s - _).natAbs ≤ _
        unfold transferOffset clampInt
        omega
      · rw [PerAxis.get_set_self]
        refine or_congr Iff.rfl (decide_eq_true_iff.trans ?_)
        show _ ↔ transferOffset bs p a s - (s.axes.get a).offset ≠ s.pendant.distance - (s.pendant.distance - transferStep bs p s)
        omega
  · rintro taken held a s u still hg rfl rfl
    rw [waitWork_of_waiting taken held hg, stillUpdate_permitUpdate]
    simp only [grantDue_eq_true_iff]
    cases taken <;> rfl
  · intro f a s hg
    refine ⟨rfl, permitWithdrawn_of_permit hg, fun hp => ?_⟩
    rw [permitWithdrawn_of_withdrawn hg hp, endGrant_of_granted hg]
    rfl
  · intro sel s
    refine ⟨selectorChange_selector sel s, ?_, ?_, fun q hq => ?_, fun hq => ?_⟩
    · rintro rfl; rfl
    · rintro a rfl
      refine ⟨rfl, rfl, fun h => selectorChange_grant_of_faulted (clampFaulted_iff.2 h), fun h => ?_⟩
      refine selectorChange_grant_of_sound (Bool.eq_false_iff.2 fun k => ?_)
      obtain ⟨c, hc, present, fault⟩ := clampFaulted_iff.1 k
      rcases h c hc with h | h
      · rw [present] at h; cases h
      · exact h fault
    · rw [selectorChange_distance, selectorChange_commandMark, selectorChange_flags, selectorChange_axes,
        endGrant_of_granted hq]
      exact ⟨rfl, rfl, rfl, rfl⟩
    · rw [selectorChange_distance, selectorChange_flags, selectorChange_axes, endGrant_of_not_granted hq]
      exact ⟨rfl, rfl, rfl⟩
  · rintro a command hg hl rfl
    rw [strayWork_of_granted hg hl]
    refine ⟨fun h => if_neg ?_, fun h1 h2 h3 => if_pos ⟨h1, h2, h3⟩⟩
    rintro ⟨off, unmarked, fresh⟩
    rcases h with h | h | h
    · exact off h
    · rw [unmarked] at h; cases h
    · rw [fresh] at h; cases h

end Sys2Proof.Machine

/-! # The input conditioner: debouncing, the groups' first values and their delivery -/

namespace Sys2Proof.Machine

-- Many short proofs that wait for the same case splitters: one after the other they need less memory.
set_option Elab.async false

/-! ## Debouncing (R148) -/

section
variable {α : Type} [DecidableEq α] {n k : Nat} {v : α} {d : Debounced α}

theorem debounce_of_accepted (h : d.value = some v) : debounce n v d = ⟨some v, none, 0⟩ := by
  simp [debounce, h]

/-- The first sample at a new level. -/
theorem debounce_of_new (h : d.value ≠ some v) (hc : d.candidate ≠ some v) :
    debounce n v d = if n = 0 then ⟨some v, none, 0⟩ else { d with candidate := some v, run := 0 } := by
  simp [debounce, h, hc]

/-- A further sample at a new level. -/
theorem debounce_of_candidate (h : d.value ≠ some v) (hc : d.candidate = some v) :
    debounce n v d = if n ≤ d.run + 1 then ⟨some v, none, 0⟩ else { d with run := d.run + 1 } := by
  simp [debounce, h, hc]

/-- Up to `n` samples in a row at a new level only lengthen the run. -/
theorem foldl_debounce_of_le (h : d.value ≠ some v) (hc : d.candidate ≠ some v) (hk : k < n) :
    (List.replicate (k + 1) v).foldl (fun d v => debounce n v d) d = { d with candidate := some v, run := k } := by
  induction k with
  | zero => exact (debounce_of_new h hc).trans (if_neg (by omega))
  | succ k ih =>
    rw [List.replicate_succ', List.foldl_append, ih (by omega)]
    exact (debounce_of_candidate (d := { d with candidate := some v, run := k }) h rfl).trans
      (if_neg (show ¬n ≤ k + 1 by omega))

/-- The sample after them is accepted. -/
theorem foldl_debounce_accepts (h : d.value ≠ some v) (hc : d.candidate ≠ some v) :
    (List.replicate (n + 1) v).foldl (fun d v => debounce n v d) d = ⟨some v, none, 0⟩ := by
  cases n with
  | zero => exact (debounce_of_new h hc).trans (if_pos rfl)
  | succ n =>
    rw [List.replicate_succ', List.foldl_append, foldl_debounce_of_le h hc (Nat.lt_succ_self n)]
    exact (debounce_of_candidate (d := { d with candidate := some v, run := n }) h rfl).trans (if_pos le_rfl)

end

/-! ## The groups (R148, R150) -/

section
variable {s : State}

/-- A group's debounce count, by the active input table or its default. -/
theorem inputField_byteAt {k n : Nat} (h : n = match s.store.active.inputs with
    | some img => byteAt img.bytes k
    | none => 3) : inputField s (byteAt · k) 3 = n := by
  rw [h]
  unfold inputField activeBytes PerTable.get
  cases s.store.active.inputs <;> rfl

theorem PerClamp.all_iff {p : ClampAxis → Bool} : PerClamp.all p = true ↔ ∀ a, p a = true := by
  simp only [PerClamp.all, Bool.and_eq_true]
  refine ⟨fun ⟨⟨⟨x, y⟩, z⟩, b⟩ a => ?_, fun h => ⟨⟨⟨h .x, h .y⟩, h .z⟩, h .b⟩⟩
  cases a <;> assumption

theorem clampGroupDone_iff {i : Inputs} : clampGroupDone i = true ↔
    ∀ a, (i.clamps.get a).clamped.value ≠ none ∧ (i.clamps.get a).unclamped.value ≠ none := by
  simp [clampGroupDone, PerClamp.all_iff, Option.isSome_iff_ne_none]

theorem forkGroupDone_iff {i : Inputs} : forkGroupDone i = true ↔ ∀ f, (i.forks.get f).value ≠ none := by
  simp only [forkGroupDone, Bool.and_eq_true, Option.isSome_iff_ne_none]
  refine ⟨fun ⟨⟨⟨x, y⟩, z⟩, b⟩ f => ?_, fun h => ⟨⟨⟨h .aLeft, h .aRight⟩, h .bLeft⟩, h .bRight⟩⟩
  cases f <;> assumption

theorem pendantGroupDone_iff {i : Inputs} : pendantGroupDone i = true ↔ i.selector.value ≠ none ∧
    i.increment.value ≠ none ∧ i.enable.value ≠ none ∧ ∀ d ∈ i.buttons.toList, d.value ≠ none := by
  simp [pendantGroupDone, Option.isSome_iff_ne_none, and_assoc]

/-- R148 for one expiry's samples, with the counts of the groups. -/
theorem conditionerWork_sampled (v : Samples) (s : State) :
    (∀ a, ((conditionerWork v s).inputs.clamps.get a) =
      debouncePair (clampDebounce s) (v.clamps.get a) (s.inputs.clamps.get a)) ∧
    (∀ f, (conditionerWork v s).inputs.forks.get f =
      debounce (forkDebounce s) (v.forks.get f) (s.inputs.forks.get f)) ∧
    (conditionerWork v s).inputs.buttons.toList =
      List.zipWith (debounce (pendantDebounce s)) v.buttons.toList s.inputs.buttons.toList :=
  ⟨fun a => PerClamp.get_of _ a, fun f => by cases f <;> rfl, rfl⟩

/-- R150: a mark is set where it was or where its group has every value. -/
theorem conditionerWork_marked (v : Samples) (s : State) :
    (conditionerWork v s).inputs.clampComplete =
      (s.inputs.clampComplete || clampGroupDone (conditionerWork v s).inputs) ∧
    (conditionerWork v s).inputs.forkComplete =
      (s.inputs.forkComplete || forkGroupDone (conditionerWork v s).inputs) ∧
    (conditionerWork v s).inputs.pendantComplete =
      (s.inputs.pendantComplete || pendantGroupDone (conditionerWork v s).inputs) := ⟨rfl, rfl, rfl⟩

/-! ## The first values of the clamp group (R84, R78) -/

theorem readingNow_clamped_iff {a : ClampAxis} (h : s.inputs.clampComplete = true) :
    readingNow s a = .clampedConfirm ↔
      (s.inputs.clamps.get a).clamped.value = some true ∧ (s.inputs.clamps.get a).unclamped.value = some false := by
  rw [readingNow, if_pos h, switchReading]
  cases (s.inputs.clamps.get a).clamped.value with
  | none => simp
  | some p =>
    cases (s.inputs.clamps.get a).unclamped.value with
    | none => cases p <;> simp
    | some q => cases p <;> cases q <;> simp

/-- The sequencers as the first values stand, before any recovery. -/
def clampsDelivered (s : State) : State :=
  { s with
    inputs := { s.inputs with clampsDelivered := true }
    clamps := PerClamp.of fun a =>
      if clampInForce s a ∧ (s.clamps.get a).state = .dropped ∧ readingNow s a = .clampedConfirm then
        { s.clamps.get a with state := .clamped }
      else s.clamps.get a }

theorem clampFirstWork_of_not_due {order : List ClampAxis}
    (h : s.inputs.clampComplete = false ∨ s.inputs.clampsDelivered = true) : clampFirstWork order s = s := by
  unfold clampFirstWork
  rcases h with h | h <;> simp [h]

theorem clampFirstWork_of_due {order : List ClampAxis} (h : s.inputs.clampComplete = true)
    (hd : s.inputs.clampsDelivered = false) : clampFirstWork order s = recoverDropped order (clampsDelivered s) := by
  have due : (s.inputs.clampComplete && !s.inputs.clampsDelivered) = true := by rw [h, hd]; rfl
  rw [clampFirstWork, if_pos due]
  rfl

section
variable {a : ClampAxis} {order : List ClampAxis} (hc : s.inputs.clampComplete = true)
  (hs : (s.clamps.get a).state = .dropped)

theorem clampsDelivered_get (s : State) (a : ClampAxis) : (clampsDelivered s).clamps.get a =
    if clampInForce s a ∧ (s.clamps.get a).state = .dropped ∧ readingNow s a = .clampedConfirm then
      { s.clamps.get a with state := .clamped }
    else s.clamps.get a := PerClamp.get_of _ a

include hs in
/-- A clamp that neither confirms nor may recover keeps its DROPPED. -/
theorem recoverDropped_keeps (h : clampInForce s a = false ∨ (readingNow s a ≠ .clampedConfirm ∧
    (s.link.state = .offline ∨ s.link.state = .halted))) :
    (recoverDropped order (clampsDelivered s)).clamps.get a = s.clamps.get a := by
  have kept : (clampsDelivered s).clamps.get a = s.clamps.get a := by
    rw [clampsDelivered_get, if_neg]
    rintro ⟨force, -, reading⟩
    rcases h with h | ⟨h, -⟩
    · rw [h] at force; cases force
    · exact h reading
  refine (recoverDropped_of_not_waiting order (by rw [kept, hs]; rfl) ?_).trans kept
  refine Bool.eq_false_iff.2 fun hr => ?_
  obtain ⟨-, force, rest, -⟩ := recoverable_iff.1 hr
  rcases h with h | ⟨-, h⟩
  · exact absurd (h.symm.trans force) nofun
  · rw [show (clampsDelivered s).link = s.link from rfl] at rest
    rcases h with h | h <;> rw [h] at rest <;> cases rest

include hs in
theorem recoverDropped_confirms (hf : clampInForce s a = true) (hr : readingNow s a = .clampedConfirm) :
    (recoverDropped order (clampsDelivered s)).clamps.get a = { s.clamps.get a with state := .clamped } := by
  have clamped : (clampsDelivered s).clamps.get a = { s.clamps.get a with state := .clamped } := by
    rw [clampsDelivered_get, if_pos ⟨hf, hs, hr⟩]
  refine (recoverDropped_of_not_waiting order (by rw [clamped]; rfl) ?_).trans clamped
  unfold recoverable
  rw [clamped]
  rfl

include hs in
theorem recoverDropped_begins (hf : clampInForce s a = true) (hr : readingNow s a ≠ .clampedConfirm)
    (hoff : s.link.state ≠ .offline) (hhalt : s.link.state ≠ .halted) :
    Recovered s a (recoverDropped order (clampsDelivered s)) := by
  have kept : (clampsDelivered s).clamps.get a = s.clamps.get a := by
    rw [clampsDelivered_get, if_neg fun h => hr h.2.2]
  refine recoverDropped_recovered (s := clampsDelivered s) order (recoverable_iff.2 ⟨kept ▸ hs, hf, ?_, rfl⟩)
  show s.link.state.atRest = false
  cases hl : s.link.state <;> simp_all [LinkState.atRest]

end

/-! ## The panel (R144) -/

/-- The announcement of a press. -/
def pressOf (before now : Bool) (src : TriggerSource) : List TriggerSource :=
  if now = true ∧ before = false then [src] else []

theorem press_eq (before now : Bool) (src : TriggerSource) (s : State) : press before now src s =
    { s with coolant := { s.coolant with announced := s.coolant.announced ++ pressOf before now src } } := by
  cases before <;> cases now <;> simp [press, announceIf, announce, pressOf]

/-- What the buttons' hand-over announces. -/
def presses (s : State) : List TriggerSource :=
  pressOf s.pendant.buttons.b1 (buttonsNow s).b1 .pb0 ++ pressOf s.pendant.buttons.b2 (buttonsNow s).b2 .pb1 ++
    pressOf s.pendant.buttons.b3 (buttonsNow s).b3 .pb2 ++ pressOf s.pendant.buttons.b4 (buttonsNow s).b4 .pb3

theorem handPanel_eq (s : State) : handPanel s = { s with
    pendant := { s.pendant with
      buttons := buttonsNow s, increment := s.inputs.increment.value.getD s.pendant.increment }
    coolant := { s.coolant with announced := s.coolant.announced ++ presses s } } := by
  unfold handPanel
  dsimp only
  simp only [press_eq, presses, List.append_assoc]

/-- The hand-overs of selector and enable touch neither the buttons nor what is announced. -/
structure PanelKept (s t : State) : Prop where
  inputs : t.inputs = s.inputs
  coolant : t.coolant = s.coolant
  buttons : t.pendant.buttons = s.pendant.buttons
  delivered : t.pendant.delivered = s.pendant.delivered

theorem PanelKept.trans {u : State} {t : State} (h : PanelKept s t) (k : PanelKept t u) : PanelKept s u :=
  ⟨k.inputs.trans h.inputs, k.coolant.trans h.coolant, k.buttons.trans h.buttons, k.delivered.trans h.delivered⟩

theorem selectorChange_panelKept (sel : Selector) (s : State) : PanelKept s (selectorChange sel s) := by
  have ended : PanelKept s (endGrant s) := by
    rcases endGrant_cases s with ⟨-, e⟩ | ⟨q, -, e⟩ <;> rw [e] <;> exact ⟨rfl, rfl, rfl, rfl⟩
  cases sel <;> exact ended.trans ⟨rfl, rfl, rfl, rfl⟩

theorem handSelector_panelKept (s : State) : PanelKept s (handSelector s) := by
  rcases handSelector_cases s with ⟨-, e⟩ | ⟨v, -, e⟩ <;> rw [e]
  · exact ⟨rfl, rfl, rfl, rfl⟩
  · exact selectorChange_panelKept v s

theorem handSelector_selector {sel : Selector} (h : s.inputs.selector.value = some sel) :
    (handSelector s).pendant.selector = sel := by
  unfold handSelector
  by_cases same : sel = s.pendant.selector
  · rw [changedTo_of_same (.inr (same ▸ h))]
    exact same.symm
  · rw [changedTo_of_new h same]
    exact selectorChange_selector sel s

theorem handEnable_of_some {e : Enable} (h : s.inputs.enable.value = some e) :
    ∃ d, handEnable s = { s with pendant := { s.pendant with enable := e, distance := d } } := by
  by_cases same : e = s.pendant.enable
  · exact ⟨s.pendant.distance, by rw [handEnable_of_same (.inr (same ▸ h)), same]⟩
  · exact ⟨_, handEnable_of_new h same⟩

theorem presses_congr {t : State} (h : PanelKept s t) : presses t = presses s ∧ buttonsNow t = buttonsNow s := by
  unfold presses buttonsNow
  rw [h.inputs, h.buttons]
  exact ⟨rfl, rfl⟩

/-- R132, R150: the first delivery, once the group has its values. -/
theorem pendantFirstWork_of_due {sel : Selector} {inc : Increment} {e : Enable}
    (hc : s.inputs.pendantComplete = true) (hd : s.pendant.delivered = false)
    (hsel : s.inputs.selector.value = some sel) (hinc : s.inputs.increment.value = some inc)
    (he : s.inputs.enable.value = some e) :
    (pendantFirstWork s).pendant.delivered = true ∧ (pendantFirstWork s).pendant.selector = sel ∧
    (pendantFirstWork s).pendant.increment = inc ∧ (pendantFirstWork s).pendant.enable = e ∧
    (pendantFirstWork s).pendant.buttons = buttonsNow s ∧
    (pendantFirstWork s).coolant.announced = s.coolant.announced ++ presses s ∧
    ∀ u, u = handSelector { s with pendant := { s.pendant with delivered := true } } →
      (pendantFirstWork s).pendant.grant = u.pendant.grant ∧
      (pendantFirstWork s).pendant.permitMark = u.pendant.permitMark ∧
      (pendantFirstWork s).pendant.stillCount = u.pendant.stillCount := by
  obtain ⟨u, hu⟩ : ∃ u, u = handSelector { s with pendant := { s.pendant with delivered := true } } := ⟨_, rfl⟩
  have keptTo : PanelKept { s with pendant := { s.pendant with delivered := true } } u := hu ▸ handSelector_panelKept _
  have inputs : u.inputs = s.inputs := keptTo.inputs
  obtain ⟨d, hw⟩ := handEnable_of_some (s := u) (inputs ▸ he)
  have keptAll : PanelKept { s with pendant := { s.pendant with delivered := true } } (handEnable u) :=
    keptTo.trans (hw.symm ▸ ⟨rfl, rfl, rfl, rfl⟩)
  have work : pendantFirstWork s = handPanel (handEnable u) := by
    have due : (s.inputs.pendantComplete && !s.pendant.delivered) = true := by rw [hc, hd]; rfl
    rw [pendantFirstWork, if_pos due, hu]
  obtain ⟨same, now⟩ := presses_congr keptAll
  rw [work, handPanel_eq, same, now, keptAll.coolant, keptAll.inputs, hinc]
  refine ⟨keptAll.delivered, ?_, rfl, ?_, rfl, rfl, ?_⟩
  · rw [hw, hu]
    exact handSelector_selector (s := { s with pendant := { s.pendant with delivered := true } }) hsel
  · rw [hw]
  · rintro _ rfl
    rw [← hu, hw]
    exact ⟨rfl, rfl, rfl⟩

end

/-- Settles O31, clause by clause from the rules above. -/
theorem debounceNeedsWholeRun : Obligations.DebounceNeedsWholeRun := by
  refine ⟨fun n k v d h hc => ⟨by rw [foldl_debounce_accepts h hc], fun hk => ?_⟩,
    fun n v d h => debounce_of_accepted h, ?_, ?_, ?_⟩
  · cases k with
    | zero => rfl
    | succ k => rw [foldl_debounce_of_le h hc (by omega)]
  · rintro v count s i hcount rfl
    obtain ⟨clamps, forks, buttons⟩ := conditionerWork_sampled v s
    obtain ⟨clampMark, forkMark, pendantMark⟩ := conditionerWork_marked v s
    have count0 : clampDebounce s = count 0 := inputField_byteAt (hcount 0)
    have count1 : forkDebounce s = count 1 := inputField_byteAt (hcount 1)
    have count2 : pendantDebounce s = count 2 := inputField_byteAt (hcount 2)
    rw [clampMark, forkMark, pendantMark, Bool.or_eq_true, Bool.or_eq_true, Bool.or_eq_true, clampGroupDone_iff,
      forkGroupDone_iff, pendantGroupDone_iff, ← count0, ← count1, ← count2]
    refine ⟨fun a => ?_, forks, buttons, Iff.rfl, Iff.rfl, Iff.rfl⟩
    rw [clamps a]
    exact ⟨rfl, rfl⟩
  · rintro order s t rfl
    refine ⟨clampFirstWork_of_not_due, fun hc hd => ?_⟩
    rw [clampFirstWork_of_due hc hd]
    have frame : Within bankParts (clampsDelivered s) (recoverDropped order (clampsDelivered s)) :=
      foldl_recoverClamp_within _ _
    refine ⟨frame.same_inputs, fun a hs => ⟨fun hf => recoverDropped_keeps hs (.inl hf), fun hf h1 h2 =>
      recoverDropped_confirms hs hf ((readingNow_clamped_iff hc).2 ⟨h1, h2⟩), fun hf hn => ?_⟩⟩
    have off : readingNow s a ≠ .clampedConfirm := fun k => by
      obtain ⟨h1, h2⟩ := (readingNow_clamped_iff hc).1 k
      exact hn.elim (· h1) (· h2)
    refine ⟨fun hl => recoverDropped_keeps hs (.inr ⟨off, hl⟩), fun hoff hhalt => ?_⟩
    rcases recoverDropped_begins (order := order) hs hf off hoff hhalt with h | ⟨h, hh, -⟩
    · exact .inl h
    · exact .inr ⟨hh, h⟩
  · rintro c s now pr rfl rfl
    refine ⟨fun hd => ?_, fun hd => ?_, fun h => ?_, ?_⟩
    · simp [runTask, delivered, hd]
    · have work : runTask c .panel s = handPanel s := by simp [runTask, delivered, hd]
      rw [work, handPanel_eq]
      rfl
    · show pendantFirstWork s = s
      unfold pendantFirstWork
      rcases h with h | h <;> simp [h]
    · rintro t sel inc e hc hd rfl hsel hinc he
      obtain ⟨delivered, selector, increment, enable, buttons, announced, grant⟩ :=
        pendantFirstWork_of_due hc hd hsel hinc he
      refine ⟨delivered, selector, increment, enable, buttons, announced, fun same => ?_, fun a ha hoff sound => ?_⟩
      · refine (grant _ rfl).1.trans ?_
        unfold handSelector
        rw [changedTo_of_same (.inr (same ▸ hsel))]
      · have change : handSelector { s with pendant := { s.pendant with delivered := true } } =
            selectorChange (.axis a) { s with pendant := { s.pendant with delivered := true } } := by
          unfold handSelector
          rw [changedTo_of_new (v := .axis a) (ha ▸ hsel) (show Selector.axis a ≠ s.pendant.selector by rw [hoff]; nofun)]
        obtain ⟨granted, permit, still⟩ := grant _ change.symm
        have free : clampFaulted { s with pendant := { s.pendant with delivered := true } } a = false := by
          refine Bool.eq_false_iff.2 fun k => ?_
          obtain ⟨q, hq, present, fault⟩ := clampFaulted_iff.1 k
          rcases sound q hq with h | h
          · exact absurd (present.symm.trans h) nofun
          · exact h fault
        exact ⟨granted.trans (selectorChange_grant_of_sound free), permit, still⟩

end Sys2Proof.Machine

/-! # The spindle channel: speeds, interlock, run value -/

namespace Sys2Proof.Machine

-- Many short proofs that wait for the same case splitters: one after the other they need less memory.
set_option Elab.async false

/-! ## Speeds (R85, R86) -/

theorem roundDiv_nonneg {n : Int} {d : Nat} (hd : 0 < d) (h : 0 ≤ n) : 0 ≤ roundDiv n d :=
  le_roundDiv_of_mul_le hd (by omega)

theorem roundDiv_nonpos {n : Int} {d : Nat} (hd : 0 < d) (h : n ≤ 0) : roundDiv n d ≤ 0 :=
  roundDiv_le_of_le_mul hd (by omega)

section
variable {c : Int} {o lo hi : Nat}

/-- The command under its override, before the limits of the range. -/
def overriddenSpeed (c : Int) (o : Nat) : Int := roundDiv (clampInt (-2000) 2000 c * o) 100

theorem overriddenSpeed_nonneg (h : 0 ≤ c) : 0 ≤ overriddenSpeed c o := by
  refine roundDiv_nonneg (by decide) (mul_nonneg ?_ (by positivity))
  unfold clampInt; omega

theorem overriddenSpeed_nonpos (h : c ≤ 0) : overriddenSpeed c o ≤ 0 := by
  refine roundDiv_nonpos (by decide) (mul_nonpos_of_nonpos_of_nonneg ?_ (by positivity))
  unfold clampInt; omega

theorem effectiveSpeed_eq (c : Int) (o lo hi : Nat) : effectiveSpeed c o lo hi =
    if overriddenSpeed c o = 0 then 0
    else if 0 < overriddenSpeed c o then clampInt lo hi (overriddenSpeed c o)
    else -(clampInt lo hi (-overriddenSpeed c o)) := rfl

theorem effectiveSpeed_nonneg (h : 0 ≤ c) : 0 ≤ effectiveSpeed c o lo hi := by
  have := overriddenSpeed_nonneg (o := o) h
  rw [effectiveSpeed_eq]
  unfold clampInt
  split_ifs <;> omega

theorem effectiveSpeed_nonpos (h : c ≤ 0) : effectiveSpeed c o lo hi ≤ 0 := by
  have := overriddenSpeed_nonpos (o := o) h
  rw [effectiveSpeed_eq]
  unfold clampInt
  split_ifs <;> omega

theorem effectiveSpeed_mem (h : lo ≤ hi) : effectiveSpeed c o lo hi = 0 ∨
    (lo ≤ (effectiveSpeed c o lo hi).natAbs ∧ (effectiveSpeed c o lo hi).natAbs ≤ hi) := by
  rw [effectiveSpeed_eq]
  unfold clampInt
  split_ifs <;> omega

/-- R85 with the sign written out. -/
theorem effectiveSpeed_signed (h : lo ≤ hi) {e : Int} (he : e = overriddenSpeed c o) :
    effectiveSpeed c o lo hi = if e = 0 then 0 else if e.natAbs < lo then e.sign * lo
      else if hi < e.natAbs then e.sign * hi else e := by
  subst he
  rw [effectiveSpeed_eq]
  generalize overriddenSpeed c o = e
  unfold clampInt
  rcases lt_trichotomy e 0 with neg | zero | pos
  · rw [Int.sign_eq_neg_one_of_neg neg]
    split_ifs <;> omega
  · rw [if_pos zero, if_pos zero]
  · rw [Int.sign_eq_one_of_pos pos]
    split_ifs <;> omega

end

section
variable {bs : List Byte} {r : Range} {c : Int} {o : Nat}

theorem engagedOutput_nonneg (h : 0 ≤ c) : 0 ≤ engagedOutput bs r c o := by
  have := roundDiv_nonneg (n := effectiveSpeed c o (gearMin bs r) (gearMax bs r) * gearRatio bs r) (d := 1000)
    (by decide) (mul_nonneg (effectiveSpeed_nonneg h) (by positivity))
  unfold engagedOutput motorSpeed clampInt
  omega

theorem engagedOutput_nonpos (h : c ≤ 0) : engagedOutput bs r c o ≤ 0 := by
  have := roundDiv_nonpos (n := effectiveSpeed c o (gearMin bs r) (gearMax bs r) * gearRatio bs r) (d := 1000)
    (by decide) (mul_nonpos_of_nonpos_of_nonneg (effectiveSpeed_nonpos h) (by positivity))
  unfold engagedOutput motorSpeed clampInt
  omega

theorem motorSpeed_eq (e : Int) (ratio ceiling : Nat) : motorSpeed e ratio ceiling =
    if roundDiv (e * ratio) 1000 < -(ceiling : Int) then -(ceiling : Int)
    else if (ceiling : Int) < roundDiv (e * ratio) 1000 then (ceiling : Int) else roundDiv (e * ratio) 1000 := by
  unfold motorSpeed clampInt
  split_ifs <;> omega

end

/-! ## The interlock and the output (R87, R88) -/

section
variable {s : State}

theorem outputAt_of_interlock {held : Option CycleFrame} (hl : s.link.state = .running) (hg : s.gear.state = .engaged)
    (hi : s.gear.interlock = true) : outputAt held s = 0 := by
  simp [outputAt, hl, hg, hi]

theorem outputAt_of_engaged {held : Option CycleFrame} {bs : List Byte} {r : Range} (hl : s.link.state = .running)
    (hg : s.gear.state = .engaged) (hi : s.gear.interlock = false) (hr : s.gear.engaged = some r)
    (hb : activeBytes s .gear = some bs) :
    outputAt held s = engagedOutput bs r (spindleCommand held) s.seen.spindleOverride := by
  simp [outputAt, hl, hg, hi, hr, hb]

theorem spindleHeldWork_some (f : CycleFrame) (s : State) : spindleHeldWork (some f) s =
    if s.link.state = .running ∧ f.spindle ≠ 0 ∧ s.gear.state = .engaged ∧ s.gear.interlock = true then
      raise .spindleHeld s else s := by
  unfold spindleHeldWork raiseIf
  simp only [Bool.and_eq_true, decide_eq_true_eq, and_assoc]

/-! ## The run value (R89, R52) -/

theorem runValueOf_eq (s : State) : runValueOf s =
    if s.gear.state = .engaged ∨ s.gear.state = .stoppingSpindle then s.gear.output else 0 := by
  unfold runValueOf
  cases s.gear.state <;> rfl

/-- R52: a spindle start after a stop that has lasted. -/
theorem growthSpindleStart_comp {bs : List Byte} (hb : activeBytes s .compensation = some bs) :
    (growthSpindleStart s).comp = if compStopMs bs ≤ s.comp.stoppedMs ∧ compEnable bs 2 = true then
      { s.comp with updates := updatesOf (compRestart bs), hardFirst := true } else s.comp := by
  unfold growthSpindleStart enabledTrigger growthTrigger
  rw [hb]
  by_cases stopped : compStopMs bs ≤ s.comp.stoppedMs
  · by_cases enabled : compEnable bs 2 = true <;> simp [stopped, enabled]
  · simp [stopped]

/-- The state with the run value of this expiry. -/
def ranAt (s : State) : State := { s with gear := { s.gear with runValue := runValueOf s } }

theorem spindleAnnounceWork_of_start (h0 : s.gear.runValue = 0) (h : runValueOf s ≠ 0) :
    spindleAnnounceWork s = announce .spindleStart (growthSpindleStart (ranAt s)) := by
  simp [spindleAnnounceWork, h0, h, ranAt]

theorem spindleAnnounceWork_of_stop (h0 : s.gear.runValue ≠ 0) (h : runValueOf s = 0) :
    spindleAnnounceWork s = announce .spindleStop (growthSpindleStop (ranAt s)) := by
  simp [spindleAnnounceWork, h0, h, ranAt]

theorem spindleAnnounceWork_of_same (h : s.gear.runValue = 0 ↔ runValueOf s = 0) :
    spindleAnnounceWork s = ranAt s := by
  by_cases h0 : s.gear.runValue = 0
  · simp [spindleAnnounceWork, h0, h.1 h0, ranAt]
  · simp [spindleAnnounceWork, h0, mt h.2 h0, ranAt]

theorem spindleAnnounceWork_gear (s : State) :
    (spindleAnnounceWork s).gear = { s.gear with runValue := runValueOf s } ∧
    (spindleAnnounceWork s).coolant.announced = s.coolant.announced ++
      (if s.gear.runValue = 0 ∧ runValueOf s ≠ 0 then [.spindleStart]
        else if s.gear.runValue ≠ 0 ∧ runValueOf s = 0 then [.spindleStop] else []) := by
  by_cases h0 : s.gear.runValue = 0 <;> by_cases h : runValueOf s = 0
  · rw [spindleAnnounceWork_of_same (by simp [h0, h])]
    simp [h0, h, ranAt]
  · rw [spindleAnnounceWork_of_start h0 h]
    have frame := growthSpindleStart_within (ranAt s)
    refine ⟨frame.same_gear, ?_⟩
    show (growthSpindleStart (ranAt s)).coolant.announced ++ _ = _
    rw [frame.same_coolant]
    simp [h0, h, ranAt]
  · rw [spindleAnnounceWork_of_stop h0 h]
    exact ⟨rfl, by simp [h0, h, announce, growthSpindleStop, ranAt]⟩
  · rw [spindleAnnounceWork_of_same (by simp [h0, h])]
    simp [h0, h, ranAt]

end

/-- Settles O35, clause by clause from the rules above. -/
theorem spindleSpeedWithinRange : Obligations.SpindleSpeedWithinRange := by
  refine ⟨fun bs r c o h => ⟨effectiveSpeed_mem h, engagedOutput_nonneg, engagedOutput_nonpos, ?_,
    natAbs_clampInt_le _ _, ?_⟩, ?_, ?_, ?_, by decide⟩
  · rintro rfl
    exact le_antisymm (engagedOutput_nonpos le_rfl) (engagedOutput_nonneg le_rfl)
  · rintro cut e k m hcut he hk rfl
    have cut_eq : cut = clampInt (-2000) 2000 c := by
      rw [hcut]; unfold clampInt; split_ifs <;> omega
    have effective : effectiveSpeed c o (gearMin bs r) (gearMax bs r) = k :=
      (effectiveSpeed_signed h (he.trans (by rw [cut_eq]; rfl))).trans hk.symm
    exact ⟨effective, by rw [engagedOutput, effective, motorSpeed_eq]⟩
  · intro f held bs r s
    refine ⟨rfl, rfl, outputAt_of_interlock, fun hl hg hi hr hb => outputAt_of_engaged hl hg hi hr hb, rfl, ?_⟩
    rw [spindleHeldWork_some]
    rfl
  · rintro s run hrun
    obtain rfl : run = runValueOf s := hrun.trans (runValueOf_eq s).symm
    obtain ⟨gear, announced⟩ := spindleAnnounceWork_gear s
    refine ⟨gear, announced, fun h0 h => ?_, fun bs h0 h hb => ?_⟩
    · rw [spindleAnnounceWork_of_stop h0 h]
      rfl
    · rw [spindleAnnounceWork_of_start h0 h]
      exact growthSpindleStart_comp (s := ranAt s) hb
  · intro p taken r inp u s
    have : min 255000 (s.comp.stoppedMs + p.ms) = if s.comp.stoppedMs + p.ms ≤ 255000 then s.comp.stoppedMs + p.ms
        else 255000 := by split <;> omega
    show stoppedTimerWork p.ms s = _
    rw [stoppedTimerWork, this]

end Sys2Proof.Machine

/-! # The valve bank: claims, grants and releases on a known bank; the pressure watch; the clamps' ordinary path -/

namespace Sys2Proof.Machine

-- Many short proofs that wait for the same case splitters: one after the other they need less memory.
set_option Elab.async false

section
variable {s t : State}

/-- Between two gear states that both withhold the pump nothing changes for the sequencer. -/
theorem SettledLaw.of_not_engaged (h : SettledLaw s) (hc : t.coolant = s.coolant) (hs : s.gear.state ≠ .engaged)
    (ht : t.gear.state ≠ .engaged) : SettledLaw t := by
  refine ⟨hc ▸ h.1, ?_⟩
  have same : demandNow t = demandNow s := by
    rw [demandNow, demandNow, withholding_of_not_engaged hs, withholding_of_not_engaged ht, hc]
  rw [same, hc]
  exact h.2

theorem getLsbD_raise (f g : Flag) (s : State) : isRaised f (raise g s) = (isRaised f s || g.bit.getLsbD f.num) :=
  BitVec.getLsbD_or

/-- R172: a raised flag stays raised. -/
theorem isRaised_raise {f : Flag} (g : Flag) (h : isRaised f s = true) : isRaised f (raise g s) = true := by
  rw [getLsbD_raise, h, Bool.true_or]

theorem isRaised_congr {f : Flag} (h : t.flags = s.flags) : isRaised f t = isRaised f s := by
  unfold isRaised; rw [h]

/-! ## The arbiter on a known bank (R64 to R66) -/

section
variable {c d : Claimant}

theorem tryGrant_of_head {rest : List Claimant} (hr : grantReady s = true) (hq : s.bank.queue = c :: rest) :
    tryGrant s = beginTransit c { s with bank := { s.bank with queue := rest, holder := some c } } := by
  unfold tryGrant
  rw [if_pos hr, hq]

theorem tryGrant_of_not_ready (h : grantReady s = false) : tryGrant s = s := by
  unfold tryGrant
  rw [h]
  rfl

/-- A claim joins the tail of a held bank's queue. -/
theorem claim_of_held (h : s.bank.holder = some d) (hd : d ≠ c) (hq : c ∉ s.bank.queue) :
    claim c s = { s with bank := { s.bank with queue := s.bank.queue ++ [c] } } := by
  have own : s.bank.holder ≠ some c := fun k => hd (Option.some.inj (h.symm.trans k))
  unfold claim
  rw [if_neg (not_or.2 ⟨hq, own⟩)]
  exact tryGrant_of_holder (s := { s with bank := { s.bank with queue := s.bank.queue ++ [c] } }) h

theorem release_of_last (h : s.bank.holder = some c) (hq : s.bank.queue = []) :
    release c s = { s with bank := { s.bank with holder := none } } := by
  unfold release
  rw [if_pos h]
  exact tryGrant_of_nil (s := { s with bank := { s.bank with holder := none } }) hq

theorem release_of_low (h : s.bank.holder = some c) (hp : s.bank.pressureOk = false) :
    release c s = { s with bank := { s.bank with holder := none } } := by
  unfold release
  rw [if_pos h]
  refine tryGrant_of_not_ready ?_
  simp [grantReady, hp]

theorem release_of_other (h : s.bank.holder ≠ some c) : release c s = s := if_neg h

end

/-! ## A clamp's entry into FAULT (R79, R139) -/

section
variable {a : ClampAxis}

/-- R79 before the release: the sequencer, its claim, the flag, and the wait or grant on its axis. -/
def clampFaulting (a : ClampAxis) (s : State) : State :=
  pendantClampFault a { s with
    clamps := s.clamps.set a ⟨.fault, none, 0⟩
    bank := { s.bank with queue := s.bank.queue.erase (.clamp a) }
    flags := { s.flags with raised := s.flags.raised ||| Flag.clampFault.bit } }

theorem clampToFault_eq_release (a : ClampAxis) (s : State) :
    clampToFault a s = release (.clamp a) (clampFaulting a s) := rfl

theorem pendantClampFault_of_idle (hw : s.pendant.grant ≠ .waiting a.axis) (hg : s.pendant.grant ≠ .granted a.axis) :
    pendantClampFault a s = s := by
  unfold pendantClampFault
  rw [if_neg hg, if_neg hw]

theorem clampFaulting_bank (a : ClampAxis) (s : State) :
    (clampFaulting a s).bank = { s.bank with queue := s.bank.queue.erase (.clamp a) } ∧
    (clampFaulting a s).clamps = s.clamps.set a ⟨.fault, none, 0⟩ ∧ (clampFaulting a s).gear = s.gear :=
  have frame := pendantClampFault_within a { s with
    clamps := s.clamps.set a ⟨.fault, none, 0⟩
    bank := { s.bank with queue := s.bank.queue.erase (.clamp a) }
    flags := { s.flags with raised := s.flags.raised ||| Flag.clampFault.bit } }
  ⟨frame.same_bank, frame.same_clamps, frame.same_gear⟩

/-- R79, every field. -/
theorem clampFaulting_eq (a : ClampAxis) (s : State) : clampFaulting a s = { s with
    clamps := s.clamps.set a ⟨.fault, none, 0⟩
    bank := { s.bank with queue := s.bank.queue.erase (.clamp a) }
    flags := { s.flags with raised := s.flags.raised ||| Flag.clampFault.bit |||
      (if s.pendant.grant = .granted a.axis then Flag.pendantReleased.bit else 0) }
    pendant := if s.pendant.grant = .granted a.axis then
        { s.pendant with grant := .free, distance := 0, commandMark := false }
      else if s.pendant.grant = .waiting a.axis then { s.pendant with grant := .free } else s.pendant
    axes := if s.pendant.grant = .granted a.axis then
      s.axes.set a.axis { s.axes.get a.axis with frozen := none } else s.axes } := by
  unfold clampFaulting pendantClampFault
  by_cases hg : s.pendant.grant = .granted a.axis
  · rw [if_pos hg, if_pos hg, if_pos hg, if_pos hg]
    exact endGrant_of_granted hg
  · rw [if_neg hg, if_neg hg, if_neg hg, if_neg hg, show ∀ x : BitVec 35, x ||| 0 = x from fun _ => BitVec.or_zero]
    split <;> rfl

/-- R79 without a wait or a grant on the axis. -/
theorem clampFaulting_of_idle (hw : s.pendant.grant ≠ .waiting a.axis) (hg : s.pendant.grant ≠ .granted a.axis) :
    clampFaulting a s = { s with
      clamps := s.clamps.set a ⟨.fault, none, 0⟩
      bank := { s.bank with queue := s.bank.queue.erase (.clamp a) }
      flags := { s.flags with raised := s.flags.raised ||| Flag.clampFault.bit } } :=
  pendantClampFault_of_idle hw hg

theorem isRaised_clampFaulting (f : Flag) (a : ClampAxis) (s : State) :
    isRaised f (clampFaulting a s) = true ↔ isRaised f s = true ∨ f = .clampFault ∨
      (s.pendant.grant = .granted a.axis ∧ f = .pendantReleased) := by
  unfold isRaised
  rw [clampFaulting_eq]
  simp only [BitVec.getLsbD_or, Bool.or_eq_true, or_assoc]
  refine or_congr Iff.rfl (or_congr ?_ ?_)
  · cases f <;> decide
  · by_cases hg : s.pendant.grant = .granted a.axis
    · simp only [hg, if_true, true_and]
      cases f <;> decide
    · simp [hg]

end

/-! ## The gearbox's entry into FAULT (R102) -/

/-- R102 before the release. -/
def gearFaulting (s : State) : State :=
  { s with
    gear := { s.gear with state := .fault, output := 0, next := none, target := none, engaged := none,
                          drainCeiling := none, shiftCeiling := none, wiggle := none }
    flags := { s.flags with raised := s.flags.raised ||| Flag.gearFault.bit } }

theorem gearToFault_eq_release (s : State) : gearToFault s = release .gearbox (gearFaulting s) := rfl

/-! ## The pressure watch (R67, R68) -/

/-- Whether an expiry's sample speaks for LOW. -/
def speaksLow (bs : List Byte) (s : State) : Bool :=
  (readingOf s.inputs.readings.an0).2 || decide (s.inputs.hydraulic.getD 0 < pressureThreshold bs)

section
variable {bs : List Byte}

theorem pressureWork_eq (hb : activeBytes s .clamp = some bs) : pressureWork s =
    if (!speaksLow bs s) = s.bank.pressureOk then { s with bank := { s.bank with disagree := 0 } }
    else if s.bank.disagree + 1 < pressureFilter bs then
      { s with bank := { s.bank with disagree := s.bank.disagree + 1 } }
    else if speaksLow bs s then
      abortTransit (raise .pressureLow { s with bank := { s.bank with disagree := 0, pressureOk := false } })
    else tryGrant { s with bank := { s.bank with disagree := 0, pressureOk := true } } := by
  have ok : (!(readingOf s.inputs.readings.an0).2 && decide (pressureThreshold bs ≤ s.inputs.hydraulic.getD 0)) =
      !speaksLow bs s := by
    simp only [speaksLow, Bool.not_or, ← decide_not, not_lt]
  unfold pressureWork
  rw [hb]
  dsimp only
  rw [ok]
  cases speaksLow bs s <;> rfl

/-- R68 in the state in which the loss has just been noted. -/
theorem abortTransit_of_clamp {a : ClampAxis} (h : s.bank.holder = some (.clamp a)) (hp : s.bank.pressureOk = false) :
    abortTransit s = { clampFaulting a s with bank := { (clampFaulting a s).bank with holder := none } } := by
  unfold abortTransit
  rw [h]
  have bank := (clampFaulting_bank a s).1
  exact release_of_low (s := clampFaulting a s) (by rw [bank]; exact h) (by rw [bank]; exact hp)

theorem abortTransit_of_gearbox (h : s.bank.holder = some .gearbox) (hp : s.bank.pressureOk = false) :
    abortTransit s = { gearFaulting s with bank := { s.bank with holder := none } } := by
  unfold abortTransit
  rw [h]
  exact release_of_low (s := gearFaulting s) h hp

theorem abortTransit_of_none (h : s.bank.holder = none) : abortTransit s = s := by
  unfold abortTransit
  rw [h]

end

end

/-- Settles O37, the abort by the holder. -/
theorem pressureLossAbortsTransit : Obligations.PressureLossAbortsTransit := by
  intro bs s low hb hlow
  have speaks : speaksLow bs s = low := hlow.symm
  have work := pressureWork_eq hb
  rw [speaks] at work
  refine ⟨fun h => ?_, fun h few => ?_, ?_, ?_⟩
  · rw [work, if_pos h.symm]
  · rw [work, if_neg (by rw [h]; cases low <;> decide), if_pos few]
  · rintro h rfl full
    rw [if_neg (by rw [h]; decide), if_neg (by omega), if_pos rfl] at work
    rw [work]
    obtain ⟨u, hu⟩ : ∃ u, u = raise .pressureLow { s with bank := { s.bank with disagree := 0, pressureOk := false } } :=
      ⟨_, rfl⟩
    have raised : isRaised .pressureLow u = true := hu ▸ isRaised_raise_self _ _
    have bank : u.bank = { s.bank with disagree := 0, pressureOk := false } := hu ▸ rfl
    rw [← hu]
    have low : u.bank.pressureOk = false := by rw [bank]
    have holder : u.bank.holder = s.bank.holder := by rw [bank]
    cases hh : s.bank.holder with
    | none =>
      rw [abortTransit_of_none (holder.trans hh)]
      refine ⟨low, by rw [bank], holder.trans hh, raised, nofun, nofun, fun _ => ?_⟩
      rw [hu]
      exact ⟨rfl, rfl, rfl⟩
    | some c =>
      cases c with
      | clamp a =>
        rw [abortTransit_of_clamp (holder.trans hh) low]
        obtain ⟨faultBank, clamps, gear⟩ := clampFaulting_bank a u
        have flags (f : Flag) : isRaised f { clampFaulting a u with
            bank := { (clampFaulting a u).bank with holder := none } } = isRaised f (clampFaulting a u) := rfl
        rw [flags, flags]
        refine ⟨by rw [faultBank]; exact low, by rw [faultBank, bank], rfl,
          (isRaised_clampFaulting _ a u).2 (.inl raised), fun q hq => ?_, nofun, nofun⟩
        obtain rfl : a = q := by simpa using hq
        refine ⟨?_, ?_, ?_, (isRaised_clampFaulting _ a u).2 (.inr (.inl rfl))⟩
        · rw [faultBank, bank]
        · exact clamps.trans (by rw [hu]; rfl)
        · exact gear.trans (by rw [hu]; rfl)
      | gearbox =>
        rw [abortTransit_of_gearbox (holder.trans hh) low, bank]
        have flags (f : Flag) (x : Bank) : isRaised f { gearFaulting u with bank := x } = isRaised f (raise .gearFault u) :=
          rfl
        rw [flags, flags]
        refine ⟨rfl, rfl, rfl, isRaised_raise _ raised, nofun, fun _ => ⟨rfl, ?_, ?_, isRaised_raise_self _ _⟩, nofun⟩
        · rw [hu]; rfl
        · rw [hu]; rfl
  · rintro h rfl full
    rw [if_neg (by rw [h]; decide), if_neg (by omega), if_neg (by decide)] at work
    rw [work]
    refine ⟨tryGrant_pressureOk _, ?_, (tryGrant_bankOnly _).flags, fun idle => ?_, fun c rest hh hq hoff hhalt => ?_⟩
    · rcases tryGrant_cases { s with bank := { s.bank with disagree := 0, pressureOk := true } } with
        ⟨-, e⟩ | ⟨c, rest, -, -, e⟩ <;> rw [e]
      rw [beginTransit_bank]
    · have same : tryGrant { s with bank := { s.bank with disagree := 0, pressureOk := true } } =
          { s with bank := { s.bank with disagree := 0, pressureOk := true } } := by
        rcases idle with held | empty
        · obtain ⟨c, hc⟩ := Option.ne_none_iff_exists'.1 held
          exact tryGrant_of_holder (s := { s with bank := { s.bank with disagree := 0, pressureOk := true } }) hc
        · exact tryGrant_of_nil (s := { s with bank := { s.bank with disagree := 0, pressureOk := true } }) empty
      rw [same]
      exact ⟨rfl, rfl, rfl⟩
    · have ready : grantReady { s with bank := { s.bank with disagree := 0, pressureOk := true } } = true := by
        refine grantReady_iff.2 ⟨hh, rfl, ?_⟩
        show s.link.state.atRest = false
        cases hl : s.link.state <;> simp_all [LinkState.atRest]
      rw [tryGrant_of_head ready hq, beginTransit_bank]
      exact ⟨rfl, rfl⟩

end Sys2Proof.Machine

/-! # The valve bank: grants, ceilings, and a clamp's ordinary path -/

namespace Sys2Proof.Machine

-- Many short proofs that wait for the same case splitters: one after the other they need less memory.
set_option Elab.async false

section
variable {s : State} {a : ClampAxis}

/-! ## The grant as a command of its own (R65) -/

theorem not_atRest (hoff : s.link.state ≠ .offline) (hhalt : s.link.state ≠ .halted) : s.link.state.atRest = false := by
  cases hl : s.link.state <;> simp_all [LinkState.atRest]

theorem shiftingOutput_eq {bs : List Byte} {r : Range} (hb : activeBytes s .gear = some bs)
    (ht : s.gear.target = some r) :
    shiftingOutput s = if s.link.state = .running then wiggleOutput bs r s.gear.phasePositive else 0 := by
  unfold shiftingOutput
  rw [hb, ht]

/-- A shift as it begins, before its output is formed. -/
def shiftBegun (bs : List Byte) (r : Range) (s : State) : State :=
  { s with gear := { s.gear with
    state := .shifting, settle := 0, shiftCeiling := some (shiftCeilingMs bs r), wiggle := some (wiggleHalfMs bs r),
    phasePositive := true } }

theorem beginShift_of_valveWait {bs : List Byte} {r : Range} (hs : s.gear.state = .valveWait)
    (hb : activeBytes s .gear = some bs) (ht : s.gear.target = some r) :
    beginShift s = { s with gear := { s.gear with
      state := .shifting, settle := 0, shiftCeiling := some (shiftCeilingMs bs r), wiggle := some (wiggleHalfMs bs r),
      phasePositive := true, output := if s.link.state = .running then (wiggleSpeed bs r : Int) else 0 } } := by
  unfold beginShift
  rw [hs, hb, ht]
  show { shiftBegun bs r s with gear := { (shiftBegun bs r s).gear with output := shiftingOutput (shiftBegun bs r s) } } = _
  rw [shiftingOutput_eq (s := shiftBegun bs r s) hb ht]
  rfl

/-! ## The clamps' ceilings (R73, R76, R78) -/

theorem clampCeilingEnds_of_bounded {bounded : ClampState} {n : Nat} (hs : (s.clamps.get a).state = bounded)
    (hc : (s.clamps.get a).ceiling = some n) : clampCeilingEnds bounded a s = clampToFault a s :=
  if_pos ⟨hs, by rw [hc]; rfl⟩

/-- A faulted clamp that held the bank, with nothing else queued and nobody at its axis. -/
theorem clampToFault_of_holder (hw : s.pendant.grant ≠ .waiting a.axis) (hg : s.pendant.grant ≠ .granted a.axis)
    (hh : s.bank.holder = some (.clamp a)) (hq : s.bank.queue = []) : clampToFault a s = { s with
      clamps := s.clamps.set a ⟨.fault, none, 0⟩, bank := { s.bank with holder := none }
      flags := { s.flags with raised := s.flags.raised ||| Flag.clampFault.bit } } := by
  have kept : s.bank.queue.erase (.clamp a) = s.bank.queue := by rw [hq]; rfl
  rw [clampToFault_eq_release, clampFaulting_of_idle hw hg, kept]
  exact release_of_last (s := { s with
    clamps := s.clamps.set a ⟨.fault, none, 0⟩
    flags := { s.flags with raised := s.flags.raised ||| Flag.clampFault.bit } }) hh hq

/-- A faulted clamp that did not hold the bank. -/
theorem clampToFault_of_other (hh : s.bank.holder ≠ some (.clamp a)) : clampToFault a s = clampFaulting a s := by
  rw [clampToFault_eq_release]
  refine release_of_other ?_
  rw [(clampFaulting_bank a s).1]
  exact hh

/-! ## The ordinary path (R70 to R76) -/

section
variable {wanted : Bool} {d : Claimant}

theorem clampInForceWork_of_clamped (hs : (s.clamps.get a).state = .clamped)
    (hr : s.seen.reading.get a = .clampedConfirm) : clampInForceWork wanted a s =
      if wanted then claim (.clamp a) (setClamp a .unclampWait none s) else s := by
  simp [clampInForceWork, hs, hr]

theorem clampInForceWork_of_unclampWait (hs : (s.clamps.get a).state = .unclampWait) :
    clampInForceWork wanted a s =
      if wanted then s else setClamp a .clamped none (withdraw (.clamp a) s) := by
  simp [clampInForceWork, hs]

theorem clampInForceWork_of_unclamped (hs : (s.clamps.get a).state = .unclamped)
    (hr : s.seen.reading.get a = .unclampedConfirm) : clampInForceWork wanted a s =
      if wanted = true ∨ s.seen.step.get a.axis ≠ 0 then setSettle a 0 s
      else if (s.clamps.get a).settle + 1 < stillFrames s a.axis then setSettle a ((s.clamps.get a).settle + 1) s
      else claim (.clamp a) (setClamp a (.clampWait false) none s) := by
  have still : (wanted = true ∨ s.seen.step.get a.axis ≠ 0) ↔ ¬((!wanted) = true ∧ s.seen.step.get a.axis = 0) := by
    rw [not_and_or, Bool.not_eq_true', Bool.not_eq_false]
  have few : (s.clamps.get a).settle + 1 < stillFrames s a.axis ↔
    ¬stillFrames s a.axis ≤ (s.clamps.get a).settle + 1 := not_le.symm
  unfold clampInForceWork
  rw [hs, hr]
  simp only [still, few, ite_not]
  rfl

theorem clampInForceWork_of_reclaiming (hs : (s.clamps.get a).state = .clampWait false)
    (hr : s.seen.reading.get a = .unclampedConfirm) : clampInForceWork wanted a s =
      if wanted then setClamp a .unclamped none (withdraw (.clamp a) s) else s := by
  simp [clampInForceWork, hs, hr]

/-- R71, R74: a confirm that is lost. -/
theorem clampInForceWork_of_lost
    (h : ((s.clamps.get a).state = .clamped ∧ s.seen.reading.get a ≠ .clampedConfirm) ∨
      (((s.clamps.get a).state = .unclamped ∨ (s.clamps.get a).state = .clampWait false) ∧
        s.seen.reading.get a ≠ .unclampedConfirm)) : clampInForceWork wanted a s = clampToFault a s := by
  rcases h with ⟨hs, hr⟩ | ⟨hs | hs, hr⟩ <;> simp [clampInForceWork, hs, hr]

theorem clampInForceWork_of_transit {start done : ClampState} {want : SwitchReading}
    (h : (start, want, done) = (.unclamping, .unclampedConfirm, .unclamped) ∨
      (start, want, done) = (.clamping, .clampedConfirm, .clamped)) (hs : (s.clamps.get a).state = start) :
    clampInForceWork wanted a s = transitWork a want done s := by
  rcases h with h | h <;> cases h <;> simp [clampInForceWork, hs]

/-- R73, R76 on a bank that the clamp alone has. -/
theorem transitWork_of_holder {want : SwitchReading} {done : ClampState} {bs : List Byte}
    (hb : activeBytes s .clamp = some bs) (hh : s.bank.holder = some (.clamp a)) (hq : s.bank.queue = []) :
    transitWork a want done s =
      if s.seen.reading.get a ≠ want then setSettle a 0 s
      else if (s.clamps.get a).settle + 1 < confirmSettle bs a then setSettle a ((s.clamps.get a).settle + 1) s
      else { s with
        clamps := s.clamps.set a ⟨done, none, 0⟩, bank := { s.bank with holder := none }
        flags := { s.flags with raised := s.flags.raised ||| Flag.clampDone.bit } } := by
  have few : (s.clamps.get a).settle + 1 < confirmSettle bs a ↔
    ¬confirmSettleOf s a ≤ (s.clamps.get a).settle + 1 := by rw [confirmSettleOf, hb]; exact not_le.symm
  have ended : release (.clamp a) (raise .clampDone (setClamp a done none s)) = { s with
        clamps := s.clamps.set a ⟨done, none, 0⟩, bank := { s.bank with holder := none }
        flags := { s.flags with raised := s.flags.raised ||| Flag.clampDone.bit } } :=
    release_of_last (s := raise .clampDone (setClamp a done none s)) hh hq
  unfold transitWork
  simp only [few, ite_not, ne_eq, ended]

end

/-! ## The want (R70) -/

theorem wantedUnclamped_iff {held : Option CycleFrame} : wantedUnclamped held a s = true ↔ s.link.state = .running ∧
    ((∃ f, held = some f ∧ (f.axes.get a.axis).unclamp = true) ∨
     (s.seen.grant = .waiting a.axis ∧ s.seen.permitMark = true) ∨ s.seen.grant = .granted a.axis) := by
  unfold wantedUnclamped
  cases held <;> simp [or_assoc]

theorem clampWork_of_inForce {held : Option CycleFrame} (h : clampInForce s a = true) :
    clampWork held a s = clampInForceWork (wantedUnclamped held a s) a s := if_pos h

theorem clampWork_of_absent {held : Option CycleFrame} (h : clampAbsent s a = true) : clampWork held a s = s := by
  have out : clampInForce s a = false := by
    unfold clampAbsent at h
    unfold clampInForce
    cases hb : activeBytes s .clamp with
    | none => rfl
    | some bs => rw [hb] at h; simpa using h
  unfold clampWork
  rw [if_neg (by rw [out]; decide), if_pos h]

end

/-- Settles O39. -/
theorem grantStartsTransit : Obligations.GrantStartsTransit := by
  intro rest s h hh hp hoff hhalt
  have ready : grantReady s = true := grantReady_iff.2 ⟨hh, hp, not_atRest hoff hhalt⟩
  refine ⟨fun a hq hs => ?_, fun a recovery hq hs => ?_, fun bs r hq hs hb ht => ?_⟩
  · exact settled_eq ((tryGrant_of_head ready hq).trans (beginClampTransit_of_unclampWait hs)) (h.of_same rfl rfl)
  · exact settled_eq ((tryGrant_of_head ready hq).trans (beginClampTransit_of_clampWait hs)) (h.of_same rfl rfl)
  · exact settled_eq ((tryGrant_of_head ready hq).trans (beginShift_of_valveWait hs hb ht))
      (h.of_not_engaged rfl (by rw [hs]; nofun) nofun)

/-- Settles O40, state by state. -/
theorem clampCeilingsEndInFault : Obligations.ClampCeilingsEndInFault := by
  refine ⟨fun a n s h hc hw hg => ⟨fun hs hh hq => ?_, fun hs hh hq => ?_, fun hs hh => ?_⟩,
    fun a wanted other s hh hne => ⟨fun hs hr hq => ?_, fun hs => ?_, fun hs hr hq => ?_, fun hs hr => ?_, fun lost => ?_⟩,
    fun a wanted bs start done want s hb hh hq hk hs => ?_,
    fun held a s => ⟨clampWork_of_inForce, clampWork_of_absent, wantedUnclamped_iff⟩⟩
  · exact settled_eq ((clampCeilingEnds_of_bounded hs hc).trans (clampToFault_of_holder hw hg hh hq)) (h.of_same rfl rfl)
  · exact settled_eq ((clampCeilingEnds_of_bounded hs hc).trans (clampToFault_of_holder hw hg hh hq)) (h.of_same rfl rfl)
  · exact settled_eq ((clampCeilingEnds_of_bounded hs hc).trans ((clampToFault_of_other hh).trans
      (clampFaulting_of_idle hw hg))) (h.of_same rfl rfl)
  · rw [clampInForceWork_of_clamped hs hr]
    rw [claim_of_held (s := setClamp a .unclampWait none s) hh hne hq]
    rfl
  · rw [clampInForceWork_of_unclampWait hs]
    rfl
  · rw [clampInForceWork_of_unclamped hs hr]
    rw [claim_of_held (s := setClamp a (.clampWait false) none s) hh hne hq]
    rfl
  · rw [clampInForceWork_of_reclaiming hs hr]
    rfl
  · rw [clampInForceWork_of_lost lost,
      clampToFault_of_other (by rw [hh]; exact fun k => hne (Option.some.inj k)), clampFaulting_eq]
  · rw [clampInForceWork_of_transit hk hs, transitWork_of_holder hb hh hq]
    rfl

end Sys2Proof.Machine

/-! # The coolant sequencer: programs, triggers and their order, timers, travel and tank -/

namespace Sys2Proof.Machine

-- Many short proofs that wait for the same case splitters: one after the other they need less memory.
set_option Elab.async false

section
variable {s : State}

/-! ## Programs (R113 to R116) -/

/-- The first step of a program has been entered, up to its pause. -/
def pausedAt (bs : List Byte) (p : Fin 8) (i : Nat) (s : State) : State :=
  { s with coolant := { s.coolant with
    requested := patterned bs p i s.coolant.requested
    running := some ⟨p, i, .pause (stepPause bs p i)⟩ } }

theorem stepEntry_of_pause {bs : List Byte} {p i : Nat} (hw : stepWait bs p i = .none) (hp : stepPause bs p i ≠ 0) :
    stepEntry s bs p i = (patterned bs p i s.coolant.requested, some (.pause (stepPause bs p i))) := by
  simp [stepEntry, hw, hp, waitHolds]

theorem advance_of_pause {bs : List Byte} {p : Fin 8} {i : Nat} (n : Nat) (hb : activeBytes s .programs = some bs)
    (hi : i ≤ programSteps s p) (hw : stepWait bs p i = .none) (hp : stepPause bs p i ≠ 0) :
    advance (n + 1) p i s = pausedAt bs p i s := by
  unfold advance
  rw [hb]
  dsimp only
  rw [if_pos hi, stepEntry_of_pause hw hp]
  rfl

/-- R116: behind its last step a program ends, here with none queued. -/
theorem advance_of_end {p : Fin 8} {i : Nat} (n : Nat) (hb : present s .programs = true) (hi : programSteps s p < i)
    (hq : s.coolant.queue = []) :
    advance (n + 1) p i s = raise .coolantDone { s with coolant := { s.coolant with running := none } } := by
  obtain ⟨bs, hb⟩ := (present_eq_true_iff s .programs).1 hb
  unfold advance
  rw [hb]
  dsimp only
  rw [if_neg (not_le.2 hi), hq]
  rfl

theorem runFuel_succ (s : State) : ∃ n, runFuel s = n + 1 := Nat.exists_eq_add_of_le' (by unfold runFuel; omega)

theorem startProgram_of_pause {bs : List Byte} {p : Fin 8} (hb : activeBytes s .programs = some bs)
    (hi : programSteps s p ≠ 0) (hw : stepWait bs p 1 = .none) (hp : stepPause bs p 1 ≠ 0) :
    startProgram p s = pausedAt bs p 1 s := by
  obtain ⟨n, hn⟩ := runFuel_succ s
  unfold startProgram
  rw [hn]
  exact advance_of_pause n hb (by omega) hw hp

/-- The last step complete, and nothing queued. -/
theorem completeStep_of_last {r : Run} (hb : present s .programs = true) (hr : r.step = programSteps s r.program)
    (hq : s.coolant.queue = []) :
    completeStep r s = raise .coolantDone { s with coolant := { s.coolant with running := none } } := by
  obtain ⟨n, hn⟩ := runFuel_succ s
  unfold completeStep
  rw [hn]
  refine advance_of_end (s := { s with coolant := { s.coolant with running := none } }) n hb ?_ hq
  show programSteps s r.program < r.step + 1
  omega

/-- Where nothing withholds the pump, any requested values leave a settled state settled. -/
theorem SettledLaw.of_free (h : SettledLaw s) (hw : withholding s = false) (r : PerOutput Bool) (run : Option Run)
    (q : List (Fin 8)) :
    SettledLaw { s with coolant := { s.coolant with requested := r, running := run, queue := q } } := by
  refine ⟨h.1, ?_⟩
  have before : s.coolant.withheld = (s.coolant.requested.tscPump && withholding s) := h.2
  have after : demandNow { s with coolant := { s.coolant with requested := r, running := run, queue := q } } =
    (r.tscPump && withholding s) := rfl
  rw [after, hw, Bool.and_false]
  rw [hw, Bool.and_false] at before
  exact before

theorem startNext_of_none {p : Fin 8} {rest : List (Fin 8)} (hr : s.coolant.running = none)
    (hq : s.coolant.queue = p :: rest) :
    startNext s = startProgram p { s with coolant := { s.coolant with queue := rest } } := by
  unfold startNext
  rw [hr, hq]

theorem startNext_of_nil (hq : s.coolant.queue = []) : startNext s = s := by
  unfold startNext
  rw [hq]
  cases s.coolant.running <;> rfl

/-! ## Triggers (R118, R120) -/

section
variable {p : Fin 8} {r : Run}

theorem triggerOutcome_of_empty (h : programSteps s p = 0) : triggerOutcome p s = .empty := if_pos h

theorem triggerOutcome_of_none (h : programSteps s p ≠ 0) (hr : s.coolant.running = none) :
    triggerOutcome p s = .started := by
  unfold triggerOutcome
  rw [if_neg h, hr]

theorem triggerOutcome_of_running (h : programSteps s p ≠ 0) (hr : s.coolant.running = some r) :
    triggerOutcome p s = if r.program = p ∨ p ∈ s.coolant.queue then .merged
      else if 4 ≤ s.coolant.queue.length then .dropped else .queued := by
  unfold triggerOutcome
  rw [if_neg h, hr]

theorem triggerOutcome_of_merged (h : programSteps s p ≠ 0) (hr : s.coolant.running = some r)
    (hm : r.program = p ∨ p ∈ s.coolant.queue) : triggerOutcome p s = .merged := by
  rw [triggerOutcome_of_running h hr, if_pos hm]

theorem triggerOutcome_of_queued (h : programSteps s p ≠ 0) (hr : s.coolant.running = some r) (hne : r.program ≠ p)
    (hq : p ∉ s.coolant.queue) (hl : s.coolant.queue.length < 4) : triggerOutcome p s = .queued := by
  rw [triggerOutcome_of_running h hr, if_neg (not_or.2 ⟨hne, hq⟩), if_neg (by omega)]

theorem triggerOutcome_of_dropped (h : programSteps s p ≠ 0) (hr : s.coolant.running = some r) (hne : r.program ≠ p)
    (hq : p ∉ s.coolant.queue) (hl : 4 ≤ s.coolant.queue.length) : triggerOutcome p s = .dropped := by
  rw [triggerOutcome_of_running h hr, if_neg (not_or.2 ⟨hne, hq⟩), if_pos hl]

theorem triggerProgram_of_empty (h : triggerOutcome p s = .empty) : triggerProgram p s = s := by
  unfold triggerProgram
  rw [h]

theorem triggerProgram_of_started (h : triggerOutcome p s = .started) : triggerProgram p s = startProgram p s := by
  unfold triggerProgram
  rw [h]

theorem triggerProgram_of_merged (h : triggerOutcome p s = .merged) : triggerProgram p s = raise .triggerMerged s := by
  unfold triggerProgram
  rw [h]

theorem triggerProgram_of_dropped (h : triggerOutcome p s = .dropped) :
    triggerProgram p s = raise .triggerDropped s := by
  unfold triggerProgram
  rw [h]

theorem triggerProgram_of_queued (h : triggerOutcome p s = .queued) :
    triggerProgram p s = { s with coolant := { s.coolant with queue := s.coolant.queue ++ [p] } } := by
  unfold triggerProgram
  rw [h]

end

theorem triggerSource_of_idle {src : TriggerSource} (h : s.link.state = .offline ∨ s.link.state = .halted ∨
    s.store.active.triggers = none) : triggerSource src s = s := by
  unfold triggerSource
  split
  · rename_i works
    obtain ⟨hoff, hhalt⟩ := (coolantWorks_iff s).1 works
    rw [activeBytes_of_none (t := .triggers) ((h.resolve_left hoff).resolve_left hhalt)]
  · rfl

theorem triggerSource_of_works {src : TriggerSource} {tb : List Byte} (hb : activeBytes s .triggers = some tb)
    (hoff : s.link.state ≠ .offline) (hhalt : s.link.state ≠ .halted) :
    triggerSource src s = (triggerEntry tb src).elim s fun p => triggerProgram p s := by
  unfold triggerSource
  rw [if_pos ((coolantWorks_iff s).2 ⟨hoff, hhalt⟩), hb]
  dsimp only
  cases triggerEntry tb src <;> rfl

theorem triggerSource_of_entry {src : TriggerSource} {tb : List Byte} {p : Fin 8}
    (hb : activeBytes s .triggers = some tb) (hoff : s.link.state ≠ .offline) (hhalt : s.link.state ≠ .halted)
    (he : triggerEntry tb src = some p) : triggerSource src s = triggerProgram p s := by
  rw [triggerSource_of_works hb hoff hhalt, he]
  rfl

theorem triggerSource_of_no_entry {src : TriggerSource} {tb : List Byte} (hb : activeBytes s .triggers = some tb)
    (hoff : s.link.state ≠ .offline) (hhalt : s.link.state ≠ .halted) (he : triggerEntry tb src = none) :
    triggerSource src s = s := by
  rw [triggerSource_of_works hb hoff hhalt, he]
  rfl

/-! ## Announced sources in their turn (R118, R120) -/

/-- A state with the given sources still announced. -/
def withAnnounced (l : List TriggerSource) (s : State) : State :=
  { s with coolant := { s.coolant with announced := l } }

/-- One source taken, where what it leaves needs no judgement of withheld demand. -/
theorem drainTriggers_of_next {order : List TriggerSource} {n : Nat} {src : TriggerSource} {v : State}
    (hn : nextTrigger order s.coolant.announced = some src)
    (hv : triggerSource src (withAnnounced (s.coolant.announced.erase src) s) = v)
    (hw : v.coolant.withheld = demandNow v) : drainTriggers order (n + 1) s = drainTriggers order n v := by
  have taken : takeTrigger src s = v := by
    show settleDemand (triggerSource src (withAnnounced (s.coolant.announced.erase src) s)) = v
    rw [hv, settleDemand_eq_self hw]
  rw [← taken]
  show (match nextTrigger order s.coolant.announced with
    | some src => drainTriggers order n (takeTrigger src s)
    | none => s) = _
  rw [hn]

theorem drainTriggers_of_nil {order : List TriggerSource} {n : Nat} (h : s.coolant.announced = []) :
    drainTriggers order (n + 1) s = s := by
  show (match nextTrigger order s.coolant.announced with
    | some src => drainTriggers order n (takeTrigger src s)
    | none => s) = s
  rw [h, nextTrigger_nil]

theorem nextTrigger_single (order : List TriggerSource) (src : TriggerSource) : nextTrigger order [src] = some src := by
  unfold nextTrigger
  split
  · rename_i x hx
    obtain rfl : x = src := by simpa using List.find?_some hx
    split
    · rename_i hr
      simp [hr]
    · rfl
  · rfl

/-- A single announced source, by what taking it leaves. -/
theorem settleTriggers_single {order : List TriggerSource} {src : TriggerSource} {v : State}
    (ha : s.coolant.announced = [src]) (hw : s.coolant.withheld = demandNow s)
    (hv : triggerSource src (withAnnounced [] s) = v) (hs : SettledLaw v) : settleTriggers order s = v := by
  unfold settleTriggers
  simp only [settleDemand_eq_self hw, ha]
  refine (drainTriggers_of_next (src := src) (v := v) (by rw [ha]; exact nextTrigger_single _ _) ?_ hs.2).trans
    (drainTriggers_of_nil hs.1)
  rw [ha, List.erase_cons_head]
  exact hv

theorem settleTriggers_double {order : List TriggerSource} {one two : TriggerSource} {v w : State} {next other}
    (ha : s.coolant.announced = [one, two]) (hw : s.coolant.withheld = demandNow s)
    (hn : nextTrigger order [one, two] = some next) (ho : [one, two].erase next = [other])
    (hv : triggerSource next (withAnnounced [other] s) = v) (hva : v.coolant.announced = [other])
    (hvw : v.coolant.withheld = demandNow v)
    (hx : triggerSource other (withAnnounced [] v) = w) (hs : SettledLaw w) : settleTriggers order s = w := by
  unfold settleTriggers
  simp only [settleDemand_eq_self hw, ha]
  refine (drainTriggers_of_next (src := next) (v := v) (by rw [ha]; exact hn) ?_ hvw).trans
    ((drainTriggers_of_next (src := other) (v := w) (by rw [hva]; exact nextTrigger_single _ _) ?_ hs.2).trans
      (drainTriggers_of_nil hs.1))
  · rw [ha, ho]
    exact hv
  · rw [hva, List.erase_cons_head]
    exact hx

/-- Which of two sources the given order places first. -/
theorem find_of_two (order : List TriggerSource) (one two : TriggerSource) :
    order.find? (· ∈ [one, two]) = order.find? (fun x => x = one ∨ x = two) := by
  congr 1
  funext x
  simp

theorem nextTrigger_first {order : List TriggerSource} {one two : TriggerSource}
    (h : (isRequest one = true ∧ isRequest two = true) ∨ order.find? (fun x => x = one ∨ x = two) ≠ some two) :
    nextTrigger order [one, two] = some one := by
  unfold nextTrigger
  rw [find_of_two]
  cases hf : order.find? (fun x => decide (x = one ∨ x = two)) with
  | none => rfl
  | some x =>
    have which : x = one ∨ x = two := by simpa using List.find?_some hf
    dsimp only
    rcases h with ⟨ho, ht⟩ | h
    · rcases which with rfl | rfl
      · simp [ho]
      · simp [ho, ht]
    · have : x = one := which.resolve_right fun k => h (by rw [hf, k])
      subst this
      split
      · rename_i hr; simp [hr]
      · rfl

theorem nextTrigger_second {order : List TriggerSource} {one two : TriggerSource}
    (h : isRequest one = false ∨ isRequest two = false)
    (hf : order.find? (fun x => x = one ∨ x = two) = some two) : nextTrigger order [one, two] = some two := by
  unfold nextTrigger
  rw [find_of_two, hf]
  dsimp only
  split
  · rename_i hr
    have : isRequest one = false := h.resolve_right (by rw [hr]; decide)
    simp [this, hr]
  · rfl

end

end Sys2Proof.Machine

/-! # The coolant sequencer: its services, its triggers' outcomes, its events -/

namespace Sys2Proof.Machine

-- Many short proofs that wait for the same case splitters: one after the other they need less memory.
set_option Elab.async false

section
variable {s : State}

/-! ## The frame's coolant fields (R119) -/

theorem announceIf_eq (c : Bool) (src : TriggerSource) (s : State) : announceIf c src s =
    withAnnounced (s.coolant.announced ++ if c then [src] else []) s := by
  cases c
  · simp [announceIf, withAnnounced]
  · rfl

theorem requestsWork_eq (f : CycleFrame) (s : State) : requestsWork f s = { s with coolant := { s.coolant with
    baseline := f.coolant
    announced := s.coolant.announced ++
      (if f.coolant.req0 && !s.coolant.baseline.req0 then [.req0] else []) ++
      (if f.coolant.req1 && !s.coolant.baseline.req1 then [.req1] else []) ++
      (if f.coolant.req2 && !s.coolant.baseline.req2 then [.req2] else []) ++
      (if f.coolant.req3 && !s.coolant.baseline.req3 then [.req3] else []) } } := by
  unfold requestsWork
  simp only [announceIf_eq, withAnnounced]

theorem stopBitWork_eq (f : CycleFrame) (s : State) : stopBitWork f s =
    if f.coolant.stop = true ∧ s.coolant.baseline.stop = false ∧ s.link.state ≠ .offline ∧ s.link.state ≠ .halted then
      stopCoolant s else s := by
  unfold stopBitWork
  simp only [Bool.and_eq_true, Bool.not_eq_true', coolantWorks_iff, and_assoc]

/-! ## Settled ends -/

theorem withAnnounced_nil (h : s.coolant.announced = []) : withAnnounced [] s = s := by
  unfold withAnnounced
  rw [← h]

theorem SettledLaw.withQueue (h : SettledLaw s) (q : List (Fin 8)) :
    SettledLaw { s with coolant := { s.coolant with queue := q } } := ⟨h.1, h.2⟩

theorem SettledLaw.withRunning (h : SettledLaw s) (r : Option Run) :
    SettledLaw { s with coolant := { s.coolant with running := r } } := ⟨h.1, h.2⟩

/-! ## COOLANT_TRIGGER (R122) -/

section
variable {v : Byte} {p : Fin 8}

theorem programOf_of_le (h : 8 ≤ v.toNat) : programOf (byteAt [v] 0) = none := by
  have : ¬byteAt [v] 0 < 8 := not_lt.2 h
  simp [programOf, this]

theorem programOf_be8 (p : Fin 8) : programOf (byteAt (be8 p.val) 0) = some p := by
  revert p
  decide

theorem coolantTriggerService_of_program (hoff : s.link.state ≠ .offline) (hhalt : s.link.state ≠ .halted)
    (hb : present s .programs = true) : coolantTriggerService (be8 p.val) s =
      answer .coolantTrigger .ok (be8 (triggerOutcome p s).code) (triggerProgram p s) := by
  unfold coolantTriggerService
  rw [if_pos ((coolantWorks_iff s).2 ⟨hoff, hhalt⟩), if_pos hb, programOf_be8]

theorem coolantTriggerService_of_halted (h : s.link.state = .halted) (b : List Byte) :
    coolantTriggerService b s = refuse .coolantTrigger .wrongState s :=
  if_neg fun k => ((coolantWorks_iff s).1 k).2 h

theorem coolantTriggerService_of_absent (hoff : s.link.state ≠ .offline) (hhalt : s.link.state ≠ .halted)
    (h : present s .programs = false) (b : List Byte) :
    coolantTriggerService b s = refuse .coolantTrigger .tableAbsent s := by
  unfold coolantTriggerService
  rw [if_pos ((coolantWorks_iff s).2 ⟨hoff, hhalt⟩), if_neg (by rw [h]; decide)]

theorem coolantTriggerService_of_unknown (hoff : s.link.state ≠ .offline) (hhalt : s.link.state ≠ .halted)
    (hb : present s .programs = true) (hv : 8 ≤ v.toNat) :
    coolantTriggerService [v] s = refuse .coolantTrigger .badParam s := by
  unfold coolantTriggerService
  rw [if_pos ((coolantWorks_iff s).2 ⟨hoff, hhalt⟩), if_pos hb, programOf_of_le hv]

/-- A COOLANT_TRIGGER of program `p` as a command of its own, by its outcome and what it leaves. -/
theorem coolantTrigger_served {o : TriggerOutcome} {t : State} (hoff : s.link.state ≠ .offline)
    (hhalt : s.link.state ≠ .halted) (hb : present s .programs = true) (ho : triggerOutcome p s = o)
    (ht : triggerProgram p s = t) (hs : SettledLaw t) :
    exec (.coolantTrigger (be8 p.val)) s = .next (answer .coolantTrigger .ok (be8 o.code) t) := by
  have work : blockService .coolantTrigger (be8 p.val) [] s = answer .coolantTrigger .ok (be8 o.code) t := by
    rw [show blockService .coolantTrigger (be8 p.val) [] s = coolantTriggerService (be8 p.val) s from
      judged_of_ok rfl _ s, coolantTriggerService_of_program hoff hhalt hb, ho, ht]
  exact served_eq hoff work (hs.withSent _)

end

/-! ## The tank and the travel (R123, R125) -/

theorem startLube_eq {bs : List Byte} (hb : activeBytes s .triggers = some bs) (hoff : s.link.state ≠ .offline)
    (hhalt : s.link.state ≠ .halted) : startLube s = { s with coolant := { s.coolant with
      lube := if lubeInterval bs = 0 then .stopped else .running (lubeInterval bs) } } := by
  unfold startLube
  rw [hb, (coolantWorks_iff s).2 ⟨hoff, hhalt⟩]
  rfl

/-- The lube interval timer running with a full interval. -/
def relubed (n : Nat) (s : State) : State := { s with coolant := { s.coolant with lube := .running n } }

theorem travelWork_eq {bs : List Byte} (hb : activeBytes s .triggers = some bs) : travelWork s =
    if lubeDistance bs = 0 ∨ s.link.state.moving = false then s
    else if lubeDistance bs ≤ min (2 * lubeDistance bs) (s.coolant.travel + seenTravel s) then
      lubeDue { s with coolant := { s.coolant with
        travel := min (2 * lubeDistance bs) (s.coolant.travel + seenTravel s) - lubeDistance bs } }
    else { s with coolant := { s.coolant with
      travel := min (2 * lubeDistance bs) (s.coolant.travel + seenTravel s) } } := by
  unfold travelWork
  rw [hb]

theorem tankWork_eq {bs : List Byte} (hb : activeBytes s .triggers = some bs) {w : TankWarning}
    (hw : w = tankAfter bs (s.inputs.tankTemp.getD 0) (readingOf s.inputs.readings.an2).2 s.coolant.tank) :
    tankWork s = if w = .active ∧ s.coolant.tank ≠ .active then
        announce .tankWarn (raise .tankWarn { s with coolant := { s.coolant with tank := w } })
      else { s with coolant := { s.coolant with tank := w } } := by
  unfold tankWork
  rw [hb]
  dsimp only
  rw [← hw]
  simp only [Bool.and_eq_true, decide_eq_true_eq]

theorem tankAfter_eq (bs : List Byte) (temp : Int) (faulted : Bool) (w : TankWarning) : tankAfter bs temp faulted w =
    if faulted = true ∨ tankThreshold bs ≤ temp then .active
    else if temp ≤ tankThreshold bs - tankHysteresis bs then .inactive
    else if w = .active then .active else .inactive := by
  unfold tankAfter
  cases w <;> rfl

/-! ## A running wait (R114) -/

theorem coolantWaitWork_of_wait {p : Fin 8} {i n : Nat} {bs : List Byte} (hb : activeBytes s .programs = some bs)
    (hr : s.coolant.running = some ⟨p, i, .wait n⟩) :
    coolantWaitWork s = if waitHolds s (stepWait bs p i) then waitEnds ⟨p, i, .wait n⟩ s else s := by
  unfold coolantWaitWork
  rw [hr, hb]

theorem waitEnds_of_pause {bs : List Byte} {r : Run} (hb : activeBytes s .programs = some bs)
    (hp : stepPause bs r.program r.step ≠ 0) : waitEnds r s = { s with coolant := { s.coolant with
      running := some { r with phase := .pause (stepPause bs r.program r.step) } } } := by
  unfold waitEnds
  rw [hb]
  exact if_neg hp

theorem waitEnds_of_no_pause {bs : List Byte} {r : Run} (hb : activeBytes s .programs = some bs)
    (hp : stepPause bs r.program r.step = 0) : waitEnds r s = completeStep r s := by
  unfold waitEnds
  rw [hb]
  exact if_pos hp

theorem waitHolds_eq (s : State) (w : Wait) : waitHolds s w = match w with
    | .none => true
    | .atSpeed => s.seen.spindleAtSpeed
    | .stopped => s.seen.spindleStopped
    | .pressureLow => (match activeBytes s .gear with
      | some g => !s.seen.tsc.faulted && decide (s.seen.tsc.value < drainThreshold g)
      | none => false)
    | .pressureHigh => (match activeBytes s .triggers with
      | some g => s.seen.tsc.faulted || decide (buildThreshold g ≤ s.seen.tsc.value)
      | none => s.seen.tsc.faulted) := by
  cases w <;> rfl

end

/-- Settles O42, clause by clause from the rules above. -/
theorem coolantEventsAct : Obligations.CoolantEventsAct := by
  refine ⟨fun p i n bs s h => ⟨fun hq hr => ?_, fun hq hr hb hi => ?_, fun rest hw hr hq hb hi hn hp => ?_,
    fun hl hb hi hoff hhalt he => ?_⟩, fun p i n bs holds s hb hr hh => ?_, fun bs travel s hb ht => ?_,
    fun bs w s hb hw => ?_⟩
  · have work : waitCeilingEnds s = raise .coolantFault { s with coolant := { s.coolant with running := none } } := by
      unfold waitCeilingEnds
      rw [hr]
      exact startNext_of_nil (s := raise .coolantFault { s with coolant := { s.coolant with running := none } }) hq
    exact settled_eq work ((h.withRunning none).raise _)
  · have work : pauseEnds s = raise .coolantDone { s with coolant := { s.coolant with running := none } } := by
      unfold pauseEnds
      rw [hr]
      exact completeStep_of_last (r := ⟨p, i, .pause n⟩) hb hi hq
    exact settled_eq work ((h.withRunning none).raise _)
  · have started := startProgram_of_pause (s := { s with coolant := { s.coolant with queue := rest } }) hb
      (Nat.one_le_iff_ne_zero.1 hi) hn hp
    exact settled_eq ((startNext_of_none hr hq).trans started) (h.of_free hw _ _ _)
  · have due : lubeIntervalEnds s = announce .lubeDue (relubed (lubeInterval bs) s) := by
      unfold lubeIntervalEnds
      rw [hl]
      show announce .lubeDue (startLube s) = _
      rw [startLube_eq hb hoff hhalt, if_neg hi]
      rfl
    have free : withAnnounced [] (relubed (lubeInterval bs) s) = relubed (lubeInterval bs) s := withAnnounced_nil h.1
    have taken := settleTriggers_single (order := []) (s := announce .lubeDue (relubed (lubeInterval bs) s))
      (by show s.coolant.announced ++ _ = _; rw [h.1]; rfl) h.2
      (triggerSource_of_no_entry hb hoff hhalt he) ⟨rfl, h.2⟩
    show settled (lubeIntervalEnds s) = _
    rw [due]
    exact congrArg Host.Outcome.next (taken.trans free)
  · have test := coolantWaitWork_of_wait hb hr
    obtain rfl : holds = waitHolds s (stepWait bs p i) := hh.trans (waitHolds_eq s _).symm
    refine ⟨fun hf => ?_, fun hv hp => ?_, fun hv hp hi hq => ?_⟩
    · rw [test, hf]
      rfl
    · rw [test, if_pos hv]
      exact waitEnds_of_pause (r := ⟨p, i, .wait n⟩) hb hp
    · rw [test, if_pos hv, waitEnds_of_no_pause (r := ⟨p, i, .wait n⟩) hb hp]
      exact completeStep_of_last (r := ⟨p, i, .wait n⟩) (present_of_activeBytes hb) hi hq
  · have total : min (2 * lubeDistance bs) (s.coolant.travel + seenTravel s) = travel := by
      rw [ht]; simp only [seenTravel, Nat.add_assoc]
    have work := travelWork_eq hb
    rw [total] at work
    refine ⟨fun h => ?_, fun hd hm hlt => ?_, fun hd hm hle => ?_⟩
    · rw [work, if_pos h]
    · rw [work, if_neg (not_or.2 ⟨hd, by rw [hm]; decide⟩), if_neg (not_le.2 hlt)]
    · rw [work, if_neg (not_or.2 ⟨hd, by rw [hm]; decide⟩), if_pos hle]
      have hoff : s.link.state ≠ .offline := fun k => by rw [k] at hm; cases hm
      have hhalt : s.link.state ≠ .halted := fun k => by rw [k] at hm; cases hm
      exact congrArg (announce .lubeDue) (startLube_eq (s := { s with coolant := { s.coolant with
        travel := travel - lubeDistance bs } }) hb hoff hhalt)
  · rw [tankWork_eq hb (hw.trans (tankAfter_eq bs _ _ _).symm)]
    rfl

/-- Settles O57, clause by clause from the rules above. -/
theorem coolantServicesAct : Obligations.CoolantServicesAct := by
  refine ⟨fun s h hoff => ⟨?_, fun v hh => ?_, fun v hhalt hn => ?_, fun v hhalt hn hv => ?_, fun p bs hhalt hb => ?_⟩,
    fun f s => ⟨stopBitWork_eq f s, ?_⟩, ?_, ?_⟩
  · have work : blockService .coolantStop [] [] s = coolantStopService s := judged_of_ok rfl _ s
    refine served_eq hoff work ⟨h.1, ?_⟩
    exact (Bool.false_and _).symm
  · exact served_refuse h hoff ((judged_of_ok rfl _ s).trans (coolantTriggerService_of_halted hh [v]))
  · exact served_refuse h hoff ((judged_of_ok rfl _ s).trans
      (coolantTriggerService_of_absent hoff hhalt (Bool.eq_false_iff.2 (not_present_of_none (t := .programs) hn)) [v]))
  · obtain ⟨img, himg⟩ := Option.ne_none_iff_exists'.1 hn
    exact served_refuse h hoff ((judged_of_ok rfl _ s).trans
      (coolantTriggerService_of_unknown hoff hhalt (present_of_some (t := .programs) himg) hv))
  · have hp : present s .programs = true := present_of_activeBytes hb
    refine ⟨fun he => ?_, fun hi hr hq hw hn hpause => ?_, fun r hi hr => ⟨fun hm => ?_, fun hne hq hl => ?_,
      fun hne hq hl => ?_⟩⟩
    · have o := triggerOutcome_of_empty he
      exact coolantTrigger_served hoff hhalt hp o (triggerProgram_of_empty o) h
    · have o := triggerOutcome_of_none hi hr
      exact coolantTrigger_served hoff hhalt hp o ((triggerProgram_of_started o).trans
        (startProgram_of_pause hb hi hn hpause)) (h.of_free hw _ _ _)
    · have o := triggerOutcome_of_merged hi hr hm
      exact coolantTrigger_served hoff hhalt hp o (triggerProgram_of_merged o) (h.raise _)
    · have o := triggerOutcome_of_queued hi hr hne hq hl
      exact coolantTrigger_served hoff hhalt hp o (triggerProgram_of_queued o) (h.withQueue _)
    · have o := triggerOutcome_of_dropped hi hr hne hq hl
      exact coolantTrigger_served hoff hhalt hp o (triggerProgram_of_dropped o) (h.raise _)
  · rw [requestsWork_eq]
    simp only [Bool.and_eq_true, Bool.not_eq_true']
  · rintro order src s u ha hw rfl
    have free : SettledLaw (withAnnounced [] s) := ⟨rfl, hw⟩
    refine ⟨fun idle => settleTriggers_single ha hw (triggerSource_of_idle idle) free, fun tb ht hoff hhalt =>
      ⟨fun he => settleTriggers_single ha hw (triggerSource_of_no_entry ht hoff hhalt he) free,
       fun p he hi => ?_, fun p r he hi hr => ⟨fun hm => ?_, fun hne hq hl => ?_, fun hne hq hl => ?_⟩,
       fun p bs he hi hr hq hfree hb hn hpause => ?_⟩⟩
    all_goals
      refine settleTriggers_single ha hw ((triggerSource_of_entry (s := withAnnounced [] s) ht hoff hhalt he).trans ?_) ?_
    · exact triggerProgram_of_empty (s := withAnnounced [] s) (triggerOutcome_of_empty hi)
    · exact free
    · exact triggerProgram_of_merged (triggerOutcome_of_merged (s := withAnnounced [] s) hi hr hm)
    · exact free.raise _
    · exact triggerProgram_of_queued (triggerOutcome_of_queued (s := withAnnounced [] s) hi hr hne hq hl)
    · exact free.withQueue _
    · exact triggerProgram_of_dropped (triggerOutcome_of_dropped (s := withAnnounced [] s) hi hr hne hq hl)
    · exact free.raise _
    · exact (triggerProgram_of_started (triggerOutcome_of_none (s := withAnnounced [] s) hi hr)).trans
        (startProgram_of_pause (s := withAnnounced [] s) hb hi hn hpause)
    · exact free.of_free hfree _ _ _
  · intro order one two p q r tb s ha hw ht hoff hhalt hne h1 h2 hpq hp hq hr hrp hrq hqueue
    have first {src : TriggerSource} {p : Fin 8} (l : List TriggerSource) (he : triggerEntry tb src = some p)
        (hi : programSteps s p ≠ 0) (hn : r.program ≠ p) : triggerSource src (withAnnounced l s) =
          { withAnnounced l s with coolant := { (withAnnounced l s).coolant with queue := [p] } } := by
      rw [triggerSource_of_entry (s := withAnnounced l s) ht hoff hhalt he]
      refine (triggerProgram_of_queued (triggerOutcome_of_queued (s := withAnnounced l s) hi hr hn ?_ ?_)).trans ?_
      · show p ∉ s.coolant.queue
        rw [hqueue]; nofun
      · show s.coolant.queue.length < 4
        rw [hqueue]; decide
      · show { withAnnounced l s with coolant := { (withAnnounced l s).coolant with queue := s.coolant.queue ++ [p] } } = _
        rw [hqueue]
        rfl
    have second {src : TriggerSource} {p q : Fin 8} (l : List TriggerSource) (he : triggerEntry tb src = some q)
        (hi : programSteps s q ≠ 0) (hn : r.program ≠ q) (hpq : q ≠ p) : triggerSource src (withAnnounced []
          { withAnnounced l s with coolant := { (withAnnounced l s).coolant with queue := [p] } }) =
          { withAnnounced [] s with coolant := { (withAnnounced [] s).coolant with queue := [p, q] } } := by
      rw [triggerSource_of_entry (s := withAnnounced [] { withAnnounced l s with coolant :=
        { (withAnnounced l s).coolant with queue := [p] } }) ht hoff hhalt he]
      refine triggerProgram_of_queued (triggerOutcome_of_queued (s := withAnnounced [] { withAnnounced l s with coolant :=
        { (withAnnounced l s).coolant with queue := [p] } }) hi hr hn ?_ (show [p].length < 4 by simp))
      show q ∉ [p]
      simpa using hpq
    refine ⟨fun hfirst => ?_, fun hreq hsecond => ?_⟩
    · rw [settleTriggers_double ha hw (nextTrigger_first hfirst) (List.erase_cons_head _ _) (first [two] h1 hp hrp) rfl
        hw (second [two] h2 hq hrq hpq.symm) ⟨rfl, hw⟩]
    · have rest : [one, two].erase two = [one] := by
        rw [List.erase_cons_tail (by simpa using hne), List.erase_cons_head]
      rw [settleTriggers_double ha hw (nextTrigger_second hreq hsecond) rest (first [one] h2 hq hrq) rfl
        hw (second [one] h1 hp hrp hpq) ⟨rfl, hw⟩]

end Sys2Proof.Machine

/-! # Flags only grow: raised flags stay raised through the blocks' work and the link controller's -/

namespace Sys2Proof.Machine

-- Many short proofs that wait for the same case splitters: one after the other they need less memory.
set_option Elab.async false

/-- Every flag raised in `s` is raised in `t`, and the mask stands (R172). STORE_FAULT, which the end of a write alone
raises (R167), is not raised anew. -/
structure FlagsGrow (s t : State) : Prop where
  mask : t.flags.mask = s.flags.mask
  raised : ∀ f, isRaised f s = true → isRaised f t = true
  stored : isRaised .storeFault t = true → isRaised .storeFault s = true

section
variable {s t u : State}

theorem FlagsGrow.refl (s : State) : FlagsGrow s s := ⟨rfl, fun _ => id, id⟩

theorem FlagsGrow.trans (h : FlagsGrow s t) (k : FlagsGrow t u) : FlagsGrow s u :=
  ⟨k.mask.trans h.mask, fun f hf => k.raised f (h.raised f hf), fun hf => h.stored (k.stored hf)⟩

theorem FlagsGrow.of_flags (h : t.flags = s.flags) : FlagsGrow s t :=
  ⟨by rw [h], fun _ hf => (isRaised_congr h).trans hf, fun hf => (isRaised_congr h).symm.trans hf⟩

theorem FlagsGrow.of_within {l : List Part} (h : Within l s t)
    (hd : Part.flags ∉ l := by exact of_decide_eq_true rfl) : FlagsGrow s t := .of_flags (h.same_flags hd)

/-- Work that grows the flags, after work that leaves them. -/
theorem FlagsGrow.after {l : List Part} (k : FlagsGrow t u) (h : Within l s t)
    (hd : Part.flags ∉ l := by exact of_decide_eq_true rfl) : FlagsGrow s u := (FlagsGrow.of_within h hd).trans k

theorem raise_grows (f : Flag) (s : State) (hf : f ≠ .storeFault := by decide) : FlagsGrow s (raise f s) :=
  ⟨rfl, fun _ => isRaised_raise f, fun h => by
    have other : f.bit.getLsbD Flag.storeFault.num = false := by
      cases f
      case storeFault => exact absurd rfl hf
      all_goals decide
    rw [getLsbD_raise, other, Bool.or_false] at h
    exact h⟩

theorem raiseIf_grows (c : Bool) (f : Flag) (s : State) (hf : f ≠ .storeFault := by decide) :
    FlagsGrow s (raiseIf c f s) := by
  cases c
  · exact .refl s
  · exact raise_grows f s hf

theorem foldl_grows {α : Type} {f : State → α → State} (h : ∀ s a, FlagsGrow s (f s a)) (as : List α) (s : State) :
    FlagsGrow s (as.foldl f s) :=
  foldl_keeps (P := FlagsGrow s) (fun t a ht => ht.trans (h t a)) as (.refl s)

end

section
variable {s : State}

/-! ## Axes, growth, pendant unit -/

theorem axisWork_grows (a : Axis) (s : State) : FlagsGrow s (axisWork a s) :=
  (((raiseIf_grows _ _ _).trans (raiseIf_grows _ _ _)).trans (raiseIf_grows _ _ _)).after (within_axes s _)

theorem axesWork_grows (s : State) : FlagsGrow s (axesWork s) :=
  foldl_grows (fun s a => axisWork_grows a s) allAxes s

theorem absorbAxis_grows (f : CycleFrame) (s : State) (a : Axis) : FlagsGrow s (absorbAxis f s a) := by
  unfold absorbAxis
  split
  · split
    · exact raise_grows _ s
    · exact .of_within (within_axes s _)
  · exact .refl s

theorem absorbWork_grows (f : CycleFrame) (s : State) : FlagsGrow s (absorbWork f s) :=
  foldl_grows (absorbAxis_grows f) allAxes s

theorem growthUpdate_grows (bs : List Byte) (m : Int) (s : State) : FlagsGrow s (growthUpdate bs m s) := by
  unfold growthUpdate
  split
  · exact ((raiseIf_grows _ _ _).trans (raise_grows _ _)).after (within_comp s _)
  · exact .refl s

theorem growthTrigger_grows (hard : Bool) (s : State) : FlagsGrow s (growthTrigger hard s) :=
  .of_within (growthTrigger_within hard s)

theorem windowEnd_grows (bs : List Byte) (s : State) : FlagsGrow s (windowEnd bs s) := by
  have trigger (c : Bool) (t : State) : FlagsGrow t (if c then growthTrigger false t else t) := by
    split
    · exact growthTrigger_grows false t
    · exact .refl t
  have due (d : Option Bool) (t : State) : FlagsGrow t (match d with
      | some hard => growthTrigger hard t
      | none => t) := by
    cases d with
    | some hard => exact growthTrigger_grows hard t
    | none => exact .refl t
  unfold windowEnd
  dsimp only
  split
  · exact (raise_grows _ _).after (discardWindow_within s)
  · exact (((due _ _).trans (trigger _ _)).trans (growthUpdate_grows _ _ _)).after (within_comp s _)

theorem windowWork_grows (s : State) : FlagsGrow s (windowWork s) := by
  unfold windowWork
  split
  · exact .refl s
  · split
    · exact .refl s
    · dsimp only
      split
      · exact (windowEnd_grows _ _).after (within_comp s _)
      · exact .of_within (within_comp s _)

theorem endGrant_grows (s : State) : FlagsGrow s (endGrant s) := by
  rcases endGrant_cases s with ⟨-, e⟩ | ⟨a, -, e⟩
  · exact e.symm ▸ .refl s
  · exact e.symm ▸ (raise_grows _ _).after (within_pendant_axes s _ _)

theorem pendantClampFault_grows (a : ClampAxis) (s : State) : FlagsGrow s (pendantClampFault a s) := by
  unfold pendantClampFault
  split
  · exact endGrant_grows s
  · split
    · exact .of_within (within_pendant s _)
    · exact .refl s

theorem selectorChange_grows (sel : Selector) (s : State) : FlagsGrow s (selectorChange sel s) :=
  (endGrant_grows s).trans (.of_flags (selectorChange_flags sel s))

theorem handSelector_grows (s : State) : FlagsGrow s (handSelector s) := by
  rcases handSelector_cases s with ⟨-, e⟩ | ⟨v, -, e⟩
  · exact e.symm ▸ .refl s
  · exact e.symm ▸ selectorChange_grows v s

theorem delivered_grows {work : State → State} (h : ∀ s, FlagsGrow s (work s)) (s : State) :
    FlagsGrow s (delivered work s) := by
  unfold delivered
  split
  · exact h s
  · exact .refl s

theorem pendantFirstWork_grows (s : State) : FlagsGrow s (pendantFirstWork s) := by
  unfold pendantFirstWork
  split
  · exact ((handSelector_grows _).after (within_pendant s _)).trans
      (.of_within ((handEnable_within _).comp (handPanel_within _)))
  · exact .refl s

theorem permitWithdrawn_grows (taken : Option CycleFrame) (s : State) : FlagsGrow s (permitWithdrawn taken s) := by
  unfold permitWithdrawn
  split
  · split
    · exact .refl s
    · exact endGrant_grows s
  · exact .refl s

theorem waitWork_grows (taken held : Option CycleFrame) (s : State) : FlagsGrow s (waitWork taken held s) := by
  unfold waitWork
  split
  · have updated (a : Axis) := (permitUpdate_within taken a s).comp (stillUpdate_within taken a _)
    dsimp only
    split
    · exact ((raise_grows _ _).after (within_pendant_axes _ _ _)).after (updated _)
    · exact .of_within (updated _)
  all_goals exact .refl s

theorem transfer_grows (s : State) : FlagsGrow s (transfer s) := by
  unfold transfer
  split
  · split
    · exact (raiseIf_grows _ _ _).after (within_pendant_axes s _ _)
    · exact .refl s
  all_goals exact .refl s

theorem handwheelWork_grows (taken held : Option CycleFrame) (s : State) :
    FlagsGrow s (handwheelWork taken held s) := by
  unfold handwheelWork
  split
  · exact ((permitWithdrawn_grows _ s).trans (waitWork_grows _ _ _)).trans (transfer_grows _)
  · split
    · exact .of_within (permitUpdate_within _ _ s)
    all_goals exact .refl s

theorem strayWork_grows (s : State) : FlagsGrow s (strayWork s) := by
  unfold strayWork
  split
  · split
    · exact (raise_grows _ _).after (within_pendant s _)
    · exact .refl s
  all_goals exact .refl s

theorem knobsWork_grows (s : State) : FlagsGrow s (knobsWork s) := (raiseIf_grows _ _ _).after (within_pendant s _)

/-! ## Coolant sequencer -/

theorem advance_grows (n : Nat) (p : Fin 8) (i : Nat) (s : State) : FlagsGrow s (advance n p i s) := by
  induction n generalizing p i s with
  | zero => exact .refl s
  | succ n ih =>
    unfold advance
    split
    · exact .refl s
    · split
      · dsimp only
        split
        · exact .of_within ((within_coolant s _).trans (within_coolant _ _))
        · exact (ih p (i + 1) _).after (within_coolant s _)
      · have ended := (raise_grows .coolantDone _).after (within_coolant s { s.coolant with running := none })
        dsimp only
        split
        · exact ended
        · exact ended.trans ((ih _ 1 _).after (within_coolant _ _))

theorem startProgram_grows (p : Fin 8) (s : State) : FlagsGrow s (startProgram p s) := advance_grows _ _ _ s

theorem startNext_grows (s : State) : FlagsGrow s (startNext s) := by
  unfold startNext
  split
  · exact (startProgram_grows _ _).after (within_coolant s _)
  · exact .refl s

theorem completeStep_grows (r : Run) (s : State) : FlagsGrow s (completeStep r s) :=
  (advance_grows _ _ _ _).after (within_coolant s _)

theorem coolantWaitWork_grows (s : State) : FlagsGrow s (coolantWaitWork s) := by
  unfold coolantWaitWork
  split
  · split
    · unfold waitEnds
      split
      · exact .refl s
      · split
        · exact completeStep_grows _ s
        · exact .of_within (within_coolant s _)
    · exact .refl s
  · exact .refl s

theorem pauseEnds_grows (s : State) : FlagsGrow s (pauseEnds s) := by
  unfold pauseEnds
  split
  · exact completeStep_grows _ s
  · exact .refl s

theorem waitCeilingEnds_grows (s : State) : FlagsGrow s (waitCeilingEnds s) := by
  unfold waitCeilingEnds
  split
  · exact ((raise_grows _ _).after (within_coolant s _)).trans (startNext_grows _)
  · exact .refl s

theorem tankWork_grows (s : State) : FlagsGrow s (tankWork s) := by
  unfold tankWork
  split
  · exact .refl s
  · dsimp only
    split
    · exact ((raise_grows _ _).after (within_coolant s _)).trans (.of_within (announce_within _ _))
    · exact .of_within (within_coolant s _)

theorem settleDemand_grows (s : State) : FlagsGrow s (settleDemand s) := by
  unfold settleDemand
  dsimp only
  split
  · exact ((raise_grows _ _).after (within_coolant s _)).trans (.of_within (announce_within _ _))
  · exact .of_within (within_coolant s _)

theorem triggerProgram_grows (p : Fin 8) (s : State) : FlagsGrow s (triggerProgram p s) := by
  cases h : triggerOutcome p s
  case started => exact triggerProgram_of_started h ▸ startProgram_grows p s
  case queued => exact triggerProgram_of_queued h ▸ .of_within (within_coolant s _)
  case merged => exact triggerProgram_of_merged h ▸ raise_grows _ s
  case dropped => exact triggerProgram_of_dropped h ▸ raise_grows _ s
  case empty => exact (triggerProgram_of_empty h).symm ▸ .refl s

theorem triggerSource_grows (src : TriggerSource) (s : State) : FlagsGrow s (triggerSource src s) := by
  unfold triggerSource
  split
  · split
    · split
      · exact triggerProgram_grows _ s
      · exact .refl s
    · exact .refl s
  · exact .refl s

theorem settleTriggers_grows (order : List TriggerSource) (s : State) : FlagsGrow s (settleTriggers order s) :=
  settleTriggers_keeps (P := FlagsGrow s) (fun h => h.trans (settleDemand_grows _))
    (fun src _ h => h.trans (triggerSource_grows src _)) (fun _ _ h => h.trans (.of_within (within_coolant _ _))) order
    (.refl s)

/-! ## Gearbox -/

theorem actOnRequest_grows (r : Range) (s : State) : FlagsGrow s (actOnRequest r s) := by
  unfold actOnRequest
  split
  · split
    · exact raise_grows _ s
    · exact .of_within (beginChange_within r s)
  · exact .of_within (beginChange_within r s)
  iterate 4 exact .of_within (within_gear s _)
  · exact raise_grows _ s

theorem rangeRequestWork_grows (f : CycleFrame) (s : State) : FlagsGrow s (rangeRequestWork f s) := by
  unfold rangeRequestWork
  dsimp only
  split
  · split
    · exact (actOnRequest_grows _ _).after (within_gear s _)
    · exact .of_within (within_gear s _)
  · exact .of_within (within_gear s _)

theorem forksChanged_grows (f : PerFork Bool) (s : State) : FlagsGrow s (forksChanged f s) := by
  have lost (t : State) : FlagsGrow t (raise .gearFault (enterUnknown
      { t with gear := { t.gear with forkLoss := true } })) :=
    (raise_grows _ _).after ((within_gear t _).comp (enterUnknown_within _))
  have dropped (t : State) : FlagsGrow t (raise .gearFault { t with gear := { t.gear with engaged := none } }) :=
    (raise_grows _ _).after (within_gear t _)
  have copied : FlagsGrow s { s with gear := { s.gear with forks := f } } := .of_within (within_gear s _)
  unfold forksChanged
  dsimp only
  split
  · split
    · exact copied.trans (lost _)
    · exact copied
  iterate 3
    split
    · exact copied.trans (dropped _)
    · exact copied
  · split
    · exact copied.trans (.of_within (within_gear _ _))
    · exact copied
  · exact copied
  · exact copied

theorem forkWork_grows (i : ForkSwitch) (s : State) : FlagsGrow s (forkWork i s) := by
  unfold forkWork
  split
  · split
    · split
      · exact .refl s
      · exact forksChanged_grows _ s
    · exact .refl s
  · exact .refl s

theorem spindleHeldWork_grows (taken : Option CycleFrame) (s : State) : FlagsGrow s (spindleHeldWork taken s) := by
  cases taken with
  | none => exact .refl s
  | some f => exact raiseIf_grows _ _ s

/-! ## Valve bank and clamps -/

theorem clampToFault_grows (a : ClampAxis) (s : State) : FlagsGrow s (clampToFault a s) :=
  ((((raise_grows _ _).after (setClamp_within a _ _ s)).trans (.of_within (withdraw_within _ _))).trans
    (pendantClampFault_grows a _)).trans (.of_within (release_within _ _))

theorem gearToFault_grows (s : State) : FlagsGrow s (gearToFault s) :=
  ((raise_grows _ _).after (within_gear s _)).trans (.of_within (release_within _ _))

theorem abortTransit_grows (s : State) : FlagsGrow s (abortTransit s) := by
  rcases abortTransit_cases s with ⟨-, e⟩ | ⟨a, -, e⟩ | ⟨-, e⟩
  · exact e.symm ▸ .refl s
  · exact e.symm ▸ clampToFault_grows a s
  · exact e.symm ▸ gearToFault_grows s

theorem pressureWork_grows (s : State) : FlagsGrow s (pressureWork s) := by
  have e := pressureWork_effect s
  generalize pressureWork s = t at e
  cases e
  case none => exact .refl s
  case count => exact .of_within (within_bank s _)
  case good => exact .of_within ((within_bank s _).comp (tryGrant_within _))
  case low => exact ((raise_grows _ _).after (within_bank s _)).trans (abortTransit_grows _)

theorem ClampEffect.grows {a : ClampAxis} {wanted : Bool} {t : State} (e : ClampEffect a wanted s t) :
    FlagsGrow s t := by
  cases e
  case none => exact .refl s
  case fault => exact clampToFault_grows a s
  case want | reclaim => exact .of_within ((setClamp_within _ _ _ s).comp (claim_within _ _))
  case unclamped | clamped =>
    exact ((raise_grows _ _).after (setClamp_within _ _ _ s)).trans (.of_within (release_within _ _))
  all_goals exact .of_flags rfl

theorem clampWork_grows (held : Option CycleFrame) (a : ClampAxis) (s : State) : FlagsGrow s (clampWork held a s) := by
  unfold clampWork
  split
  · rename_i h
    exact (clampInForceWork_effect _ a s h).grows
  · split
    · exact .refl s
    · split
      · exact clampToFault_grows a s
      · exact .refl s

theorem clampCeilingEnds_grows (bounded : ClampState) (a : ClampAxis) (s : State) :
    FlagsGrow s (clampCeilingEnds bounded a s) := by
  rcases clampCeilingEnds_cases bounded a s with ⟨-, -, e⟩ | ⟨-, e⟩
  · exact e.symm ▸ clampToFault_grows a s
  · exact e.symm ▸ .refl s

theorem shiftReleased_grows (differs : Bool) (s : State) : FlagsGrow s (shiftReleased differs s) :=
  .of_within (shiftReleased_within differs s)

theorem shiftCompleted_grows (r : Range) (s : State) : FlagsGrow s (shiftCompleted r s) :=
  ((raise_grows _ _).after (within_gear s _)).trans (.of_within (announce_within _ _))

theorem completeShift_grows (s : State) : FlagsGrow s (completeShift s) := by
  rcases completeShift_cases s with ⟨-, e⟩ | ⟨r, u, -, rfl, he⟩
  · exact e.symm ▸ .refl s
  · have released := ((shiftCompleted_grows r s).trans (settleTriggers_grows [] _)).trans
      (shiftReleased_grows (decide (s.gear.engaged ≠ some r)) _)
    rcases he with ⟨-, e⟩ | ⟨q, -, e⟩
    · exact e.symm ▸ released
    · exact e.symm ▸ released.trans (actOnRequest_grows q _)

theorem gearStageWork_grows (s : State) : FlagsGrow s (gearStageWork s) := by
  rcases gearStageWork_cases s with e | ⟨bs, r, -, -, -, -, e⟩ | ⟨bs, -, -, e⟩ | ⟨bs, n, -, -, e⟩ | ⟨bs, n, -, -, -, e⟩
  · exact e.symm ▸ .refl s
  · exact e.symm ▸ .of_within (enterEngaged_within r s)
  · exact e.symm ▸ .of_within (enterValveWait_within s)
  · exact e.symm ▸ .of_within (within_gear s _)
  · exact e.symm ▸ (completeShift_grows _).after (within_gear s _)

/-! ## Link controller -/

theorem enterRest_grows (st : LinkState) (s : State) : FlagsGrow s (enterRest st s) :=
  ((settleTriggers_grows [] s).trans ((endGrant_grows _).after (within_link _ _))).trans
    (.of_within (((((clearAxes_within _).comp (discardWindow_within _)).comp (dropClamps_within _)).comp
      (gearHalt_within _)).comp (coolantRest_within _)))

theorem enterHalted_grows (cause : HaltCause) (s : State) : FlagsGrow s (enterHalted cause s) :=
  (enterRest_grows .halted s).trans ((raise_grows _ _).after (within_link _ _))

theorem halt_grows (cause : HaltCause) (s : State) : FlagsGrow s (halt cause s) := by
  rcases halt_cases cause s with ⟨-, e⟩ | ⟨-, e⟩
  · exact e.symm ▸ enterHalted_grows cause s
  · exact e.symm ▸ .refl s

theorem enterOffline_grows (s : State) : FlagsGrow s (enterOffline s) :=
  (enterRest_grows .offline s).trans (.of_within (within_link _ _))

theorem leaveRunning_grows (st : LinkState) (s : State) : FlagsGrow s (leaveRunning st s) :=
  ((endGrant_grows _).after (within_link s _)).trans (.of_within (announce_within _ _))

theorem enterLinkLost_grows (s : State) : FlagsGrow s (enterLinkLost s) := by
  unfold enterLinkLost
  split
  · exact (leaveRunning_grows .linkLost s).trans (raise_grows _ _)
  · exact (raise_grows _ _).after (within_link s _)

theorem missTransition_grows (s : State) : FlagsGrow s (missTransition s) := by
  rcases missTransition_cases s with ⟨-, e⟩ | ⟨-, e⟩ | ⟨-, e⟩
  · exact e.symm ▸ enterOffline_grows s
  · exact e.symm ▸ enterLinkLost_grows s
  · exact e.symm ▸ .refl s

theorem slotWork_grows (taken : Option CycleFrame) (s : State) : FlagsGrow s (slotWork taken s) := by
  cases taken with
  | some f => exact .of_within (within_link s _)
  | none =>
    show FlagsGrow s (missWork s)
    rcases missWork_cases s with ⟨-, e⟩ | ⟨-, -, e⟩ | ⟨-, -, e⟩
    · exact e.symm ▸ .refl s
    · exact e.symm ▸ .of_within (within_link s _)
    · exact ((missTransition_grows _).after (within_link s _)).trans (.of_flags (congrArg State.flags e))

theorem chainWork_grows (s : State) : FlagsGrow s (chainWork s) := by
  rcases chainWork_cases s with ⟨n, e⟩ | ⟨-, -, e⟩
  · exact e.symm ▸ .of_within (within_link s _)
  · exact e.symm ▸ (halt_grows _ _).after (within_link s _)

theorem endWork_grows (order : List ClampAxis) (s : State) : FlagsGrow s (endWork order s) := by
  rcases endWork_cases order s with ⟨-, -, e⟩ | ⟨-, -, -, e⟩ | ⟨-, e⟩
  · exact e.symm ▸ (raise_grows _ _).after (enterStandby_within order s)
  · exact e.symm ▸ (enterOffline_grows s).trans (raise_grows _ _)
  · exact e.symm ▸ .refl s

theorem followingWork_grows (s : State) : FlagsGrow s (followingWork s) := by
  rcases followingWork_cases s with ⟨-, -, e⟩ | ⟨-, e⟩
  · exact e.symm ▸ enterHalted_grows _ s
  · exact e.symm ▸ .refl s

theorem linkWork_grows (taken : Option CycleFrame) (order : List ClampAxis) (s : State) :
    FlagsGrow s (linkWork taken order s) :=
  ((slotWork_grows taken s).trans (chainWork_grows _)).trans ((endWork_grows order _).trans (followingWork_grows _))

theorem linkService_grows (k : ServiceKind) (body : List Byte) (order : List ClampAxis) (s : State) :
    FlagsGrow s (linkService k body order s) := by
  obtain ⟨u, hw, hu⟩ := linkService_cases k body order s
  refine FlagsGrow.trans ?_ (.of_within hw)
  rcases hu with rfl | ⟨-, -, -, p, rfl⟩ | ⟨-, -, rfl⟩ | ⟨-, -, -, rfl⟩
  · exact .refl _
  · exact .of_within (enterActivating_within p s)
  · exact leaveRunning_grows .stopping s
  · exact .of_within ((within_link s _).comp (enterStandby_within order _))

/-- What the link controller's stage leaves of the flags raised before it. -/
theorem linkStage_grows (taken : Option CycleFrame) (r : Record) (order : List ClampAxis) (s : State) :
    FlagsGrow s (linkStage taken r order s) := by
  have judged (o : Option CycleFrame) (t : State) : FlagsGrow t (match o with
      | some f => if unknownRecord f then answerUnknown f.kind t else t
      | none => t) := by
    cases o with
    | none => exact .refl t
    | some f =>
      dsimp only
      split
      · exact .of_within (answerUnknown_within _ t)
      · exact .refl t
  have served (q : Record) (t : State) : FlagsGrow t (match q with
      | some (k, body) => linkService k body order t
      | none => t) := by
    cases q with
    | none => exact .refl t
    | some q => exact linkService_grows q.1 q.2 order t
  unfold linkStage
  exact ((((linkWork_grows taken order _).after (within_sent s _)).trans (judged taken _)).trans (served r _)).trans
    (settleTriggers_grows [] _)

/-! ## The tasks of an expiry -/

theorem onFrame_grows {work : CycleFrame → State → State} (h : ∀ f s, FlagsGrow s (work f s)) (f : Option CycleFrame)
    (s : State) : FlagsGrow s (onFrame f work s) := by
  cases f with
  | none => exact .refl s
  | some f => exact h f s

/-- Every task but a service keeps the raised flags. -/
theorem runTask_grows (c : Turn) (u : Task) (s : State) (h : u ≠ .service ∨ c.record = none) :
    FlagsGrow s (runTask c u s) := by
  cases u
  case fork i => exact forkWork_grows i s
  case pendantFirst => exact pendantFirstWork_grows s
  case selector => exact delivered_grows handSelector_grows s
  case pressure => exact pressureWork_grows s
  case clamp a => exact clampWork_grows _ a s
  case rangeRequest => exact onFrame_grows rangeRequestWork_grows _ s
  case gearStage => exact gearStageWork_grows s
  case spindleHeld => exact spindleHeldWork_grows _ s
  case window => exact windowWork_grows s
  case absorb =>
    unfold runTask
    dsimp only
    split
    · exact onFrame_grows absorbWork_grows _ s
    · exact .refl s
  case handwheel => exact handwheelWork_grows _ _ s
  case strayCommand => exact strayWork_grows s
  case axes => exact axesWork_grows s
  case coolantWait => exact coolantWaitWork_grows s
  case tank => exact tankWork_grows s
  case knobs => exact knobsWork_grows s
  case service =>
    unfold runTask
    rw [h.resolve_left (fun k => k rfl)]
    exact .refl s
  all_goals exact .of_within (runTask_within c _ s)

theorem taskTurn_grows (c : Turn) (s : State) (u : Task) (h : u ≠ .service ∨ c.record = none) :
    FlagsGrow s (taskTurn c s u) := (runTask_grows c u s h).trans (settleTriggers_grows _ _)

theorem runTasks_grows {c : Turn} (h : c.record = none) (order : List Task) (s : State) :
    FlagsGrow s (runTasks c order s) := foldl_grows (fun t u => taskTurn_grows c t u (.inr h)) _ s

end

end Sys2Proof.Machine

/-! # The gearbox: its timers, range requests, and a change that is abandoned -/

namespace Sys2Proof.Machine

-- Many short proofs that wait for the same case splitters: one after the other they need less memory.
set_option Elab.async false

section
variable {s : State} {bs : List Byte} {r : Range}

/-! ## The timers (R98, R100, R102) -/

theorem drainCeilingEnds_of_claim {n : Nat} {c : ClampAxis} (hs : s.gear.state = .draining)
    (hn : s.gear.drainCeiling = some n) (hq : .gearbox ∉ s.bank.queue) (hh : s.bank.holder = some (.clamp c)) :
    drainCeilingEnds s = { s with
      gear := { s.gear with state := .valveWait, drainCeiling := none }
      bank := { s.bank with queue := s.bank.queue ++ [.gearbox] } } := by
  unfold drainCeilingEnds
  rw [if_pos ⟨hs, by rw [hn]; rfl⟩]
  exact claim_of_held (s := { s with gear := { s.gear with state := .valveWait, drainCeiling := none } }) hh nofun hq

theorem shiftCeilingEnds_of_last {n : Nat} (hs : s.gear.state = .shifting) (hn : s.gear.shiftCeiling = some n)
    (hh : s.bank.holder = some .gearbox) (hq : s.bank.queue = []) : shiftCeilingEnds s =
      { gearFaulting s with bank := { s.bank with holder := none } } := by
  unfold shiftCeilingEnds
  rw [if_pos ⟨hs, by rw [hn]; rfl⟩, gearToFault_eq_release]
  exact release_of_last (s := gearFaulting s) hh hq

/-- The wiggle turned, before its output is formed. -/
def wiggleTurned (bs : List Byte) (r : Range) (s : State) : State :=
  { s with gear := { s.gear with phasePositive := !s.gear.phasePositive, wiggle := some (wiggleHalfMs bs r) } }

theorem wiggleEnds_of_running {n : Nat} (hs : s.gear.state = .shifting) (hn : s.gear.wiggle = some n)
    (hb : activeBytes s .gear = some bs) (ht : s.gear.target = some r) (hl : s.link.state = .running) :
    wiggleEnds s = { s with gear := { s.gear with
      phasePositive := !s.gear.phasePositive, wiggle := some (wiggleHalfMs bs r),
      output := if s.gear.phasePositive then -(wiggleSpeed bs r : Int) else (wiggleSpeed bs r : Int) } } := by
  have output : shiftingOutput (wiggleTurned bs r s) =
      if s.gear.phasePositive then -(wiggleSpeed bs r : Int) else (wiggleSpeed bs r : Int) := by
    rw [shiftingOutput_eq (s := wiggleTurned bs r s) hb ht, if_pos (show (wiggleTurned bs r s).link.state = .running from hl)]
    show wiggleOutput bs r (!s.gear.phasePositive) = _
    cases s.gear.phasePositive <;> rfl
  unfold wiggleEnds
  rw [hs, hn, hb, ht]
  show { wiggleTurned bs r s with gear := { (wiggleTurned bs r s).gear with
    output := shiftingOutput (wiggleTurned bs r s) } } = _
  rw [output]
  rfl

/-! ## Range requests (R94, R96) -/

/-- A frame's request noted. -/
def requestNoted (f : CycleFrame) (s : State) : State :=
  { s with gear := { s.gear with lastRequest := rangeOfNat f.range.toNat } }

section
variable {f : CycleFrame}

theorem rangeOfNat_of_none {n : Nat} (h : n = 0 ∨ 4 < n) : rangeOfNat n = none := by
  match n, h with
  | 0, _ => rfl
  | 1, h | 2, h | 3, h | 4, h => omega
  | n + 5, _ => rfl

theorem rangeRequestWork_of_none (h : rangeOfNat f.range.toNat = none) :
    rangeRequestWork f s = requestNoted f s := by
  unfold rangeRequestWork
  dsimp only
  split
  · rename_i q hq
    exact absurd (h.symm.trans hq) nofun
  · rfl

theorem rangeRequestWork_of_some (h : rangeOfNat f.range.toNat = some r) : rangeRequestWork f s =
    if s.gear.lastRequest ≠ some r ∧ s.link.state = .running then actOnRequest r (requestNoted f s)
    else requestNoted f s := by
  unfold rangeRequestWork requestNoted
  rw [h]
  refine if_congr ?_ rfl rfl
  rw [decide_eq_true_eq, ne_comm]

end

theorem actOnRequest_of_held (hs : s.gear.state = .engaged) (he : s.gear.engaged = some r) :
    actOnRequest r s = raise .gearDone s := by
  simp [actOnRequest, hs, he]

theorem actOnRequest_of_begin (h : (s.gear.state = .engaged ∧ s.gear.engaged ≠ some r) ∨ s.gear.state = .unknown) :
    actOnRequest r s = beginChange r s := by
  rcases h with ⟨hs, he⟩ | hs
  · simp [actOnRequest, hs, he]
  · simp [actOnRequest, hs]

theorem actOnRequest_of_retarget
    (h : s.gear.state = .stoppingSpindle ∨ s.gear.state = .draining ∨ s.gear.state = .valveWait) :
    actOnRequest r s = { s with gear := { s.gear with target := some r } } := by
  rcases h with hs | hs | hs <;> simp [actOnRequest, hs]

theorem actOnRequest_of_shifting (hs : s.gear.state = .shifting) : actOnRequest r s =
    { s with gear := { s.gear with next := if s.gear.target = some r then none else some r } } := by
  simp [actOnRequest, hs]

theorem actOnRequest_of_fault (hs : s.gear.state = .fault) : actOnRequest r s = raise .gearRequestRefused s := by
  simp [actOnRequest, hs]

/-! ## A change abandoned on leaving RUNNING (R103) -/

/-- A change given up: its claim withdrawn and its timers stopped. -/
def changeLeft (s : State) : State :=
  withdraw .gearbox { s with gear := { stopGearTimers { s.gear with next := none } with target := none } }

theorem gearLeaveWork_of_other (h : s.link.state ≠ .stopping) (h' : s.link.state ≠ .linkLost) : gearLeaveWork s = s :=
  if_neg (not_or.2 ⟨h, h'⟩)

theorem gearLeaveWork_of_kept (hl : s.link.state = .stopping ∨ s.link.state = .linkLost)
    (h : s.gear.state.changing = false ∨ s.gear.state = .shifting) :
    gearLeaveWork s = { s with gear := { s.gear with next := none } } := by
  unfold gearLeaveWork
  rw [if_pos hl]
  cases hs : s.gear.state
  case stoppingSpindle | draining | valveWait => rw [hs] at h; exact absurd h (by decide)
  all_goals simp only [hs]

theorem gearLeaveWork_of_change (hl : s.link.state = .stopping ∨ s.link.state = .linkLost)
    (h : s.gear.state = .stoppingSpindle ∨ s.gear.state = .draining ∨ s.gear.state = .valveWait) :
    gearLeaveWork s = reevaluate (changeLeft s) := by
  unfold gearLeaveWork
  rw [if_pos hl]
  rcases h with h | h | h <;> simp only [h] <;> rfl

theorem reevaluate_changeLeft : reevaluate (changeLeft s) = { s with
    gear := { s.gear with
      next := none, target := none, drainCeiling := none, shiftCeiling := none, wiggle := none,
      engaged := shownRange s, state := if shownRange s = none then .unknown else .engaged
      output := if shownRange s = none then 0 else s.gear.output
      interlock := if shownRange s = none then s.gear.interlock else true }
    bank := { s.bank with queue := s.bank.queue.erase .gearbox } } := by
  have same : shownRange (changeLeft s) = shownRange s := shownRange_congr rfl rfl
  cases h : shownRange s with
  | none => rw [reevaluate_of_none (same.trans h)]; rfl
  | some q => rw [reevaluate_of_shown (same.trans h)]; rfl

end

/-- Settles O41: the timers, the requests in each gear state, and leaving RUNNING. -/
theorem gearTimersExpire : Obligations.GearTimersExpire := by
  refine ⟨fun n s law => ⟨fun hs hn hq ⟨c, hh⟩ => ?_, fun hs hn hh hq => ?_, fun bs r hs hn hb ht hl => ?_⟩,
    fun f s u hu => ?_, fun s => ⟨gearLeaveWork_of_other, fun hl => ⟨gearLeaveWork_of_kept hl, fun h => ?_⟩⟩⟩
  · exact settled_eq (drainCeilingEnds_of_claim hs hn hq hh) (law.of_not_engaged rfl (by rw [hs]; decide) nofun)
  · exact settled_eq (shiftCeilingEnds_of_last hs hn hh hq) (law.of_not_engaged rfl (by rw [hs]; decide) nofun)
  · exact settled_eq (wiggleEnds_of_running hs hn hb ht hl)
      (law.of_not_engaged rfl (by rw [hs]; decide) (by simp [hs]))
  · obtain rfl : u = requestNoted f s := hu
    refine ⟨fun h => ?_, fun r hr h => ?_, fun r hr hnew hl => ?_⟩
    · have none : rangeOfNat f.range.toNat = none := by
        refine rangeOfNat_of_none (h.imp (fun h => ?_) id)
        rw [h]; rfl
      exact ⟨none, rangeRequestWork_of_none none⟩
    · rw [rangeRequestWork_of_some hr, if_neg fun k => h.elim k.1 fun n => n k.2]
    · rw [rangeRequestWork_of_some hr, if_pos ⟨hnew, hl⟩]
      exact ⟨actOnRequest_of_held (s := requestNoted f s), actOnRequest_of_begin (s := requestNoted f s),
        actOnRequest_of_retarget (s := requestNoted f s), actOnRequest_of_shifting (s := requestNoted f s),
        actOnRequest_of_fault (s := requestNoted f s)⟩
  · rw [gearLeaveWork_of_change hl h, reevaluate_changeLeft]

end Sys2Proof.Machine

/-! # A gear change from STOPPING_SPINDLE to its completion -/

namespace Sys2Proof.Machine

-- Many short proofs that wait for the same case splitters: one after the other they need less memory.
set_option Elab.async false

section
variable {s : State} {bs : List Byte} {r : Range}

/-! ## STOPPING_SPINDLE and DRAINING (R97, R98) -/

/-- The output moved toward 0. -/
def ramped (bs : List Byte) (s : State) : State :=
  { s with gear := { s.gear with output := towardZero s.gear.output (spindleDecel bs) } }

theorem spindleOutputWork_of_stopping {held : Option CycleFrame} (hb : activeBytes s .gear = some bs)
    (hl : s.link.state = .running) (hs : s.gear.state = .stoppingSpindle) :
    spindleOutputWork held s = enterDraining (ramped bs s) := by
  have output : outputAt held s = towardZero s.gear.output (spindleDecel bs) := by
    simp [outputAt, hl, hs, rampedOutput, hb]
  unfold spindleOutputWork
  rw [output]
  rfl

theorem spindleStopped_eq (hb : activeBytes s .gear = some bs) :
    spindleStopped s = decide ((actualSpeed s).natAbs ≤ zeroBand bs) := by
  unfold spindleStopped
  rw [hb]

theorem enterDraining_of_stopping (hb : activeBytes s .gear = some bs) (hs : s.gear.state = .stoppingSpindle) :
    enterDraining s = if s.gear.output = 0 ∧ (actualSpeed s).natAbs ≤ zeroBand bs then
      { s with gear := { s.gear with state := .draining, drainCeiling := some (drainCeilingMs bs) } } else s := by
  unfold enterDraining
  rw [hb]
  dsimp only
  rw [spindleStopped_eq hb]
  simp only [hs, true_and, decide_eq_true_eq]

theorem towardZero_eq_zero {v : Int} {e : Nat} : towardZero v e = 0 ↔ v.natAbs ≤ e := by
  rw [← Int.natAbs_eq_zero, natAbs_towardZero]
  omega

theorem gearStageWork_of_draining (hb : activeBytes s .gear = some bs) (hs : s.gear.state = .draining) :
    gearStageWork s = if (readingOf s.inputs.readings.an1).2 = false ∧ s.inputs.tsc.getD 0 < drainThreshold bs then
      enterValveWait s else s := by
  unfold gearStageWork
  rw [hb, hs]
  simp only [Bool.not_eq_true']

/-! ## SHIFTING (R101) -/

theorem gearStageWork_of_shifting (hb : activeBytes s .gear = some bs) (hs : s.gear.state = .shifting)
    (ht : s.gear.target = some r) : gearStageWork s =
      if shownRange s = some r then
        if gearSettle bs ≤ s.gear.settle + 1 then
          completeShift { s with gear := { s.gear with settle := s.gear.settle + 1 } }
        else { s with gear := { s.gear with settle := s.gear.settle + 1 } }
      else { s with gear := { s.gear with settle := 0 } } := by
  have shown : showsRange s s.gear.target = decide (shownRange s = some r) := by rw [ht]; rfl
  unfold gearStageWork
  rw [hb, hs]
  dsimp only
  rw [shown]
  simp only [decide_eq_true_eq]

/-- Withheld demand that stands stays without an onset. -/
theorem settleTriggers_of_withheld {order : List TriggerSource} (h : demandNow s = true → s.coolant.withheld = true) :
    settleTriggers order s =
      settleTriggers order { s with coolant := { s.coolant with withheld := demandNow s } } := by
  have judged : settleDemand s = { s with coolant := { s.coolant with withheld := demandNow s } } := by
    unfold settleDemand
    cases hd : demandNow s with
    | false => rfl
    | true => rw [h hd]; rfl
  have again : settleDemand { s with coolant := { s.coolant with withheld := demandNow s } } =
      { s with coolant := { s.coolant with withheld := demandNow s } } := settleDemand_eq_self rfl
  unfold settleTriggers
  rw [judged, again]

/-- A completed shift whose withheld demand is up to date. -/
def shiftJudged (r : Range) (s : State) : State :=
  { shiftCompleted r s with coolant := { (shiftCompleted r s).coolant with
    withheld := s.coolant.requested.tscPump && decide (s.coolant.tank ≠ .inactive) } }

theorem demandNow_shiftCompleted :
    demandNow (shiftCompleted r s) = (s.coolant.requested.tscPump && decide (s.coolant.tank ≠ .inactive)) := rfl

/-- GEAR_END taken with nothing else announced, by what its source does. -/
theorem gearEnd_taken {v : State} (law : SettledLaw s) (hs : s.gear.state = .shifting)
    (hv : triggerSource .gearEnd (withAnnounced [] (shiftJudged r s)) = v) (hset : SettledLaw v) :
    settleTriggers [] (shiftCompleted r s) = v := by
  have before : s.coolant.withheld = s.coolant.requested.tscPump := by
    rw [law.2, demandNow, withholding_of_not_engaged (by rw [hs]; decide), Bool.and_true]
  have standing : demandNow (shiftCompleted r s) = true → (shiftCompleted r s).coolant.withheld = true := by
    rw [demandNow_shiftCompleted, Bool.and_eq_true]
    exact fun h => before.trans h.1
  rw [settleTriggers_of_withheld standing]
  refine settleTriggers_single (s := shiftJudged r s) (src := .gearEnd) ?_ rfl hv hset
  show s.coolant.announced ++ [.gearEnd] = _
  rw [law.1]
  rfl

theorem shiftJudged_settled : SettledLaw (withAnnounced [] (shiftJudged r s)) := ⟨rfl, rfl⟩

theorem gearEnd_unnamed (law : SettledLaw s) (hs : s.gear.state = .shifting)
    (h : ∀ tb, activeBytes s .triggers = some tb → triggerEntry tb .gearEnd = none) :
    settleTriggers [] (shiftCompleted r s) = withAnnounced [] (shiftJudged r s) := by
  refine gearEnd_taken law hs ?_ shiftJudged_settled
  unfold triggerSource
  split
  · split
    · rename_i tb htb
      rw [h tb htb]
    · rfl
  · rfl

theorem gearEnd_queued {tb : List Byte} {p : Fin 8} {run : Run} (law : SettledLaw s) (hs : s.gear.state = .shifting)
    (htb : activeBytes s .triggers = some tb) (he : triggerEntry tb .gearEnd = some p) (hp : programSteps s p ≠ 0)
    (hoff : s.link.state ≠ .offline) (hhalt : s.link.state ≠ .halted) (hr : s.coolant.running = some run)
    (hne : run.program ≠ p) (hq : p ∉ s.coolant.queue) (hlen : s.coolant.queue.length < 4) :
    (settleTriggers [] (shiftCompleted r s)).coolant.queue = s.coolant.queue ++ [p] := by
  have taken : triggerSource .gearEnd (withAnnounced [] (shiftJudged r s)) = { withAnnounced [] (shiftJudged r s) with
      coolant := { (withAnnounced [] (shiftJudged r s)).coolant with queue := s.coolant.queue ++ [p] } } :=
    (triggerSource_of_entry (s := withAnnounced [] (shiftJudged r s)) htb hoff hhalt he).trans
      (triggerProgram_of_queued (triggerOutcome_of_queued (s := withAnnounced [] (shiftJudged r s)) hp hr hne hq hlen))
  rw [gearEnd_taken law hs taken (shiftJudged_settled.withQueue _)]

/-- What a completed shift leaves before the request in the slot is acted on. -/
structure ShiftDone (r : Range) (s u : State) : Prop where
  gear : u.gear = { s.gear with
    state := .engaged, engaged := some r, target := none, next := none, output := 0, interlock := true,
    drainCeiling := none, shiftCeiling := none, wiggle := none }
  bank : u.bank = { s.bank with holder := none }
  comp : u.comp = if s.gear.engaged ≠ some r then (enabledTrigger 1 s).comp else s.comp
  coolant : u.coolant = (settleTriggers [] (shiftCompleted r s)).coolant
  raised : isRaised .gearDone u = true

theorem enabledTrigger_comp_congr {t : State} (hs : t.store = s.store) (hc : t.comp = s.comp) (bit : Nat) :
    (enabledTrigger bit t).comp = (enabledTrigger bit s).comp := by
  unfold enabledTrigger growthTrigger
  rw [activeBytes_congr hs]
  cases activeBytes s .compensation with
  | none => exact hc
  | some bs =>
    dsimp only
    split
    · simp only [hc]
    · exact hc

theorem shiftReleased_done (hh : s.bank.holder = some .gearbox) (hq : s.bank.queue = []) :
    ShiftDone r s (shiftReleased (decide (s.gear.engaged ≠ some r)) (settleTriggers [] (shiftCompleted r s))) := by
  obtain ⟨v, hv⟩ : ∃ v, v = settleTriggers [] (shiftCompleted r s) := ⟨_, rfl⟩
  have taken : Within [.coolant, .flags] (shiftCompleted r s) v := hv ▸ settleTriggers_within _ _
  have shift := shiftCompleted_within r s
  have bank : v.bank = s.bank := taken.same_bank.trans shift.same_bank
  have grown : isRaised .gearDone v = true := by
    rw [hv]
    exact (settleTriggers_grows _ _).raised _ (isRaised_raise_self .gearDone _)
  have last (w : State) (hw : Within [.comp] v w) : release .gearbox w = { w with bank := { w.bank with holder := none } } :=
    release_of_last (by rw [hw.same_bank, bank]; exact hh) (by rw [hw.same_bank, bank]; exact hq)
  rw [← hv]
  unfold shiftReleased
  by_cases he : s.gear.engaged = some r
  · simp only [he, ne_eq, not_true_eq_false, decide_false, Bool.false_eq_true, if_false]
    rw [last v (.refl _ v)]
    exact ⟨taken.same_gear, by rw [← bank], by simp [he, taken.same_comp, shift.same_comp], hv ▸ rfl, grown⟩
  · have trig := enabledTrigger_within 1 v
    simp only [he, ne_eq, not_false_eq_true, decide_true, if_true]
    rw [last _ trig]
    refine ⟨trig.same_gear.trans taken.same_gear, ?_, ?_, hv ▸ trig.same_coolant, ?_⟩
    · show { (enabledTrigger 1 v).bank with holder := none } = _
      rw [trig.same_bank, bank]
    · simp only [he, ne_eq, not_false_eq_true, if_true]
      exact enabledTrigger_comp_congr (taken.same_store.trans shift.same_store) (taken.same_comp.trans shift.same_comp) 1
    · exact (isRaised_congr trig.same_flags).trans grown

/-- Whether the slot leaves no further change to make. -/
def slotServed (slot : Option Range) (r : Range) : Bool := decide (slot = none ∨ slot = some r)

/-- The request in the slot acted on in ENGAGED(r). -/
def slotTaken (slot : Option Range) (r : Range) (u : State) : State :=
  match slot with
  | none => u
  | some q => if q = r then raise .gearDone u else beginChange q u

section
variable {u : State} {slot : Option Range}

theorem slotTaken_cases (slot : Option Range) (r : Range) (u : State) :
    (slotServed slot r = true ∧ slotTaken slot r u = u) ∨
    (slotServed slot r = true ∧ slotTaken slot r u = raise .gearDone u) ∨
    (∃ q, slot = some q ∧ slotServed slot r = false ∧ slotTaken slot r u = beginChange q u) := by
  cases slot with
  | none => exact .inl ⟨rfl, rfl⟩
  | some q =>
    by_cases h : q = r
    · exact .inr (.inl ⟨by simp [slotServed, h], if_pos h⟩)
    · exact .inr (.inr ⟨q, rfl, by simp [slotServed, h], if_neg h⟩)

theorem slotTaken_within (slot : Option Range) (r : Range) (u : State) :
    Within [.gear, .coolant, .flags] u (slotTaken slot r u) := by
  rcases slotTaken_cases slot r u with ⟨-, e⟩ | ⟨-, e⟩ | ⟨q, -, -, e⟩
  · exact .of_eq _ e
  · exact e.symm ▸ (raise_within _ u).mono (by decide)
  · exact e.symm ▸ ((within_gear u _).comp (announce_within _ _)).mono (by decide)

theorem slotTaken_gear (slot : Option Range) (r : Range) (u : State) : (slotTaken slot r u).gear = { u.gear with
    state := if slotServed slot r then u.gear.state else .stoppingSpindle
    target := if slotServed slot r then u.gear.target else slot } := by
  rcases slotTaken_cases slot r u with ⟨h, e⟩ | ⟨h, e⟩ | ⟨q, hq, h, e⟩ <;> rw [e, h]
  · rfl
  · rfl
  · rw [hq]
    rfl

theorem slotTaken_coolant (slot : Option Range) (r : Range) (u : State) : (slotTaken slot r u).coolant = { u.coolant with
    announced := u.coolant.announced ++ if slotServed slot r then [] else [.gearBegin] } := by
  rcases slotTaken_cases slot r u with ⟨h, e⟩ | ⟨h, e⟩ | ⟨q, -, h, e⟩ <;> rw [e, h]
  · simp only [if_true, List.append_nil]
  · simp only [if_true, List.append_nil]
    rfl
  · rfl

theorem slotTaken_raised (h : isRaised .gearDone u = true) : isRaised .gearDone (slotTaken slot r u) = true := by
  rcases slotTaken_cases slot r u with ⟨-, e⟩ | ⟨-, e⟩ | ⟨q, -, -, e⟩ <;> rw [e]
  · exact h
  · exact isRaised_raise_self _ u
  · exact h

end

/-- A shift completed by the last holder of the bank. -/
theorem completeShift_done (ht : s.gear.target = some r) (hh : s.bank.holder = some .gearbox) (hq : s.bank.queue = []) :
    ∃ u, ShiftDone r s u ∧ completeShift s = slotTaken s.gear.next r u := by
  rcases completeShift_cases s with ⟨h, -⟩ | ⟨q, u, hr, hu, he⟩
  · exact absurd (ht.symm.trans h) nofun
  · obtain rfl : r = q := Option.some.inj (ht.symm.trans hr)
    have done : ShiftDone r s u := hu ▸ shiftReleased_done hh hq
    refine ⟨u, done, ?_⟩
    have state : u.gear.state = .engaged := by rw [done.gear]
    have range : u.gear.engaged = some r := by rw [done.gear]
    rcases he with ⟨hn, e⟩ | ⟨q, hn, e⟩ <;> rw [e, hn]
    · rfl
    · by_cases hqr : q = r
      · subst hqr
        exact (actOnRequest_of_held state range).trans (if_pos rfl).symm
      · refine (actOnRequest_of_begin (.inl ⟨state, ?_⟩)).trans (if_neg hqr).symm
        rw [range]
        exact fun k => hqr (Option.some.inj k).symm

/-! ## What a completed shift shows (R51, R101, R118) -/

section
variable {u : State}

theorem enabledTrigger_of_enabled {cb : List Byte} {bit : Nat} (hb : activeBytes s .compensation = some cb)
    (he : compEnable cb bit = true) : (enabledTrigger bit s).comp = { s.comp with
      hardFirst := true, updates := if compRestart cb = 255 then .always else .count (compRestart cb + 1) } := by
  unfold enabledTrigger
  rw [hb]
  dsimp only
  rw [if_pos he, growthTrigger_of_active hb, Bool.or_true]
  rfl

theorem enabledTrigger_of_disabled {bit : Nat}
    (h : ∀ cb, activeBytes s .compensation = some cb → compEnable cb bit = false) : enabledTrigger bit s = s := by
  unfold enabledTrigger
  split
  · rename_i cb hb
    rw [h cb hb]
    rfl
  · rfl

theorem ShiftDone.comp_triggered {cb : List Byte} (d : ShiftDone r s u) (hb : activeBytes s .compensation = some cb)
    (he : s.gear.engaged ≠ some r) (hc : compEnable cb 1 = true) : u.comp = { s.comp with
      hardFirst := true, updates := if compRestart cb = 255 then .always else .count (compRestart cb + 1) } := by
  rw [d.comp, if_pos he, enabledTrigger_of_enabled hb hc]

theorem ShiftDone.comp_kept (d : ShiftDone r s u)
    (h : s.gear.engaged = some r ∨ ∀ cb, activeBytes s .compensation = some cb → compEnable cb 1 = false) :
    u.comp = s.comp := by
  rw [d.comp]
  split
  · rename_i hne
    rw [enabledTrigger_of_disabled (h.resolve_left hne)]
  · rfl

end

end

/-! ## The clauses of R92, R97, R98 and R101 -/

section
variable {s : State} {bs : List Byte} {r : Range}

theorem stoppingSpindle_ends (hb : activeBytes s .gear = some bs) (held : Option CycleFrame)
    (hl : s.link.state = .running) (hs : s.gear.state = .stoppingSpindle) :
    (spindleOutputWork held s).gear.output = towardZero s.gear.output (spindleDecel bs) ∧
    (s.gear.output.natAbs ≤ spindleDecel bs → (actualSpeed s).natAbs ≤ zeroBand bs →
      (spindleOutputWork held s).gear.state = .draining ∧
      (spindleOutputWork held s).gear.drainCeiling = some (drainCeilingMs bs)) ∧
    (spindleDecel bs < s.gear.output.natAbs ∨ zeroBand bs < (actualSpeed s).natAbs →
      (spindleOutputWork held s).gear.state = .stoppingSpindle) := by
  rw [spindleOutputWork_of_stopping hb hl hs, enterDraining_of_stopping (s := ramped bs s) hb hs]
  have stopped : (ramped bs s).gear.output = 0 ↔ s.gear.output.natAbs ≤ spindleDecel bs := towardZero_eq_zero
  have speed : actualSpeed (ramped bs s) = actualSpeed s := rfl
  split
  · rename_i h
    rw [stopped, speed] at h
    exact ⟨rfl, fun _ _ => ⟨rfl, rfl⟩, fun k => by omega⟩
  · rename_i h
    rw [stopped, speed] at h
    exact ⟨rfl, fun a b => absurd ⟨a, b⟩ h, fun _ => hs⟩

theorem draining_ends (hb : activeBytes s .gear = some bs) (hs : s.gear.state = .draining) :
    ((readingOf s.inputs.readings.an1).2 = true ∨ drainThreshold bs ≤ s.inputs.tsc.getD 0 → gearStageWork s = s) ∧
    (∀ c, (readingOf s.inputs.readings.an1).2 = false → s.inputs.tsc.getD 0 < drainThreshold bs →
      s.bank.holder = some (.clamp c) → .gearbox ∉ s.bank.queue →
      gearStageWork s = { s with
        gear := { s.gear with state := .valveWait, drainCeiling := none }
        bank := { s.bank with queue := s.bank.queue ++ [.gearbox] } }) := by
  rw [gearStageWork_of_draining hb hs]
  refine ⟨fun h => if_neg ?_, fun c hf hlow hh hq => ?_⟩
  · rintro ⟨good, low⟩
    exact h.elim (fun bad => by simp [good] at bad) (Nat.not_le.2 low)
  · rw [if_pos ⟨hf, hlow⟩]
    exact claim_of_held (s := { s with gear := { s.gear with state := .valveWait, drainCeiling := none } }) hh nofun hq

theorem unknown_settles (hb : activeBytes s .gear = some bs) (hs : s.gear.state = .unknown) :
    (s.gear.forkLoss = true ∨ shownRange s = none → gearStageWork s = s) ∧
    (∀ r, s.gear.forkLoss = false → shownRange s = some r → gearStageWork s =
      { s with gear := { s.gear with state := .engaged, engaged := some r, interlock := true } }) := by
  have work : gearStageWork s = (shownRange s).elim s fun r => if s.gear.forkLoss then s else enterEngaged r s := by
    unfold gearStageWork
    rw [hb, hs]
    cases shownRange s <;> rfl
  rw [work]
  refine ⟨?_, fun r hf hr => ?_⟩
  · rintro (hf | hn)
    · cases shownRange s with
      | none => rfl
      | some r => exact if_pos hf
    · rw [hn]
      rfl
  · rw [hr]
    exact if_neg (by rw [hf]; decide)

/-- A fork change that takes the shown range away. -/
theorem shownRange_of_lost {t : State} (hb : activeBytes t .gear = some bs)
    (h : showsPattern bs t.gear.forks r = false) : shownRange t ≠ some r := by
  unfold shownRange
  rw [hb]
  intro k
  have shows := List.find?_some k
  rw [h] at shows
  exact absurd shows nofun

/-- The block's copy of the fork switches replaced. -/
def withForks (f : PerFork Bool) (s : State) : State := { s with gear := { s.gear with forks := f } }

theorem forksChanged_of_lost {f : PerFork Bool} (hb : activeBytes s .gear = some bs) (hs : s.gear.state = .engaged)
    (he : s.gear.engaged = some r) (hr : shownRange s = some r) (hf : showsPattern bs f r = false) :
    forksChanged f s = { s with
      gear := { s.gear with state := .unknown, engaged := none, output := 0, forks := f, forkLoss := true }
      flags := { s.flags with raised := s.flags.raised ||| Flag.gearFault.bit } } := by
  have before : showsRange s s.gear.engaged = true := by rw [he]; exact (showsRange_some s).2 hr
  have after : showsRange (withForks f s) s.gear.engaged = false := by
    rw [he, Bool.eq_false_iff]
    exact fun k => shownRange_of_lost (t := withForks f s) hb hf ((showsRange_some _).1 k)
  have lost : (showsRange s s.gear.engaged && !showsRange (withForks f s) s.gear.engaged) = true := by
    rw [before, after]
    rfl
  unfold forksChanged
  simp only [hs]
  exact if_pos lost

/-- R101: the sample that reaches the confirm settle. -/
theorem gearStageWork_of_confirmed (hb : activeBytes s .gear = some bs) (hs : s.gear.state = .shifting)
    (ht : s.gear.target = some r) (hr : shownRange s = some r) (hn : gearSettle bs ≤ s.gear.settle + 1) :
    gearStageWork s = completeShift { s with gear := { s.gear with settle := s.gear.settle + 1 } } := by
  rw [gearStageWork_of_shifting hb hs ht, if_pos hr, if_pos hn]

end

/-- Settles O38: each stage of a change, and what the completed shift shows by the request in its slot. -/
theorem shiftCompletes : Obligations.ShiftCompletes := by
  refine fun bs s hb => ⟨stoppingSpindle_ends hb, draining_ends hb, fun r hs ht => ⟨fun hr => ?_, fun hr hn => ?_,
    fun hr hn hh hq law => ?_⟩, unknown_settles hb, fun f r => forksChanged_of_lost hb⟩
  · rw [gearStageWork_of_shifting hb hs ht, if_neg hr]
  · rw [gearStageWork_of_shifting hb hs ht, if_pos hr, if_neg (Nat.not_le.2 hn)]
  · rw [gearStageWork_of_confirmed hb hs ht hr hn]
    obtain ⟨c, hc⟩ : ∃ c : State, c = { s with gear := { s.gear with settle := s.gear.settle + 1 } } := ⟨_, rfl⟩
    obtain ⟨u, done, e⟩ := completeShift_done (s := c) (r := r) (by rw [hc]; exact ht) (by rw [hc]; exact hh)
      (by rw [hc]; exact hq)
    rw [← hc, e, show c.gear.next = s.gear.next by rw [hc]]
    have gear := slotTaken_gear s.gear.next r u
    have coolant := slotTaken_coolant s.gear.next r u
    have within := slotTaken_within s.gear.next r u
    rw [done.gear, hc] at gear
    rw [done.coolant] at coolant
    have law' : SettledLaw c := by rw [hc]; exact ⟨law.1, law.2⟩
    have shifting : c.gear.state = .shifting := by rw [hc]; exact hs
    refine ⟨by rw [gear], by rw [gear], by rw [gear], by rw [gear], by rw [gear], by rw [gear],
      within.same_bank.trans (done.bank.trans (by rw [hc])), slotTaken_raised done.raised, fun hn => ?_, fun q hn hqr => ?_,
      fun cb hcb he hce => ?_, fun h => ?_, fun h => ?_, fun tb p run htb he hp hoff hhalt hrun hne hmem hlen => ?_⟩
    · rw [gear, hn]
      exact ⟨rfl, rfl⟩
    · have again : slotServed (some q) r = false := by simp [slotServed, hqr]
      rw [gear, hn, again]
      exact ⟨rfl, rfl⟩
    · rw [within.same_comp]
      subst hc
      exact done.comp_triggered hcb he hce
    · rw [within.same_comp]
      subst hc
      exact done.comp_kept h
    · rw [coolant, gearEnd_unnamed law' shifting (by subst hc; exact h), hc]
      simp only [slotServed, decide_eq_true_eq]
      rfl
    · rw [coolant]
      subst hc
      exact gearEnd_queued law' shifting htb he hp hoff hhalt hrun hne hmem hlen

end Sys2Proof.Machine

/-! # STOP, RESTART and the flag services -/

namespace Sys2Proof.Machine

-- Many short proofs that wait for the same case splitters: one after the other they need less memory.
set_option Elab.async false

section
variable {s : State}

/-! ## STOP (R15, R139) -/

/-- A STOP that has ended RUNNING, before the gearbox's reaction. -/
def stopped (s : State) : State := settleTriggers [] (answer .stop .accepted [] (leaveRunning .stopping s))

theorem stopNow_of_running (hl : s.link.state = .running) : stopNow [] s = gearLeaveWork (stopped s) := by
  unfold stopNow stopped
  rw [if_pos hl, show linkService .stop [] [] s = stopService s from rfl, stopService, if_pos hl]

theorem stopped_within (s : State) : Within [.sent, .coolant, .flags] (leaveRunning .stopping s) (stopped s) :=
  ((answer_within _ _ _ _).comp (settleTriggers_within [] _)).mono (by decide)

theorem gearLeaveWork_next (hl : s.link.state = .stopping ∨ s.link.state = .linkLost) : (gearLeaveWork s).gear.next = none := by
  by_cases h : s.gear.state = .stoppingSpindle ∨ s.gear.state = .draining ∨ s.gear.state = .valveWait
  · rw [gearLeaveWork_of_change hl h, reevaluate_changeLeft]
  · rw [gearLeaveWork_of_kept hl]
    simp only [not_or] at h
    cases hs : s.gear.state <;> simp_all [GearState.changing]

theorem leaveRunning_axis (st : LinkState) (s : State) (a : Axis) :
    ((leaveRunning st s).axes.get a).out = (s.axes.get a).out ∧ ((leaveRunning st s).axes.get a).step = (s.axes.get a).step ∧
    ((leaveRunning st s).axes.get a).offset = (s.axes.get a).offset ∧
    ((leaveRunning st s).axes.get a).older = (s.axes.get a).older ∧
    ((leaveRunning st s).axes.get a).newer = (s.axes.get a).newer := by
  rcases leaveRunning_axes st s a with e | e <;> rw [e] <;> exact ⟨rfl, rfl, rfl, rfl, rfl⟩

/-- R139: leaving RUNNING ends a grant. -/
theorem leaveRunning_of_granted {a : Axis} (st : LinkState) (h : s.pendant.grant = .granted a) :
    ((leaveRunning st s).axes.get a).frozen = none ∧ (leaveRunning st s).pendant.distance = 0 ∧
    isRaised .pendantReleased (leaveRunning st s) = true := by
  have e := endGrant_of_granted (s := { s with link := { s.link with state := st } }) h
  refine ⟨?_, ?_, ?_⟩
  · show ((endGrant { s with link := { s.link with state := st } }).axes.get a).frozen = none
    rw [e]
    show ((s.axes.set a _).get a).frozen = none
    rw [PerAxis.get_set_self]
  · rw [leaveRunning_pendant, e]
    rfl
  · show isRaised .pendantReleased (endGrant { s with link := { s.link with state := st } }) = true
    rw [e]
    exact isRaised_raise_self _ _

end

/-- Settles O53: the link controller's reaction, then the gearbox's. -/
theorem stopEntersStopping : Obligations.StopEntersStopping := by
  refine fun s law hoff => ⟨fun hl => ?_, fun hl => ?_⟩
  · refine served_refuse law hoff (k := .stop) (stopNow_of_refused law ?_)
    show stopService s = _
    exact if_neg hl
  · refine ⟨_, served_of_online hoff _, ?_⟩
    rw [stopNow_of_running hl]
    obtain ⟨t, ht⟩ : ∃ t, t = settleTriggers [] (gearLeaveWork (stopped s)) := ⟨_, rfl⟩
    rw [← ht]
    have reaction : Within [.gear, .bank, .coolant, .flags] (stopped s) t :=
      ht ▸ (gearLeaveWork_within _).comp (settleTriggers_within [] _)
    have left : Within [.sent, .coolant, .flags, .gear, .bank] (leaveRunning .stopping s) t :=
      ((stopped_within s).comp reaction).mono (by decide)
    have start := leaveRunning_within .stopping s
    have state : (stopped s).link.state = .stopping := by
      rw [(stopped_within s).same_link, leaveRunning_link]
    refine ⟨left.same_link.trans (leaveRunning_link _ s), ?_, fun a => ?_, fun a => ?_, fun a ha => ?_, ?_,
      left.same_clamps.trans start.same_clamps, left.same_inputs.trans start.same_inputs,
      left.same_comp.trans start.same_comp, left.same_store.trans start.same_store⟩
    · rw [reaction.same_sent, stopped, (settleTriggers_within [] _).same_sent]
      rfl
    · rw [left.same_pendant, leaveRunning_pendant]
      exact endGrant_not_granted _ a
    · rw [left.same_axes]
      exact leaveRunning_axis _ s a
    · obtain ⟨frozen, distance, raised⟩ := leaveRunning_of_granted .stopping ha
      rw [left.same_axes, left.same_pendant, ht]
      refine ⟨frozen, distance, (settleTriggers_grows [] _).raised _ ?_⟩
      refine (isRaised_congr (gearLeaveWork_within _).same_flags).trans ((settleTriggers_grows [] _).raised _ ?_)
      exact (isRaised_congr (answer_within _ _ _ _).same_flags).trans raised
    · rw [ht, (settleTriggers_within [] _).same_gear]
      exact gearLeaveWork_next (.inl state)

/-! ## RESTART (R19) -/

section
variable {s : State}

theorem restart_comp (s : State) : (restart s).comp = { compReset with
    droop := (s.store.active.compensation).elim 0 fun img => droopAt img.bytes s.seen.out.w } := by
  have droop (u : State) : (droopWork u).comp =
      { u.comp with droop := (u.store.active.compensation).elim 0 fun img => droopAt img.bytes u.seen.out.w } := by
    cases h : u.store.active.compensation with
    | none => rw [droopWork_of_none (activeBytes_of_none (t := .compensation) h)]; rfl
    | some img => rw [droopWork_of_some (activeBytes_of_some (t := .compensation) h)]; rfl
  have base : Within [.gear, .coolant] (restartBase s) (startLube (reevaluate (restartBase s))) :=
    (reevaluate_within _).comp (startLube_within _)
  rw [restart_eq, droop, base.same_comp, base.same_store, base.same_seen]
  rfl

theorem restart_lube (s : State) : (restart s).coolant = { coolantReset with
    lube := (s.store.active.triggers).elim .stopped fun img =>
      if lubeInterval img.bytes = 0 then .stopped else .held (lubeInterval img.bytes) } := by
  have gear := reevaluate_within (restartBase s)
  have store : (reevaluate (restartBase s)).store.active.triggers = s.store.active.triggers := by rw [gear.same_store]; rfl
  have rest : coolantWorks (reevaluate (restartBase s)) = false := by
    unfold coolantWorks
    rw [gear.same_link]
    rfl
  rw [restart_eq, (droopWork_within _).same_coolant]
  unfold startLube
  dsimp only
  rw [gear.same_coolant, rest]
  cases h : s.store.active.triggers with
  | none =>
    rw [activeBytes_of_none (t := .triggers) (store.trans h)]
    rfl
  | some img =>
    rw [activeBytes_of_some (t := .triggers) (store.trans h)]
    rfl

/-- R84, R108: a clamp's state after RESTART. -/
theorem restartedClamp_eq (s : State) (a : ClampAxis) : restartedClamp s a = ⟨
    if s.store.active.clamp = none then droppedState (s.clamps.get a).state
    else if clampAbsent s a = false ∧ s.inputs.clampComplete = true ∧
      (s.inputs.clamps.get a).clamped.value = some true ∧ (s.inputs.clamps.get a).unclamped.value = some false
    then .clamped else .dropped, none, 0⟩ := by
  unfold restartedClamp
  cases hc : s.store.active.clamp with
  | none =>
    have gone := activeBytes_of_none (t := .clamp) hc
    simp [clampInForce, clampAbsent, gone, clampReset]
  | some img =>
    have force := clampInForce_eq_not_absent (activeBytes_of_some (t := .clamp) hc) a
    cases habs : clampAbsent s a with
    | true => simp [force, habs, clampReset]
    | false =>
      simp only [force, habs, Bool.not_false, if_true, reduceCtorEq, if_false, true_and]
      cases hk : s.inputs.clampComplete with
      | false => simp [readingNow, hk, clampReset]
      | true =>
        simp only [readingNow_clamped_iff hk, true_and]
        rfl

/-- R108: the gearbox after RESTART, by the range that its forks show. -/
theorem restart_gear_eq (s : State) : (restart s).gear = { gearReset with
    forksDelivered := s.inputs.forkComplete
    forks := if s.inputs.forkComplete = true then forkValues s else gearReset.forks
    engaged := shownRange (restart s)
    state := if shownRange (restart s) = none then .unknown else .engaged } := by
  have forks : (reevaluate (restartBase s)).gear.forks = (restartBase s).gear.forks :=
    (reevaluate_keepsForks _).forks
  have shown : shownRange (restart s) = shownRange (restartBase s) :=
    shownRange_congr (by rw [restart_gear, forks]) (activeBytes_congr (restart_within_base s).same_store .gear)
  rw [shown, restart_gear]
  cases h : shownRange (restartBase s) with
  | none =>
    rw [reevaluate_of_none h]
    show { restartedGear s with state := .unknown, engaged := none, output := 0 } = _
    unfold restartedGear
    cases s.inputs.forkComplete <;> rfl
  | some r =>
    rw [reevaluate_of_shown h]
    show { restartedGear s with state := .engaged, engaged := some r, interlock := true } = _
    unfold restartedGear
    cases s.inputs.forkComplete <;> rfl

/-- A RESTART that passes its checks, with its answer in place. -/
def restartAnswered (s : State) : State := answer .restart .ok [] { s with sent := { s.sent with answer := noAnswer } }

theorem restartService_of_ok (hw : s.store.state ≠ .writing) (hl : s.link.state = .standby ∨ s.link.state = .halted) :
    restartService s = answer .restart .ok [] s := by
  unfold restartService
  rw [not_storing hw, if_neg nofun, if_pos hl]

theorem restartNow_of_ok (hw : s.store.state ≠ .writing) (hl : s.link.state = .standby ∨ s.link.state = .halted) :
    restartNow [] s = restart (restartAnswered s) := by
  have work : linkService .restart [] [] { s with sent := { s.sent with answer := noAnswer } } = restartAnswered s :=
    restartService_of_ok (s := { s with sent := { s.sent with answer := noAnswer } }) hw hl
  unfold restartNow
  dsimp only
  rw [work]
  rfl

end

/-- Settles O55: the refusals, and each block's values field by field. -/
theorem restartKeepsTables : Obligations.RestartKeepsTables := by
  refine fun s law hoff => ⟨fun hw => ?_, fun hw hs hh => ?_, fun hw hl => ?_⟩
  · refine served_refuse law hoff (k := .restart) (restartNow_of_refused (by decide) fun u _ hu => ?_)
    show restartService u = _
    unfold restartService
    rw [storing_of_writing (by rw [hu]; exact hw), if_pos rfl]
  · refine served_refuse law hoff (k := .restart) (restartNow_of_refused (by decide) fun u hk hu => ?_)
    show restartService u = _
    unfold restartService
    rw [not_storing (by rw [hu]; exact hw), if_neg nofun, if_neg]
    rw [hk]
    exact not_or.2 ⟨hs, hh⟩
  · refine ⟨_, served_eq hoff (restartNow_of_ok hw hl) (restart_settled _), ?_⟩
    have base := restart_within_base (restartAnswered s)
    refine ⟨restart_link _, restart_axes (restartAnswered s), ?_, base.same_bank, fun a => ?_,
      restart_gear_eq (restartAnswered s), ?_, base.same_pendant, base.same_inputs, base.same_store, base.same_flags,
      base.same_seen, ?_⟩
    · rw [restart_comp, show (restartAnswered s).store.active.compensation = s.store.active.compensation from rfl]
      cases s.store.active.compensation <;> rfl
    · rw [base.same_clamps]
      exact (PerClamp.get_of _ a).trans (restartedClamp_eq (restartAnswered s) a)
    · rw [restart_lube, show (restartAnswered s).store.active.triggers = s.store.active.triggers from rfl]
      cases s.store.active.triggers <;> rfl
    · rw [base.same_sent]
      rfl

end Sys2Proof.Machine

/-! # COMMIT: what it is refused for, and every check of every table -/

namespace Sys2Proof.Machine

-- Many short proofs that wait for the same case splitters: one after the other they need less memory.
set_option Elab.async false

/-! ## The checks' first failure (R164) -/

theorem firstFailure_eq_find (l : List (Bool × Nat)) : firstFailure l = (l.find? fun c => !c.1).map Prod.snd := by
  induction l with
  | nil => rfl
  | cons c l ih =>
    obtain ⟨passes, off⟩ := c
    cases passes with
    | true => exact ih
    | false => rfl

theorem tableFailure_of_checks {t : TableId} {bs : List Byte} {l : List (Bool × Nat)} (h : tableChecks t bs = l) :
    tableFailure t bs = (l.find? fun c => !c.1).map Prod.snd := by
  rw [tableFailure, h, firstFailure_eq_find]

theorem within_eq (lo hi n : Nat) : within lo hi n = decide (lo ≤ n ∧ n ≤ hi) := (Bool.decide_and _ _).symm

/-- Two lists of checks behind the same first part need to agree only where that passes. -/
theorem find_append_congr {α : Type} {p : α → Bool} {front l m : List α} (h : front.find? p = none → l.find? p = m.find? p) :
    (front ++ l).find? p = (front ++ m).find? p := by
  rw [List.find?_append, List.find?_append]
  cases hf : front.find? p with
  | none => rw [h hf]
  | some x => rfl

section
variable (bs : List Byte)

/-- The model's conditions, one by one, are those of the section's list. -/
theorem stepPattern_eq (p i : Nat) : ((List.range 6).all fun k => decide (patternEntry bs p (i + 1) k ≠ 3)) =
    decide (∀ k < 6, u16At bs (37 * p + 1 + 6 * i) / 4 ^ k % 4 ≠ 3) := by
  rw [Bool.eq_iff_iff]
  simp [patternEntry, stepBase]

theorem forkSideOf_ne_middle {n : Nat} : forkSideOf n ≠ .middle ↔ n = 1 ∨ n = 2 := by
  match n with
  | 0 => decide
  | 1 => decide
  | 2 => decide
  | n + 3 => exact ⟨fun h => absurd rfl h, fun h => by omega⟩

theorem forkPattern_valid (r : Range) :
    (decide ((forkPattern bs r).1 ≠ .middle) && decide ((forkPattern bs r).2 ≠ .middle)) =
      decide ((byteAt bs (gearBase r + 11) % 16 = 1 ∨ byteAt bs (gearBase r + 11) % 16 = 2) ∧
        (byteAt bs (gearBase r + 11) / 16 = 1 ∨ byteAt bs (gearBase r + 11) / 16 = 2)) := by
  rw [Bool.decide_and]
  congr 1
  · exact decide_eq_decide.2 forkSideOf_ne_middle
  · exact decide_eq_decide.2 forkSideOf_ne_middle

/-- Among valid patterns the byte says which it is. -/
theorem forkPattern_inj {q r : Range} (hq : ∀ n ∈ [q, r], (forkPattern bs n).1 ≠ .middle ∧ (forkPattern bs n).2 ≠ .middle) :
    forkPattern bs q = forkPattern bs r ↔ byteAt bs (gearBase q + 11) = byteAt bs (gearBase r + 11) := by
  have valid (n : Range) (hn : n ∈ [q, r]) :
      (byteAt bs (gearBase n + 11) % 16 = 1 ∨ byteAt bs (gearBase n + 11) % 16 = 2) ∧
      (byteAt bs (gearBase n + 11) / 16 = 1 ∨ byteAt bs (gearBase n + 11) / 16 = 2) :=
    ⟨forkSideOf_ne_middle.1 (hq n hn).1, forkSideOf_ne_middle.1 (hq n hn).2⟩
  have side {m n : Nat} (hm : m = 1 ∨ m = 2) (hn : n = 1 ∨ n = 2) : forkSideOf m = forkSideOf n ↔ m = n := by
    rcases hm with rfl | rfl <;> rcases hn with rfl | rfl <;> decide
  obtain ⟨qlow, qhigh⟩ := valid q (by simp)
  obtain ⟨rlow, rhigh⟩ := valid r (by simp)
  unfold forkPattern
  rw [Prod.mk.injEq, side qlow rlow, side qhigh rhigh]
  omega

end

/-! ## The eight lists (R42, R60, R82, R106, R127, R129, R146, R156) -/

section
variable (bs : List Byte)

/-- A field of one, two or four bytes against its range, as the statement writes it. -/
def oneCheck (lo hi off : Nat) : Bool × Nat := (decide (lo ≤ byteAt bs off ∧ byteAt bs off ≤ hi), off)
def twoCheck (lo hi off : Nat) : Bool × Nat := (decide (lo ≤ u16At bs off ∧ u16At bs off ≤ hi), off)
def fourCheck (lo hi off : Nat) : Bool × Nat := (decide (lo ≤ u32At bs off ∧ u32At bs off ≤ hi), off)

theorem envelopeChecks_eq : envelopeChecks bs = oneCheck bs 1 7 0 :: [1, 19, 37, 55, 73].flatMap fun o =>
    [(decide (byteAt bs (o + 17) = 0 ∨ (byteAt bs (o + 17) = 1 ∧ o = 73)), o + 17),
     (decide (byteAt bs (o + 17) = 1 ∨ s32At bs o ≤ s32At bs (o + 4)), o + 4), twoCheck bs 1 65535 (o + 8),
     twoCheck bs 1 4095 (o + 10), (decide (u16At bs (o + 10) ≤ u16At bs (o + 8)), o + 10),
     fourCheck bs 1 1000000 (o + 12), oneCheck bs 1 255 (o + 16)] := by
  simp only [oneCheck, twoCheck, fourCheck, Bool.decide_and, Bool.decide_or]
  rfl

theorem compensationChecks_eq : compensationChecks bs = [fourCheck bs 16 4000000 38, twoCheck bs 0 4095 42,
    oneCheck bs 1 255 44, oneCheck bs 0 16 45, twoCheck bs 0 2000 49, oneCheck bs 0 15 51, oneCheck bs 1 255 52] := by
  have enable : decide (byteAt bs 51 < 16) = decide (0 ≤ byteAt bs 51 ∧ byteAt bs 51 ≤ 15) :=
    decide_eq_decide.2 (by omega)
  unfold compensationChecks oneCheck twoCheck fourCheck
  rw [enable]
  simp only [within_eq]
  rfl

theorem rangeChecks_eq (r : Range) : rangeChecks bs r = (fun o =>
    [twoCheck bs 0 2000 o, twoCheck bs 1 2000 (o + 2), (decide (u16At bs o ≤ u16At bs (o + 2)), o + 2),
     twoCheck bs 250 40000 (o + 4), twoCheck bs 1 6000 (o + 6), twoCheck bs 1 300 (o + 8), oneCheck bs 1 50 (o + 10),
     (decide ((byteAt bs (o + 11) % 16 = 1 ∨ byteAt bs (o + 11) % 16 = 2) ∧
       (byteAt bs (o + 11) / 16 = 1 ∨ byteAt bs (o + 11) / 16 = 2)), o + 11), oneCheck bs 1 100 (o + 12)]) (gearBase r) := by
  unfold rangeChecks
  dsimp only
  rw [forkPattern_valid]
  simp only [within_eq]
  rfl

/-- Where every range's own checks pass, its pattern is valid. -/
theorem rangeChecks_pass (h : (allRanges.flatMap (rangeChecks bs)).find? (fun c => !c.1) = none) (r : Range) :
    (forkPattern bs r).1 ≠ .middle ∧ (forkPattern bs r).2 ≠ .middle := by
  rw [List.find?_eq_none] at h
  have check := h (decide ((forkPattern bs r).1 ≠ .middle) && decide ((forkPattern bs r).2 ≠ .middle), gearBase r + 11) <|
    List.mem_flatMap.2 ⟨r, by cases r <;> decide, by simp [rangeChecks]⟩
  simpa using check

/-- Check 10 of R106 by the bytes, where every pattern is valid. -/
theorem patternCheck_eq (h : ∀ r, (forkPattern bs r).1 ≠ .middle ∧ (forkPattern bs r).2 ≠ .middle) (r : Range) :
    patternCheck bs r = ([0, 13, 26, 39].all fun q =>
      decide (q < gearBase r → byteAt bs (q + 11) ≠ byteAt bs (gearBase r + 11)), gearBase r + 11) := by
  have each (q : Range) : (decide (r.index ≤ q.index) || decide (forkPattern bs q ≠ forkPattern bs r)) =
      decide (gearBase q < gearBase r → byteAt bs (gearBase q + 11) ≠ byteAt bs (gearBase r + 11)) := by
    rw [← Bool.decide_or, decide_eq_decide, Ne, forkPattern_inj bs fun n _ => h n]
    unfold gearBase
    constructor
    · rintro (k | k) hlt
      · omega
      · exact k
    · intro k
      by_cases hle : r.index ≤ q.index
      · exact .inl hle
      · exact .inr (k (by omega))
  unfold patternCheck
  simp only [each]
  rfl

theorem gearFailure_eq : tableFailure .gear bs = ((([0, 13, 26, 39].flatMap fun o =>
    [twoCheck bs 0 2000 o, twoCheck bs 1 2000 (o + 2), (decide (u16At bs o ≤ u16At bs (o + 2)), o + 2),
     twoCheck bs 250 40000 (o + 4), twoCheck bs 1 6000 (o + 6), twoCheck bs 1 300 (o + 8), oneCheck bs 1 50 (o + 10),
     (decide ((byteAt bs (o + 11) % 16 = 1 ∨ byteAt bs (o + 11) % 16 = 2) ∧
       (byteAt bs (o + 11) / 16 = 1 ∨ byteAt bs (o + 11) / 16 = 2)), o + 11), oneCheck bs 1 100 (o + 12)]) ++
    ([0, 13, 26, 39].map fun o =>
      ([0, 13, 26, 39].all fun q => decide (q < o → byteAt bs (q + 11) ≠ byteAt bs (o + 11)), o + 11)) ++
    [oneCheck bs 1 200 52, oneCheck bs 1 50 53, oneCheck bs 1 255 54, oneCheck bs 1 15 55, oneCheck bs 1 50 56,
     oneCheck bs 1 100 57]).find? fun c => !c.1).map Prod.snd := by
  have own : allRanges.flatMap (rangeChecks bs) = [0, 13, 26, 39].flatMap fun o =>
      [twoCheck bs 0 2000 o, twoCheck bs 1 2000 (o + 2), (decide (u16At bs o ≤ u16At bs (o + 2)), o + 2),
       twoCheck bs 250 40000 (o + 4), twoCheck bs 1 6000 (o + 6), twoCheck bs 1 300 (o + 8), oneCheck bs 1 50 (o + 10),
       (decide ((byteAt bs (o + 11) % 16 = 1 ∨ byteAt bs (o + 11) % 16 = 2) ∧
         (byteAt bs (o + 11) / 16 = 1 ∨ byteAt bs (o + 11) / 16 = 2)), o + 11), oneCheck bs 1 100 (o + 12)] := by
    simp only [funext (rangeChecks_eq bs)]
    rfl
  rw [tableFailure, firstFailure_eq_find, ← own]
  congr 1
  show (gearChecks bs).find? _ = _
  unfold gearChecks
  rw [List.append_assoc, List.append_assoc]
  refine find_append_congr fun pass => ?_
  have pattern := funext (patternCheck_eq bs (rangeChecks_pass bs pass))
  rw [pattern]
  simp only [within_eq]
  rfl

theorem clampChecks_eq : clampChecks bs = ([0, 4, 8, 12].flatMap fun o => [oneCheck bs 0 1 o,
     (decide (byteAt bs o = 0 ∨ (1 ≤ byteAt bs (o + 1) ∧ byteAt bs (o + 1) ≤ 100)), o + 1),
     (decide (byteAt bs o = 0 ∨ (1 ≤ byteAt bs (o + 2) ∧ byteAt bs (o + 2) ≤ 100)), o + 2),
     (decide (byteAt bs o = 0 ∨ (1 ≤ byteAt bs (o + 3) ∧ byteAt bs (o + 3) ≤ 15)), o + 3)]) ++
    [oneCheck bs 0 7 16, oneCheck bs 1 64 17, oneCheck bs 1 100 18] := by
  simp only [oneCheck, Bool.decide_and, Bool.decide_or]
  rfl

theorem programChecks_eq : programChecks bs = (List.range 8).flatMap fun p => oneCheck bs 0 6 (37 * p) ::
    ((List.range (min 6 (byteAt bs (37 * p)))).map fun i => 37 * p + 1 + 6 * i).flatMap fun o =>
      [(decide (∀ k < 6, u16At bs o / 4 ^ k % 4 ≠ 3), o), oneCheck bs 0 4 (o + 2),
       (decide (byteAt bs (o + 2) = 0 ∨ (1 ≤ byteAt bs (o + 3) ∧ byteAt bs (o + 3) ≤ 255)), o + 3),
       twoCheck bs 0 6000 (o + 4)] := by
  simp only [List.flatMap_map, programChecks, stepChecks, stepPattern_eq, oneCheck, twoCheck, Bool.decide_and,
    Bool.decide_or]
  rfl

theorem triggerChecks_eq : triggerChecks bs =
    ((List.range 16).map fun k => (decide (byteAt bs k ≤ 7 ∨ byteAt bs k = 255), k)) ++
    [fourCheck bs 0 100000000 16, oneCheck bs 30 60 22, oneCheck bs 1 10 23, oneCheck bs 1 100 24] := by
  simp only [oneCheck, fourCheck, Bool.decide_and, Bool.decide_or]
  rfl

theorem pendantChecks_eq : pendantChecks bs =
    [(decide (byteAt bs 0 = 1 ∨ byteAt bs 0 = 2 ∨ byteAt bs 0 = 4), 0), oneCheck bs 0 1 1, twoCheck bs 1 1000 2,
     twoCheck bs 1 1000 4, twoCheck bs 1 1000 6, twoCheck bs 1 65535 8, fourCheck bs 0 1000000 10,
     fourCheck bs 0 2000000 14] ++ (List.range 16).map fun k => oneCheck bs 0 150 (18 + k) := by
  simp only [oneCheck, twoCheck, fourCheck, Bool.decide_and, Bool.decide_or, ← Bool.or_assoc]
  rfl

theorem inputChecks_eq : inputChecks bs = [oneCheck bs 0 15 0, oneCheck bs 0 15 1, oneCheck bs 0 15 2,
    twoCheck bs 100 6000 3, twoCheck bs 100 6000 5,
    (decide (-500 ≤ s16At bs 7 ∧ s16At bs 7 ≤ 500), 7), twoCheck bs 1 2000 9] := by
  simp only [oneCheck, twoCheck, Bool.decide_and]
  rfl

end

/-! ## The refusals (R164) -/

section
variable {s : State} {b : List Byte} {o : List ClampAxis} {t : TableId}

theorem commitService_of_writing (h : s.store.state = .writing) : commitService b o s = refuse .commit .busy s :=
  if_pos (storing_of_writing h)

theorem commitService_of_not_standby (h : s.store.state ≠ .writing) (hl : s.link.state ≠ .standby) :
    commitService b o s = refuse .commit .wrongState s := by
  unfold commitService
  rw [not_storing h, if_neg nofun, if_pos hl]

theorem commitService_of_unknown (h : s.store.state ≠ .writing) (hl : s.link.state = .standby)
    (ht : tableOfId (byteAt b 0) = none) : commitService b o s = refuse .commit .badParam s := by
  unfold commitService
  rw [not_storing h, if_neg nofun, if_neg (not_not.2 hl), ht]

theorem commitService_of_table (h : s.store.state ≠ .writing) (hl : s.link.state = .standby)
    (ht : tableOfId (byteAt b 0) = some t) : commitService b o s =
      if (crc16 (s.store.staging.get t)).toNat = u16At b 1 then
        (tableFailure t (s.store.staging.get t)).elim (commitTable t (s.store.staging.get t) o s) fun off =>
          answer .commit .badTable (be8 t.index ++ be16 off) s
      else answer .commit .badSignature (be8 t.index ++ be16 (crc16 (s.store.staging.get t)).toNat) s := by
  unfold commitService
  rw [not_storing h, if_neg nofun, if_neg (not_not.2 hl), ht]
  dsimp only
  cases tableFailure t (s.store.staging.get t) <;> rfl

theorem tableOfId_of_large {n : Nat} (h : 7 < n) : tableOfId n = none := by
  obtain ⟨k, rfl⟩ := Nat.exists_eq_add_of_le' (Nat.succ_le_of_lt h)
  rfl

theorem commitTable_named (t : TableId) (sig : BitVec 16) : tableOfId (byteAt (be8 t.index ++ be16 sig.toNat) 0) = some t := by
  rw [byteAt_of_drop (k := 0) rfl t.index_lt, tableOfId_index]

theorem commitSignature_named (t : TableId) (sig : BitVec 16) : u16At (be8 t.index ++ be16 sig.toNat) 1 = sig.toNat :=
  u16At_of_drop (rest := []) rfl sig.isLt

end

/-- Settles O49: the refusals in their order, and the checks table by table. -/
theorem commitRefusalOrder : Obligations.CommitRefusalOrder := by
  refine ⟨fun t sig o s law hoff => ⟨fun id hw => ?_, fun id hw hl => ?_, fun id hw hl hid => ?_, fun hw hl hne => ?_,
    fun off hw hl heq hoff' => ?_⟩, fun t bs => ?_⟩
  · exact served_refuse law hoff ((judged_of_ok rfl _ s).trans (commitService_of_writing hw))
  · exact served_refuse law hoff ((judged_of_ok rfl _ s).trans (commitService_of_not_standby hw hl))
  · exact served_refuse law hoff ((judged_of_ok rfl _ s).trans 
      (commitService_of_unknown (b := id :: be16 sig.toNat) hw hl (tableOfId_of_large (n := id.toNat) hid)))
  · refine served_answer (k := .commit) law hoff ((judged_of_ok (k := .commit) (body := be8 t.index ++ be16 sig.toNat) rfl _ s).trans ?_)
    rw [commitService_of_table hw hl (commitTable_named t sig), commitSignature_named,
      if_neg fun k => hne (BitVec.toNat_inj.1 k)]
  · refine served_answer (k := .commit) law hoff ((judged_of_ok (k := .commit) (body := be8 t.index ++ be16 sig.toNat) rfl _ s).trans ?_)
    rw [commitService_of_table hw hl (commitTable_named t sig), commitSignature_named, if_pos (BitVec.toNat_inj.2 heq),
      hoff']
    rfl
  · cases t
    case envelope => exact tableFailure_of_checks (envelopeChecks_eq bs)
    case compensation => exact tableFailure_of_checks (compensationChecks_eq bs)
    case gear => exact gearFailure_eq bs
    case clamp => exact tableFailure_of_checks (clampChecks_eq bs)
    case programs => exact tableFailure_of_checks (programChecks_eq bs)
    case triggers => exact tableFailure_of_checks (triggerChecks_eq bs)
    case pendant => exact tableFailure_of_checks (pendantChecks_eq bs)
    case inputs => exact tableFailure_of_checks (inputChecks_eq bs)

end Sys2Proof.Machine

/-! # COMMIT: what a passing one does -/

namespace Sys2Proof.Machine

-- Many short proofs that wait for the same case splitters: one after the other they need less memory.
set_option Elab.async false

/-! ## The bank's operations at the sequencer (R110) -/

/-- What decides withheld demand stands. -/
def KeepsDemand (s t : State) : Prop :=
  t.coolant = s.coolant ∧ (t.gear.state = .engaged ↔ s.gear.state = .engaged)

section
variable {s t u : State} {a c : ClampAxis}

theorem KeepsDemand.refl (s : State) : KeepsDemand s s := ⟨rfl, Iff.rfl⟩

theorem KeepsDemand.trans (h : KeepsDemand s t) (k : KeepsDemand t u) : KeepsDemand s u :=
  ⟨k.1.trans h.1, k.2.trans h.2⟩

theorem KeepsDemand.of_within {l : List Part} (h : Within l s t) (hc : Part.coolant ∉ l := by exact of_decide_eq_true rfl)
    (hg : Part.gear ∉ l := by exact of_decide_eq_true rfl) : KeepsDemand s t :=
  ⟨h.same_coolant hc, by rw [h.same_gear hg]⟩

theorem SettledLaw.of_keepsDemand (h : SettledLaw s) (k : KeepsDemand s t) : SettledLaw t := by
  have same : demandNow t = demandNow s := by
    unfold demandNow withholding
    rw [k.1, decide_eq_decide.2 (not_congr k.2)]
  exact ⟨by rw [k.1]; exact h.1, by rw [same, k.1]; exact h.2⟩

theorem beginShift_keepsDemand (s : State) : KeepsDemand s (beginShift s) := by
  unfold beginShift
  split
  · rename_i hs _ _
    exact ⟨rfl, iff_of_false nofun (by rw [hs]; decide)⟩
  · exact .refl s

theorem beginClampTransit_keepsDemand (a : ClampAxis) (s : State) : KeepsDemand s (beginClampTransit a s) := by
  unfold beginClampTransit
  split
  · exact .of_within (setClamp_within a _ _ s)
  · exact .of_within (setClamp_within a _ _ s)
  all_goals exact .refl s

theorem tryGrant_keepsDemand (s : State) : KeepsDemand s (tryGrant s) := by
  rcases tryGrant_cases s with ⟨-, e⟩ | ⟨d, rest, -, -, e⟩
  · exact e.symm ▸ .refl s
  · have popped : KeepsDemand s { s with bank := { s.bank with queue := rest, holder := some d } } := ⟨rfl, Iff.rfl⟩
    rw [e]
    cases d with
    | clamp q => exact popped.trans (beginClampTransit_keepsDemand q _)
    | gearbox => exact popped.trans (beginShift_keepsDemand _)

theorem claim_keepsDemand (d : Claimant) (s : State) : KeepsDemand s (claim d s) := by
  rcases claim_cases d s with ⟨-, e⟩ | ⟨-, -, e⟩
  · exact e.symm ▸ .refl s
  · exact e.symm ▸ tryGrant_keepsDemand { s with bank := { s.bank with queue := s.bank.queue ++ [d] } }

theorem release_keepsDemand (d : Claimant) (s : State) : KeepsDemand s (release d s) := by
  rcases release_cases d s with ⟨-, e⟩ | ⟨-, e⟩
  · exact e.symm ▸ .refl s
  · exact e.symm ▸ tryGrant_keepsDemand { s with bank := { s.bank with holder := none } }

theorem recoverDropped_keepsDemand (order : List ClampAxis) (s : State) : KeepsDemand s (recoverDropped order s) :=
  foldl_keeps (P := KeepsDemand s) (fun t c h => by
    rcases recoverClamp_cases t c with ⟨-, e⟩ | ⟨-, e⟩
    · rwa [e]
    · rw [e]
      exact (h.trans (.of_within (setClamp_within c _ _ t))).trans (claim_keepsDemand _ _)) _ (.refl s)

/-! ## A claimant outside the bank, and one that keeps its claim -/

/-- A claimant neither queued nor holding. -/
def Outside (d : Claimant) (s : State) : Prop := d ∉ s.bank.queue ∧ s.bank.holder ≠ some d

theorem Outside.tryGrant {d : Claimant} (h : Outside d s) : Outside d (tryGrant s) := by
  rcases tryGrant_cases s with ⟨-, e⟩ | ⟨e, rest, -, hq, k⟩
  · rwa [e]
  · obtain ⟨queue, -⟩ := h
    rw [hq, List.mem_cons, not_or] at queue
    rw [k]
    unfold Outside
    rw [beginTransit_bank]
    exact ⟨queue.2, fun hd => queue.1 (Option.some.inj hd).symm⟩

theorem Outside.claim {d e : Claimant} (h : Outside d s) (hne : e ≠ d) : Outside d (claim e s) := by
  rcases claim_cases e s with ⟨-, k⟩ | ⟨-, -, k⟩
  · rwa [k]
  · rw [k]
    refine Outside.tryGrant ⟨?_, h.2⟩
    simpa using ⟨h.1, Ne.symm hne⟩

theorem Outside.recoverDropped (h : Outside (.clamp a) s) (ha : clampInForce s a = false) (order : List ClampAxis) :
    Outside (.clamp a) (recoverDropped order s) := by
  have kept := foldl_keeps (P := fun t => Outside (.clamp a) t ∧ clampInForce t a = false) (f := recoverClamp)
    (fun t c ht => by
      have force : clampInForce (recoverClamp t c) a = clampInForce t a := by
        unfold clampInForce
        rw [activeBytes_congr (recoverClamp_within t c).same_store]
      refine ⟨?_, force.trans ht.2⟩
      rcases recoverClamp_cases t c with ⟨-, e⟩ | ⟨hr, e⟩
      · rw [e]; exact ht.1
      · rw [e]
        refine Outside.claim (s := setClamp c (.clampWait true) (some (dropCeiling t)) t) ht.1 fun k => ?_
        rw [Claimant.clamp.inj k] at hr
        exact absurd ((recoverable_iff.mp hr).2.1.symm.trans ht.2) nofun) (fullClampOrder order) ⟨h, ha⟩
  exact kept.1

/-- A clamp that waits with its claim in the queue, or has been granted the bank. -/
def Claims (a : ClampAxis) (q : ClampSequencer) (s : State) : Prop :=
  (s.clamps.get a = q ∧ .clamp a ∈ s.bank.queue) ∨ s.bank.holder = some (.clamp a)

section
variable {q : ClampSequencer}

theorem Claims.tryGrant (h : Claims a q s) : Claims a q (tryGrant s) := by
  rcases h with ⟨hc, hq⟩ | hh
  · rcases tryGrant_clamp s a with same | ⟨-, -, hh, -⟩
    · rcases tryGrant_cases s with ⟨-, e⟩ | ⟨d, rest, -, hd, e⟩
      · exact .inl ⟨same.trans hc, by rwa [e]⟩
      · rw [hd] at hq
        rcases List.mem_cons.1 hq with rfl | hrest
        · exact .inr (by rw [e, beginTransit_bank])
        · exact .inl ⟨same.trans hc, by rw [e, beginTransit_bank]; exact hrest⟩
    · exact .inr hh
  · exact .inr (by rw [tryGrant_of_holder hh]; exact hh)

theorem Claims.claim (h : Claims a q s) (d : Claimant) : Claims a q (claim d s) := by
  rcases claim_cases d s with ⟨-, e⟩ | ⟨-, -, e⟩
  · rwa [e]
  · rw [e]
    exact Claims.tryGrant (h.imp (fun k => ⟨k.1, List.mem_append_left _ k.2⟩) id)

theorem Claims.recoverDropped (h : Claims a q s) (hq : q.state.waits = true) (order : List ClampAxis) :
    Claims a q (recoverDropped order s) :=
  foldl_keeps (P := Claims a q) (fun t c ht => by
    rcases recoverClamp_cases t c with ⟨-, e⟩ | ⟨hr, e⟩
    · rwa [e]
    · rw [e]
      refine Claims.claim ?_ _
      rcases ht with ⟨hc, hm⟩ | hh
      · have hne : a ≠ c := fun k => by
          have dropped := (recoverable_iff.mp hr).1
          rw [← k, hc] at dropped
          rw [dropped] at hq
          cases hq
        exact .inl ⟨(setClamp_get_ne hne _ _ t).trans hc, hm⟩
      · exact .inr hh) _ h

end

/-- A clamp that recovers waits in the queue, or clamps as the holder. -/
def Recovering (a : ClampAxis) (s : State) : Prop :=
  ((s.clamps.get a).state = .clampWait true ∧ .clamp a ∈ s.bank.queue) ∨
  ((s.clamps.get a).state = .clamping ∧ s.bank.holder = some (.clamp a))

theorem Recovering.tryGrant (h : Recovering a s) : Recovering a (tryGrant s) := by
  rcases h with ⟨hc, hq⟩ | ⟨hc, hh⟩
  · rcases tryGrant_cases s with ⟨-, e⟩ | ⟨d, rest, -, hd, e⟩
    · exact .inl (by rw [e]; exact ⟨hc, hq⟩)
    · by_cases own : d = .clamp a
      · subst own
        refine .inr ⟨?_, by rw [e, beginTransit_bank]⟩
        rw [e]
        show ((beginClampTransit a _).clamps.get a).state = _
        rw [beginClampTransit_of_clampWait (s := { s with bank := { s.bank with queue := rest, holder := _ } }) hc,
          setClamp_get_self]
      · have kept : (Machine.tryGrant s).clamps.get a = s.clamps.get a := by
          rcases tryGrant_clamp s a with k | ⟨-, -, hh, -⟩
          · exact k
          · rw [e, beginTransit_bank] at hh
            exact absurd (Option.some.inj hh) own
        rw [hd] at hq
        exact .inl ⟨by rw [kept]; exact hc, by
          rw [e, beginTransit_bank]
          exact (List.mem_cons.1 hq).resolve_left (Ne.symm own)⟩
  · exact .inr (by rw [tryGrant_of_holder hh]; exact ⟨hc, hh⟩)

theorem Recovering.claim (h : Recovering a s) (d : Claimant) : Recovering a (claim d s) := by
  rcases claim_cases d s with ⟨-, e⟩ | ⟨-, -, e⟩
  · rwa [e]
  · rw [e]
    exact Recovering.tryGrant (h.imp (fun k => ⟨k.1, List.mem_append_left _ k.2⟩) id)

theorem Recovering.recoverClamp (h : Recovering a s) (c : ClampAxis) : Recovering a (recoverClamp s c) := by
  rcases recoverClamp_cases s c with ⟨-, e⟩ | ⟨hr, e⟩
  · rwa [e]
  · have hne : a ≠ c := fun k => by
      have dropped := (recoverable_iff.mp hr).1
      rw [← k] at dropped
      rcases h with ⟨hc, -⟩ | ⟨hc, -⟩
      · exact absurd (hc.symm.trans dropped) nofun
      · exact absurd (hc.symm.trans dropped) nofun
    rw [e]
    refine Recovering.claim ?_ _
    unfold Recovering at h ⊢
    rw [setClamp_get_ne hne]
    exact h

/-- At its turn a clamp outside the bank begins its recovery. -/
theorem recoverClamp_recovering (h : recoverable s a = true) (ho : Outside (.clamp a) s) :
    Recovering a (recoverClamp s a) := by
  rcases recoverClamp_cases s a with ⟨k, -⟩ | ⟨-, e⟩
  · rw [h] at k
    cases k
  · rw [e]
    have own := setClamp_get_self a (.clampWait true) (some (dropCeiling s)) s
    rcases claim_cases (.clamp a) (setClamp a (.clampWait true) (some (dropCeiling s)) s) with ⟨k, -⟩ | ⟨-, -, k⟩
    · exact absurd k (not_or.2 ho)
    · rw [k]
      exact Recovering.tryGrant (.inl ⟨by
        show (((setClamp a (.clampWait true) (some (dropCeiling s)) s).clamps).get a).state = _
        rw [own], List.mem_append_right _ (List.mem_singleton.2 rfl)⟩)

theorem recoverDropped_recovering (order : List ClampAxis) (h : recoverable s a = true) (ho : Outside (.clamp a) s) :
    Recovering a (recoverDropped order s) := by
  have after (l : List ClampAxis) {t : State} (ht : Recovering a t) : Recovering a (l.foldl Machine.recoverClamp t) :=
    foldl_keeps (fun _ c hr => hr.recoverClamp c) l ht
  have before : ∀ (l : List ClampAxis) {t : State}, recoverable t a = true → Outside (.clamp a) t → a ∈ l →
      Recovering a (l.foldl Machine.recoverClamp t) := by
    intro l
    induction l with
    | nil => nofun
    | cons c l ih =>
      intro t hr hout ha
      by_cases hc : c = a
      · subst hc
        exact after l (recoverClamp_recovering hr hout)
      · have idle : (t.clamps.get a).state.waits = false := by rw [(recoverable_iff.mp hr).1]; rfl
        have kept := recoverClamp_of_not_waiting (c := c) idle (.inl hc)
        refine ih ((recoverable_congr (recoverClamp_within t c) kept).trans hr) ?_ ((List.mem_cons.1 ha).resolve_left (Ne.symm hc))
        rcases recoverClamp_cases t c with ⟨-, e⟩ | ⟨-, e⟩
        · rwa [e]
        · rw [e]
          exact Outside.claim (s := setClamp c (.clampWait true) (some (dropCeiling t)) t) hout
            fun k => hc (Claimant.clamp.inj k)
  exact before _ h ho (mem_fullClampOrder order a)

/-! ## COMMIT of the clamp and hydraulic table (R83) -/

/-- The sequencers and the arbiter before the dropped clamps recover. -/
def absentReleased (u : State) : State :=
  match u.bank.holder with
  | some (.clamp a) => if clampAbsent u a then release (.clamp a) u else u
  | some .gearbox | none => u

theorem absentReleased_cases (u : State) : absentReleased u = u ∧ (∀ a, clampAbsent u a = true → u.bank.holder ≠ some (.clamp a)) ∨
    ∃ a, u.bank.holder = some (.clamp a) ∧ clampAbsent u a = true ∧
      absentReleased u = tryGrant { u with bank := { u.bank with holder := none } } := by
  unfold absentReleased
  split
  · rename_i a ha
    split
    · rename_i habs
      exact .inr ⟨a, ha, habs, if_pos ha⟩
    · rename_i habs
      exact .inl ⟨rfl, fun _ hb k => habs (Claimant.clamp.inj (Option.some.inj (ha.symm.trans k)) ▸ hb)⟩
  · rename_i ha
    exact .inl ⟨rfl, fun _ _ k => absurd (ha.symm.trans k) nofun⟩
  · rename_i ha
    exact .inl ⟨rfl, fun _ _ k => absurd (ha.symm.trans k) nofun⟩

theorem absentReleased_keepsDemand (u : State) : KeepsDemand u (absentReleased u) := by
  rcases absentReleased_cases u with ⟨e, -⟩ | ⟨a, -, -, e⟩
  · exact e.symm ▸ .refl u
  · exact e.symm ▸ tryGrant_keepsDemand { u with bank := { u.bank with holder := none } }

theorem absentReleased_within (u : State) : Within bankParts u (absentReleased u) := by
  rcases absentReleased_cases u with ⟨e, -⟩ | ⟨a, -, -, e⟩
  · exact .of_eq _ e
  · exact e.symm ▸ ((within_bank u _).comp (tryGrant_within _)).mono (by decide)

theorem absentReleased_outside (h : .clamp a ∉ u.bank.queue) (ha : clampAbsent u a = true) :
    Outside (.clamp a) (absentReleased u) := by
  rcases absentReleased_cases u with ⟨e, k⟩ | ⟨-, -, -, e⟩
  · rw [e]; exact ⟨h, k a ha⟩
  · rw [e]; exact Outside.tryGrant ⟨h, nofun⟩

theorem Outside.absentReleased {d : Claimant} (h : Outside d u) : Outside d (absentReleased u) := by
  rcases absentReleased_cases u with ⟨e, -⟩ | ⟨-, -, -, e⟩
  · rwa [e]
  · rw [e]; exact Outside.tryGrant ⟨h.1, nofun⟩

theorem absentReleased_claims {q : ClampSequencer} (hc : u.clamps.get a = q) (hq : .clamp a ∈ u.bank.queue) :
    Claims a q (absentReleased u) := by
  rcases absentReleased_cases u with ⟨e, -⟩ | ⟨-, -, -, e⟩
  · rw [e]; exact .inl ⟨hc, hq⟩
  · rw [e]; exact Claims.tryGrant (.inl ⟨hc, hq⟩)

theorem absentReleased_clamp (h : (u.clamps.get a).state.waits = false) :
    (absentReleased u).clamps.get a = u.clamps.get a := by
  rcases absentReleased_cases u with ⟨e, -⟩ | ⟨-, -, -, e⟩
  · rw [e]
  · rw [e]
    rcases tryGrant_clamp { u with bank := { u.bank with holder := none } } a with k | ⟨k, -⟩
    · exact k
    · exact absurd (h.symm.trans k) nofun

theorem tryGrant_disagree (s : State) : (tryGrant s).bank.disagree = s.bank.disagree := by
  rcases tryGrant_cases s with ⟨-, e⟩ | ⟨d, rest, -, -, e⟩
  · rw [e]
  · rw [e, beginTransit_bank]

theorem absentReleased_watch (u : State) : (absentReleased u).bank.disagree = u.bank.disagree ∧
    (absentReleased u).bank.pressureOk = u.bank.pressureOk := by
  rcases absentReleased_cases u with ⟨e, -⟩ | ⟨-, -, -, e⟩
  · rw [e]; exact ⟨rfl, rfl⟩
  · rw [e, tryGrant_disagree, tryGrant_pressureOk]; exact ⟨rfl, rfl⟩

theorem recoverDropped_disagree (order : List ClampAxis) (s : State) :
    (recoverDropped order s).bank.disagree = s.bank.disagree :=
  foldl_keeps (P := fun t => t.bank.disagree = s.bank.disagree) (fun t c h => by
    rcases recoverClamp_cases t c with ⟨-, e⟩ | ⟨-, e⟩
    · rwa [e]
    · rw [e]
      rcases claim_cases (.clamp c) (setClamp c (.clampWait true) (some (dropCeiling t)) t) with ⟨-, k⟩ | ⟨-, -, k⟩
      · rw [k]; exact h
      · rw [k, tryGrant_disagree]; exact h) _ rfl

theorem clampTableCommitted_eq_recover (old : Option (List Byte)) (order : List ClampAxis) (s : State) :
    clampTableCommitted old order s = recoverDropped order (absentReleased (clampsCommitted old s)) := by
  rw [clampTableCommitted_eq]
  congr 1

theorem clampTableCommitted_keepsDemand (old : Option (List Byte)) (order : List ClampAxis) (s : State) :
    KeepsDemand s (clampTableCommitted old order s) := by
  rw [clampTableCommitted_eq_recover]
  exact ((KeepsDemand.of_within (clampsCommitted_within old s)).trans (absentReleased_keepsDemand _)).trans
    (recoverDropped_keepsDemand order _)

/-- A clamp whose committed state does not wait, and is not to recover, has it after the COMMIT. -/
theorem clampTableCommitted_clamp {old : Option (List Byte)} {order : List ClampAxis}
    (hw : ((clampsCommitted old s).clamps.get a).state.waits = false)
    (hd : ((clampsCommitted old s).clamps.get a).state ≠ .dropped) :
    (clampTableCommitted old order s).clamps.get a = (clampsCommitted old s).clamps.get a := by
  have same := absentReleased_clamp hw
  rw [clampTableCommitted_eq_recover, recoverDropped_of_not_waiting order (by rw [same]; exact hw), same]
  rw [Bool.eq_false_iff]
  intro k
  exact hd (same ▸ (recoverable_iff.mp k).1)

theorem clampsCommitted_get (old : Option (List Byte)) (s : State) (a : ClampAxis) :
    (clampsCommitted old s).clamps.get a =
      committedClamp (old.map (clampRecordPresent · a)) (clampInForce s a) (s.seen.reading.get a) (s.clamps.get a) := by
  have w := foldl_within dropAbsentClaim_within allClamps s
  have hf : clampInForce (allClamps.foldl dropAbsentClaim s) a = clampInForce s a := by
    unfold clampInForce
    rw [activeBytes_congr w.same_store]
  unfold clampsCommitted
  dsimp only
  rw [PerClamp.get_of, hf, w.same_clamps, w.same_seen]

end

end Sys2Proof.Machine

/-! # COMMIT: each table's effects, and no others -/

namespace Sys2Proof.Machine

-- Many short proofs that wait for the same case splitters: one after the other they need less memory.
set_option Elab.async false

section
variable {s : State} {bs : List Byte} {o : List ClampAxis} {t : TableId}

/-! ## The owners' effects, the new copy in place (R61, R107, R128, R130, R146) -/

theorem compensationCommitted_comp (hb : activeBytes s .compensation = some bs) :
    (compensationCommitted s).comp = { s.comp with
      applied := 0, windowSum := 0, windowCount := 0, windowFaulted := false, hardFirst := true, lastMeasurement := none,
      updates := updatesOf (compRestart bs), droop := droopAt bs s.seen.out.w } := by
  obtain ⟨u, hu⟩ : ∃ u, u = discardWindow s := ⟨_, rfl⟩
  have ub : activeBytes u .compensation = some bs := by rw [hu]; exact hb
  unfold compensationCommitted
  rw [← hu]
  dsimp only
  rw [growthTrigger_of_active (s := { u with comp := { u.comp with applied := 0, lastMeasurement := none } }) ub,
    droopWork_of_some (s := { u with comp := { u.comp with
      applied := 0, lastMeasurement := none, updates := updatesOf (compRestart bs)
      hardFirst := u.comp.hardFirst || true } }) ub, hu, Bool.or_true]
  rfl

theorem triggersCommitted_coolant (hb : activeBytes s .triggers = some bs) (hl : s.link.state = .standby) :
    (triggersCommitted s).coolant = { s.coolant with
      travel := min (2 * lubeDistance bs) s.coolant.travel
      lube := if lubeInterval bs = 0 then .stopped else .running (lubeInterval bs) } := by
  have works : coolantWorks s = true := (coolantWorks_iff s).2 (by rw [hl]; exact ⟨nofun, nofun⟩)
  have started : startLube s = { s with coolant := { s.coolant with
      lube := if lubeInterval bs = 0 then .stopped else .running (lubeInterval bs) } } := by
    unfold startLube
    rw [hb, works]
    rfl
  unfold triggersCommitted
  dsimp only
  rw [started, show activeBytes { s with coolant := { s.coolant with
    lube := if lubeInterval bs = 0 then .stopped else .running (lubeInterval bs) } } .triggers = some bs from hb]

theorem overrideAfter_of_active (hb : activeBytes s .pendant = some bs) (entry : List Byte → Fin 16 → Nat)
    (band : Option (Fin 16)) (old : Nat) : overrideAfter s entry band old = band.elim old fun k => entry bs k := by
  unfold overrideAfter
  rw [hb]
  cases band <;> rfl

/-! ### The gear table (R107) -/

/-- A change given up at a COMMIT, before the range is read. -/
def changeAbandoned (s : State) : State :=
  withdraw .gearbox { s with gear := { stopGearTimers s.gear with target := none, next := none, output := 0 } }

theorem gearCommitted_cases (s : State) :
    (s.gear.state = .shifting ∧ gearCommitted s = release .gearbox (reevaluate (changeAbandoned s))) ∨
    ((s.gear.state = .engaged ∨ s.gear.state = .unknown) ∧ gearCommitted s = reevaluateKeeping s) ∨
    (s.gear.state ≠ .shifting ∧ s.gear.state ≠ .engaged ∧ s.gear.state ≠ .unknown ∧ gearCommitted s = s) := by
  unfold gearCommitted
  cases s.gear.state
  case shifting => exact .inl ⟨rfl, rfl⟩
  case engaged => exact .inr (.inl ⟨.inl rfl, rfl⟩)
  case unknown => exact .inr (.inl ⟨.inr rfl, rfl⟩)
  all_goals exact .inr (.inr ⟨nofun, nofun, nofun, rfl⟩)

/-- The gearbox re-evaluated, a range already engaged being kept. -/
def gearKept (s : State) : Gearbox :=
  if shownRange s = none then { s.gear with state := .unknown, engaged := none, output := 0 }
  else if s.gear.state = .engaged ∧ s.gear.engaged = shownRange s then s.gear
  else { s.gear with state := .engaged, engaged := shownRange s, interlock := true }

theorem reevaluateKeeping_eq (s : State) : reevaluateKeeping s = { s with gear := gearKept s } := by
  unfold reevaluateKeeping gearKept
  cases shownRange s with
  | none => rfl
  | some r =>
    simp only [reduceCtorEq, if_false]
    split <;> rfl

/-- A grant outside VALVE_WAIT does not reach the gearbox. -/
theorem tryGrant_gear (h : s.gear.state ≠ .valveWait) : (tryGrant s).gear = s.gear := by
  rcases tryGrant_cases s with ⟨-, e⟩ | ⟨d, rest, -, -, e⟩
  · rw [e]
  · rw [e]
    cases d with
    | clamp a =>
      show (beginClampTransit a _).gear = _
      unfold beginClampTransit
      split <;> rfl
    | gearbox =>
      show (beginShift _).gear = _
      unfold beginShift
      split
      · rename_i hs _ _
        exact absurd hs h
      · rfl

theorem release_gear (d : Claimant) (h : s.gear.state ≠ .valveWait) : (release d s).gear = s.gear := by
  rcases release_cases d s with ⟨-, e⟩ | ⟨-, e⟩
  · rw [e]
  · rw [e]
    exact tryGrant_gear (s := { s with bank := { s.bank with holder := none } }) h

theorem reevaluate_changeAbandoned (s : State) : reevaluate (changeAbandoned s) = { s with
    gear := { s.gear with
      target := none, next := none, output := 0, drainCeiling := none, shiftCeiling := none, wiggle := none,
      engaged := shownRange s, state := if shownRange s = none then .unknown else .engaged
      interlock := if shownRange s = none then s.gear.interlock else true }
    bank := { s.bank with queue := s.bank.queue.erase .gearbox } } := by
  have same : shownRange (changeAbandoned s) = shownRange s := shownRange_congr rfl rfl
  cases h : shownRange s with
  | none => rw [reevaluate_of_none (same.trans h)]; rfl
  | some q => rw [reevaluate_of_shown (same.trans h)]; rfl

theorem gearCommitted_of_shifting (h : s.gear.state = .shifting) :
    (gearCommitted s).gear = { s.gear with
      target := none, next := none, output := 0, drainCeiling := none, shiftCeiling := none, wiggle := none,
      engaged := shownRange s, state := if shownRange s = none then .unknown else .engaged
      interlock := if shownRange s = none then s.gear.interlock else true } := by
  rcases gearCommitted_cases s with ⟨-, e⟩ | ⟨k, -⟩ | ⟨k, -⟩
  · rw [e, release_gear]
    · rw [reevaluate_changeAbandoned]
    · rw [reevaluate_changeAbandoned]
      dsimp only
      split <;> nofun
  · rw [h] at k
    exact absurd k (by decide)
  · exact absurd h k

theorem gearCommitted_bank_of_shifting (h : s.gear.state = .shifting) (hh : s.bank.holder = some .gearbox)
    (hq : s.bank.queue = []) :
    (gearCommitted s).bank = { s.bank with holder := none } ∧ (gearCommitted s).clamps = s.clamps := by
  have kept : s.bank.queue.erase .gearbox = s.bank.queue := by rw [hq]; rfl
  rcases gearCommitted_cases s with ⟨-, e⟩ | ⟨k, -⟩ | ⟨k, -⟩
  · rw [e, reevaluate_changeAbandoned, kept, release_of_last]
    · exact ⟨rfl, rfl⟩
    · exact hh
    · exact hq
  · rw [h] at k
    exact absurd k (by decide)
  · exact absurd h k

theorem gearCommitted_of_settled (h : s.gear.state = .engaged ∨ s.gear.state = .unknown) :
    gearCommitted s = { s with gear := gearKept s } := by
  rw [← reevaluateKeeping_eq]
  rcases gearCommitted_cases s with ⟨k, -⟩ | ⟨-, e⟩ | ⟨-, k, k', -⟩
  · rw [k] at h
    exact absurd h (by decide)
  · exact e
  · exact absurd h (not_or.2 ⟨k, k'⟩)

theorem gearCommitted_of_fault (h : s.gear.state = .fault) : gearCommitted s = s := by
  unfold gearCommitted
  rw [h]

theorem gearCommitted_bank (h : s.gear.state ≠ .shifting) :
    (gearCommitted s).clamps = s.clamps ∧ (gearCommitted s).bank = s.bank := by
  rcases gearCommitted_cases s with ⟨k, -⟩ | ⟨-, e⟩ | ⟨-, -, -, e⟩
  · exact absurd k h
  · rw [e, reevaluateKeeping_eq]
    exact ⟨rfl, rfl⟩
  · rw [e]
    exact ⟨rfl, rfl⟩

/-! ### Withheld demand after a COMMIT of the gear table (R111) -/

theorem settleTriggers_settleDemand (order : List TriggerSource) (s : State) :
    settleTriggers order (settleDemand s) = settleTriggers order s := by
  have again : settleDemand (settleDemand s) = settleDemand s := settleDemand_eq_self (settleDemand_withheld s)
  unfold settleTriggers
  rw [again]

/-- Without an onset the sequencer only notes what stands. -/
theorem settleTriggers_of_no_onset (ha : s.coolant.announced = []) (h : demandNow s = true → s.coolant.withheld = true)
    (order : List TriggerSource) :
    settleTriggers order s = { s with coolant := { s.coolant with withheld := demandNow s } } := by
  rw [settleTriggers_of_withheld h]
  exact settleTriggers_eq_self order ⟨ha, rfl⟩

theorem settleTriggers_of_onset (hd : demandNow s = true) (hw : s.coolant.withheld = false) (order : List TriggerSource) :
    isRaised .tscWithheld (settleTriggers order s) = true := by
  rw [← settleTriggers_settleDemand]
  refine (settleTriggers_grows order _).raised _ ?_
  unfold settleDemand
  rw [hd, hw]
  exact isRaised_raise_self .tscWithheld { s with coolant := { s.coolant with withheld := true } }

theorem gearCommitted_shown (s : State) : shownRange (gearCommitted s) = shownRange s := by
  rcases gearCommitted_cases s with ⟨-, e⟩ | ⟨-, e⟩ | ⟨-, -, -, e⟩
  · rw [e]
    exact (abandonChange_keepsForks s).shown
  · rw [e]
    exact (reevaluateKeeping_keepsForks s).shown
  · rw [e]

/-! ## A passing COMMIT as a command (R164, R165) -/

/-- The staging copy in place as the active one. -/
def activated (t : TableId) (s : State) : State := setActive t (imageOf (s.store.staging.get t)) s

/-- A passing COMMIT, before what it announces is taken. -/
def committed (t : TableId) (o : List ClampAxis) (s : State) : State := commitTable t (s.store.staging.get t) o s

theorem committed_eq (t : TableId) (o : List ClampAxis) (s : State) : committed t o s =
    answer .commit .ok (be8 t.index ++ be16 (crc16 (s.store.staging.get t)).toNat)
      (commitEffects t (activeBytes s t) o (activated t s)) := rfl

theorem committed_within (t : TableId) (o : List ClampAxis) (s : State) :
    Within [.comp, .clamps, .bank, .gear, .coolant, .pendant, .sent] (activated t s) (committed t o s) :=
  (commitEffects_within t _ o _).comp (answer_within _ _ _ _)

theorem committed_of_effects (t : TableId) (o : List ClampAxis) (s : State) :
    Within [.sent] (commitEffects t (activeBytes s t) o (activated t s)) (committed t o s) := answer_within _ _ _ _

theorem exec_commit (hl : s.link.state = .standby) (hw : s.store.state ≠ .writing)
    (hf : tableFailure t (s.store.staging.get t) = none) :
    exec (.commit (be8 t.index ++ be16 (crc16 (s.store.staging.get t)).toNat) o) s =
      .next (settleTriggers [] (committed t o s)) := by
  refine (served_of_online (by rw [hl]; decide) _).trans ?_
  rw [show blockService .commit (be8 t.index ++ be16 (crc16 (s.store.staging.get t)).toNat) o s = committed t o s from ?_]
  · rfl
  · refine (judged_of_ok (k := .commit) rfl _ s).trans ?_
    rw [commitService_of_table hw hl (commitTable_named t _), commitSignature_named, if_pos rfl, hf]
    rfl

theorem activeBytes_activated (t : TableId) (s : State) : activeBytes (activated t s) t = some (s.store.staging.get t) :=
  activeBytes_setActive_self t _ s

theorem commitEffects_keepsDemand (ht : t ≠ .gear) (old : Option (List Byte)) (law : SettledLaw s) :
    SettledLaw (commitEffects t old o s) := by
  cases t
  case gear => exact absurd rfl ht
  case compensation => exact law.of_keepsDemand (.of_within (compensationCommitted_within s))
  case clamp => exact law.of_keepsDemand (clampTableCommitted_keepsDemand old o s)
  case programs => exact ⟨law.1, law.2⟩
  case triggers =>
    show SettledLaw (triggersCommitted s)
    unfold triggersCommitted
    dsimp only
    split
    · exact ⟨law.1, law.2⟩
    · exact ⟨law.1, law.2⟩
  case pendant => exact law.withPendant _
  all_goals exact law

theorem committed_settled (ht : t ≠ .gear) (law : SettledLaw s) : SettledLaw (committed t o s) :=
  (commitEffects_keepsDemand ht _ (law.withStore _)).answer _ _ _

/-- What stands after a passing COMMIT of the gear table, however the sequencer reacts. -/
theorem settled_committed_shown : shownRange (settleTriggers [] (committed .gear o s)) = shownRange (activated .gear s) := by
  have w : Within [.sent, .coolant, .flags] (gearCommitted (activated .gear s)) (settleTriggers [] (committed .gear o s)) :=
    (committed_of_effects .gear o s).comp (settleTriggers_within [] _)
  rw [shownRange_congr (by rw [w.same_gear]) (activeBytes_congr w.same_store .gear), gearCommitted_shown]

end

/-! ## The clamps after a passing COMMIT of their table -/

section
variable {s : State} {o : List ClampAxis} {a : ClampAxis}

/-- The sequencers of a COMMIT before an ABSENT holder gives up the bank and the dropped recover. -/
def clampsBegun (s : State) : State := clampsCommitted (activeBytes s .clamp) (activated .clamp s)

/-- The state of a passing COMMIT of the clamp and hydraulic table, less its answer. -/
def clampsActivated (o : List ClampAxis) (s : State) : State := recoverDropped o (absentReleased (clampsBegun s))

theorem clampEffects_eq (o : List ClampAxis) (s : State) :
    commitEffects .clamp (activeBytes s .clamp) o (activated .clamp s) = clampsActivated o s :=
  clampTableCommitted_eq_recover _ o _

theorem clampsBegun_within (s : State) : Within [.clamps, .bank] (activated .clamp s) (clampsBegun s) :=
  clampsCommitted_within _ _

theorem clampsActivated_within (o : List ClampAxis) (s : State) : Within bankParts (clampsBegun s) (clampsActivated o s) :=
  (absentReleased_within _).trans (recoverDropped_within o _)

theorem clampInForce_congr {u t : State} (h : t.store = u.store) (a : ClampAxis) : clampInForce t a = clampInForce u a := by
  unfold clampInForce
  rw [activeBytes_congr h]

theorem clampsActivated_store (o : List ClampAxis) (s : State) : (clampsActivated o s).store = (activated .clamp s).store :=
  (clampsActivated_within o s).same_store.trans (clampsBegun_within s).same_store

/-- An ABSENT clamp is not in force. -/
theorem clampInForce_of_absent {u : State} (h : clampAbsent u a = true) : clampInForce u a = false := by
  obtain ⟨bs, hb, hp⟩ := clampAbsent_iff.1 h
  unfold clampInForce
  rw [hb]
  exact hp

theorem clampAbsent_of_inForce {u : State} (h : clampInForce u a = true) : clampAbsent u a = false := by
  rw [Bool.eq_false_iff]
  intro k
  exact absurd (h.symm.trans (clampInForce_of_absent k)) nofun

/-- The clamps begin as R83 says, by the record before and after. -/
theorem clampsBegun_get (hf : clampInForce (clampsActivated o s) a = true) : (clampsBegun s).clamps.get a =
    committedClamp ((activeBytes s .clamp).map (clampRecordPresent · a)) true (s.seen.reading.get a) (s.clamps.get a) := by
  have force : clampInForce (activated .clamp s) a = true :=
    (clampInForce_congr (clampsActivated_store o s) a).symm.trans hf
  exact (clampsCommitted_get _ _ a).trans (by rw [force]; rfl)

theorem recordBefore_of_inForce (h : clampInForce s a = true) :
    (activeBytes s .clamp).map (clampRecordPresent · a) = some true := by
  obtain ⟨bs, hb, hp⟩ := clampInForce_iff.1 h
  rw [hb, Option.map_some, hp]

theorem recordBefore_of_absent (h : clampAbsent s a = true) :
    (activeBytes s .clamp).map (clampRecordPresent · a) = some false := by
  obtain ⟨bs, hb, hp⟩ := clampAbsent_iff.1 h
  rw [hb, Option.map_some, hp]

theorem recordBefore_of_none (h : s.store.active.clamp = none) :
    (activeBytes s .clamp).map (clampRecordPresent · a) = none := by
  rw [activeBytes_of_none (t := .clamp) h]
  rfl

/-- A clamp that neither waits nor is dropped as the COMMIT begins stays so. -/
theorem clampsActivated_get (hw : ((clampsBegun s).clamps.get a).state.waits = false)
    (hd : ((clampsBegun s).clamps.get a).state ≠ .dropped) :
    (clampsActivated o s).clamps.get a = (clampsBegun s).clamps.get a := by
  have same := clampTableCommitted_clamp (order := o) hw hd
  rwa [clampTableCommitted_eq_recover] at same

/-- A clamp that is ABSENT afterwards is out of the bank. -/
theorem clampsActivated_outside (hn : s.bank.queue.Nodup) (h : clampAbsent (clampsActivated o s) a = true) :
    Outside (.clamp a) (clampsActivated o s) := by
  have begun : clampAbsent (clampsBegun s) a = true := (clampAbsent_congr (clampsActivated_within o s).same_store a).symm.trans h
  have active : clampAbsent (activated .clamp s) a = true := (clampAbsent_congr (clampsBegun_within s).same_store a).symm.trans begun
  have queue : .clamp a ∉ (clampsBegun s).bank.queue := fun k =>
    ((mem_clampsCommitted (s := activated .clamp s) hn (.clamp a)).2.1 k).2 a active rfl
  refine Outside.recoverDropped (absentReleased_outside queue begun) ?_ o
  exact (clampInForce_congr (absentReleased_within _).same_store a).trans (clampInForce_of_absent begun)

/-- A clamp that waits keeps its claim, or is granted the bank. -/
theorem clampsActivated_claims (law : BankLaw s) (hs : clampInForce s a = true) (hu : clampInForce (clampsActivated o s) a = true)
    (hw : (s.clamps.get a).state.waits = true) : Claims a (s.clamps.get a) (clampsActivated o s) := by
  obtain ⟨nodup, queued, -⟩ := law
  have kept : (clampsBegun s).clamps.get a = s.clamps.get a := by
    rw [clampsBegun_get hu, recordBefore_of_inForce hs]
    rfl
  refine Claims.recoverDropped (absentReleased_claims kept ?_) hw o
  refine (mem_clampsCommitted (s := activated .clamp s) nodup (.clamp a)).2.2 ⟨(queued _).2 hw, fun _ hb k => ?_⟩
  have force := (clampInForce_congr (clampsActivated_store o s) a).symm.trans hu
  rw [← Claimant.clamp.inj k, clampAbsent_of_inForce force] at hb
  exact absurd hb nofun

/-- A clamp that the COMMIT finds or leaves DROPPED recovers. -/
theorem clampsActivated_recovering (law : BankLaw s) (hl : s.link.state = .standby)
    (hd : ((clampsBegun s).clamps.get a).state = .dropped) (hs : (s.clamps.get a).state.waits = false)
    (ht : (s.clamps.get a).state.transits = false) (hu : clampInForce (clampsActivated o s) a = true)
    (hg : s.inputs.clampsDelivered = true) : Recovering a (clampsActivated o s) := by
  obtain ⟨nodup, queued, held⟩ := law
  have out : Outside (.clamp a) (clampsBegun s) := by
    refine ⟨fun k => ?_, fun k => ?_⟩
    · have member := ((mem_clampsCommitted (s := activated .clamp s) nodup (.clamp a)).2.1 k).1
      exact absurd (hs.symm.trans ((queued (.clamp a)).1 member)) nofun
    · rw [show (clampsBegun s).bank.holder = s.bank.holder from clampsCommitted_holder] at k
      exact absurd (ht.symm.trans ((held (.clamp a)).1 k)) nofun
  have same := absentReleased_clamp (u := clampsBegun s) (a := a) (by rw [hd]; rfl)
  have w := absentReleased_within (clampsBegun s)
  refine recoverDropped_recovering o (recoverable_iff.2 ⟨by rw [same]; exact hd, ?_, ?_, ?_⟩) out.absentReleased
  · rw [clampInForce_congr w.same_store, ← clampInForce_congr (clampsActivated_within o s).same_store]
    exact hu
  · rw [w.same_link, (clampsBegun_within s).same_link, show (activated .clamp s).link = s.link from rfl, hl]
    rfl
  · rw [w.same_inputs, (clampsBegun_within s).same_inputs]
    exact hg

end

end Sys2Proof.Machine

/-! # COMMIT activates the staging copy (R165) -/

namespace Sys2Proof.Machine

-- Many short proofs that wait for the same case splitters: one after the other they need less memory.
set_option Elab.async false

section
variable {s : State} {o : List ClampAxis}

/-- The gear table's clauses. -/
theorem commit_gear (law : SettledLaw s) {u : State} (hu : u = settleTriggers [] (committed .gear o s)) :
    (s.gear.state = .engaged ∨ s.gear.state = .unknown → u.gear =
      (if shownRange u = none then { s.gear with state := .unknown, engaged := none, output := 0 }
        else if s.gear.state = .engaged ∧ s.gear.engaged = shownRange u then s.gear
        else { s.gear with state := .engaged, engaged := shownRange u, interlock := true })) ∧
    (s.gear.state = .shifting → u.gear = { s.gear with
        target := none, next := none, output := 0, drainCeiling := none, shiftCeiling := none, wiggle := none
        engaged := shownRange u
        state := if shownRange u = none then .unknown else .engaged
        interlock := if shownRange u = none then s.gear.interlock else true }) ∧
    (s.gear.state = .shifting → s.bank.holder = some .gearbox → s.bank.queue = [] →
      u.bank = { s.bank with holder := none } ∧ u.clamps = s.clamps) ∧
    (s.gear.state = .fault → u.gear = s.gear) ∧
    (s.gear.state ≠ .shifting → u.clamps = s.clamps ∧ u.bank = s.bank) ∧
    (s.coolant.withheld = true ∨ s.coolant.requested.tscPump = false ∨
        (u.gear.state = .engaged ∧ s.coolant.tank = .inactive) →
      u.coolant = { s.coolant with withheld := demandNow u } ∧ u.flags = s.flags) ∧
    (s.coolant.withheld = false → s.coolant.requested.tscPump = true →
        ¬ (u.gear.state = .engaged ∧ s.coolant.tank = .inactive) →
      isRaised .tscWithheld u = true) := by
  obtain ⟨v, hv⟩ : ∃ v, v = activated .gear s := ⟨_, rfl⟩
  have shown : shownRange u = shownRange v := by rw [hu, hv]; exact settled_committed_shown
  have w : Within [.sent, .coolant, .flags] (gearCommitted v) u := by
    rw [hu, hv]
    exact (committed_of_effects .gear o s).comp (settleTriggers_within [] _)
  have effects : Within bankParts v (gearCommitted v) := gearCommitted_within v
  have coolant : (committed .gear o s).coolant = s.coolant := by
    rw [(committed_of_effects .gear o s).same_coolant]
    exact (gearCommitted_within _).same_coolant
  have gear : u.gear = (committed .gear o s).gear := by rw [hu, (settleTriggers_within [] _).same_gear]
  have demand : demandNow (committed .gear o s) = true ↔
      s.coolant.requested.tscPump = true ∧ ¬ (u.gear.state = .engaged ∧ s.coolant.tank = .inactive) := by
    unfold demandNow withholding
    rw [coolant, ← gear]
    simp only [Bool.and_eq_true, Bool.or_eq_true, decide_eq_true_eq, not_and_or, ne_eq]
  rw [shown, w.same_gear, w.same_bank, w.same_clamps]
  subst hv
  refine ⟨fun h => ?_, fun h => gearCommitted_of_shifting (s := activated .gear s) h,
    fun h => gearCommitted_bank_of_shifting (s := activated .gear s) h, fun h => ?_,
    fun h => gearCommitted_bank (s := activated .gear s) h, fun h => ?_, fun hw hp hn => ?_⟩
  · rw [gearCommitted_of_settled (s := activated .gear s) h]
    rfl
  · rw [gearCommitted_of_fault (s := activated .gear s) h]
    rfl
  · rw [← w.same_gear] at h
    have quiet : demandNow (committed .gear o s) = true → (committed .gear o s).coolant.withheld = true := by
      intro hd
      obtain ⟨pump, tank⟩ := demand.1 hd
      rw [coolant]
      rcases h with h | h | h
      · exact h
      · exact absurd (pump.symm.trans h) nofun
      · exact absurd h tank
    have e := settleTriggers_of_no_onset (by rw [coolant]; exact law.1) quiet []
    have same : demandNow u = demandNow (committed .gear o s) := by
      rw [hu, e]
      rfl
    rw [same, hu, e]
    refine ⟨by rw [coolant], ?_⟩
    exact (committed_of_effects .gear o s).same_flags.trans effects.same_flags
  · rw [← w.same_gear] at hn
    rw [hu]
    exact settleTriggers_of_onset (demand.2 ⟨hp, hn⟩) (by rw [coolant]; exact hw) []

/-- The clamp and hydraulic table's clauses, for the state before the answer. -/
theorem commit_clamp (bank : BankLaw s) (absent : AbsentLaw s) (hl : s.link.state = .standby) {u : State}
    (hc : u.clamps = (clampsActivated o s).clamps) (hb : u.bank = (clampsActivated o s).bank)
    (hs : u.store = (clampsActivated o s).store) :
    u.bank.disagree = 0 ∧ u.bank.pressureOk = s.bank.pressureOk ∧
    ∀ a, (clampAbsent u a = true → .clamp a ∉ u.bank.queue ∧ u.bank.holder ≠ some (.clamp a)) ∧
      (clampInForce s a = true → clampInForce u a = true → (s.clamps.get a).state ≠ .dropped →
        (s.clamps.get a).state.waits = false → u.clamps.get a = s.clamps.get a) ∧
      (clampInForce s a = true → clampInForce u a = true → (s.clamps.get a).state.waits = true →
        (u.clamps.get a = s.clamps.get a ∧ .clamp a ∈ u.bank.queue) ∨ u.bank.holder = some (.clamp a)) ∧
      (clampAbsent s a = true → clampInForce u a = true → s.seen.reading.get a = .clampedConfirm →
        u.clamps.get a = ⟨.clamped, none, 0⟩) ∧
      (s.store.active.clamp = none → clampInForce u a = true →
        (s.clamps.get a).state = .clamped ∨ (s.clamps.get a).state = .fault → u.clamps.get a = s.clamps.get a) ∧
      ((clampAbsent s a = true ∧ s.seen.reading.get a ≠ .clampedConfirm) ∨
          (s.store.active.clamp = none ∧ (s.clamps.get a).state = .dropped) →
        clampInForce u a = true → s.inputs.clampsDelivered = true →
        ((u.clamps.get a).state = .clampWait true ∧ .clamp a ∈ u.bank.queue) ∨
        ((u.clamps.get a).state = .clamping ∧ u.bank.holder = some (.clamp a))) := by
  have watch := absentReleased_watch (clampsBegun s)
  rw [hc, hb]
  refine ⟨?_, ?_, fun a => ?_⟩
  · exact (recoverDropped_disagree o _).trans watch.1
  · refine (recoverDropped_pressureOk o _).trans (watch.2.trans ?_)
    have kept := foldl_keeps (P := fun t => t.bank.pressureOk = s.bank.pressureOk) (f := dropAbsentClaim)
      (s := activated .clamp s) (fun t a ht => by
        unfold dropAbsentClaim
        split
        · exact ht
        · exact ht) allClamps rfl
    exact kept
  · rw [clampAbsent_congr hs, clampInForce_congr hs]
    refine ⟨clampsActivated_outside bank.1, fun hf hu hd hw => ?_, fun hf hu hw => clampsActivated_claims bank hf hu hw,
      fun ha hu hr => ?_, fun hn hu hcf => ?_, fun h hu hg => ?_⟩
    · have begun : (clampsBegun s).clamps.get a = s.clamps.get a := by
        rw [clampsBegun_get hu, recordBefore_of_inForce hf]
        rfl
      rw [clampsActivated_get (by rw [begun]; exact hw) (by rw [begun]; exact hd), begun]
    · have begun : (clampsBegun s).clamps.get a = ⟨.clamped, none, 0⟩ := by
        rw [clampsBegun_get hu, recordBefore_of_absent ha, hr]
        rfl
      rw [clampsActivated_get (by rw [begun]; rfl) (by rw [begun]; nofun), begun]
    · have begun : (clampsBegun s).clamps.get a = s.clamps.get a := by
        rw [clampsBegun_get hu, recordBefore_of_none hn]
        rfl
      rw [clampsActivated_get, begun]
      · rw [begun]
        rcases hcf with e | e <;> rw [e] <;> rfl
      · rw [begun]
        rcases hcf with e | e <;> rw [e] <;> nofun
    · rcases h with ⟨ha, hr⟩ | ⟨hn, hd⟩
      · have begun : ((clampsBegun s).clamps.get a).state = .dropped := by
          rw [clampsBegun_get hu, recordBefore_of_absent ha]
          show (if s.seen.reading.get a = .clampedConfirm then ClampState.clamped else .dropped) = _
          exact if_neg hr
        exact clampsActivated_recovering bank hl begun (absent a ha).1 (absent a ha).2 hu hg
      · have begun : (clampsBegun s).clamps.get a = s.clamps.get a := by
          rw [clampsBegun_get hu, recordBefore_of_none hn]
          rfl
        exact clampsActivated_recovering bank hl (by rw [begun]; exact hd) (by rw [hd]; rfl) (by rw [hd]; rfl) hu hg

/-! ## What the other tables' owners leave (R165) -/

section
variable {t : TableId} (old : Option (List Byte)) (o : List ClampAxis) (s : State)

theorem commitEffects_comp (ht : t ≠ .compensation) : (commitEffects t old o s).comp = s.comp := by
  cases t
  case compensation => exact absurd rfl ht
  case gear => exact (gearCommitted_within s).same_comp
  case clamp => exact (clampTableCommitted_within old o s).same_comp
  case triggers => exact (triggersCommitted_within s).same_comp
  all_goals rfl

theorem commitEffects_pendant (ht : t ≠ .pendant) : (commitEffects t old o s).pendant = s.pendant := by
  cases t
  case pendant => exact absurd rfl ht
  case compensation => exact (compensationCommitted_within s).same_pendant
  case gear => exact (gearCommitted_within s).same_pendant
  case clamp => exact (clampTableCommitted_within old o s).same_pendant
  case triggers => exact (triggersCommitted_within s).same_pendant
  all_goals rfl

theorem commitEffects_bank (hg : t ≠ .gear) (hc : t ≠ .clamp) :
    Within [.comp, .coolant, .pendant] s (commitEffects t old o s) := by
  cases t
  case gear => exact absurd rfl hg
  case clamp => exact absurd rfl hc
  case compensation => exact (compensationCommitted_within s).mono (by decide)
  case programs => exact (programsCommitted_within s).mono (by decide)
  case triggers => exact (triggersCommitted_within s).mono (by decide)
  case pendant => exact (pendantCommitted_within s).mono (by decide)
  all_goals exact .refl _ s

theorem commitEffects_coolant (hg : t ≠ .gear) (hp : t ≠ .programs) (htr : t ≠ .triggers) :
    (commitEffects t old o s).coolant = s.coolant := by
  cases t
  case gear => exact absurd rfl hg
  case programs => exact absurd rfl hp
  case triggers => exact absurd rfl htr
  case compensation => exact (compensationCommitted_within s).same_coolant
  case clamp => exact (clampTableCommitted_within old o s).same_coolant
  all_goals rfl

end

end

/-- Settles O50: what every COMMIT does, then table by table. -/
theorem commitActivatesStagingCopy : Obligations.CommitActivatesStagingCopy := by
  intro t o s law hl hw hf
  obtain ⟨u, hu⟩ : ∃ u, u = settleTriggers [] (committed t o s) := ⟨_, rfl⟩
  have work := committed_within t o s
  have all : Within [.comp, .clamps, .bank, .gear, .coolant, .pendant, .sent, .flags] (activated t s) u := by
    rw [hu]
    exact (work.comp (settleTriggers_within [] _)).mono (by decide)
  have quiet (ht : t ≠ .gear) : u = committed t o s := by
    rw [hu]
    exact settleTriggers_eq_self [] (committed_settled ht law)
  refine ⟨u, hu ▸ exec_commit hl hw hf, all.same_store, fun q hq => ?_, all.same_link, all.same_axes, all.same_inputs,
    all.same_seen, ?_, ?_, ?_, ?_, ?_, ?_, ?_, fun ht => ?_, fun ht => ?_, fun hg hc => ?_, fun ht => ?_,
    fun hg hp htr => ?_⟩
  · rw [all.same_store]
    exact PerTable.get_set_ne _ _ hq
  · rw [hu, (settleTriggers_within [] _).same_sent, committed_eq]
    unfold answer
    dsimp only
    rw [(commitEffects_within t _ o _).same_sent]
    rfl
  · rintro rfl
    rw [quiet nofun]
    exact compensationCommitted_comp (activeBytes_activated .compensation s)
  · rintro rfl
    rw [quiet nofun]
    rfl
  · rintro rfl
    rw [quiet nofun]
    exact triggersCommitted_coolant (activeBytes_activated .triggers s) hl
  · rintro rfl
    rw [quiet nofun]
    show (pendantCommitted (activated .pendant s)).pendant = _
    unfold pendantCommitted
    rw [overrideAfter_of_active (activeBytes_activated .pendant s), overrideAfter_of_active (activeBytes_activated .pendant s)]
    rw [show (activated .pendant s).pendant = s.pendant from rfl]
    cases s.pendant.feedKnob.accepted <;> cases s.pendant.spindleKnob.accepted <;> rfl
  · rintro rfl
    exact commit_gear law hu
  · rintro rfl bank absent
    rw [quiet nofun]
    have answered := committed_of_effects .clamp o s
    rw [clampEffects_eq] at answered
    exact commit_clamp bank absent hl answered.same_clamps answered.same_bank answered.same_store
  · have effects := commitEffects_comp (activeBytes s t) o (activated t s) ht
    rw [hu, (settleTriggers_within [] _).same_comp]
    exact effects
  · have effects := commitEffects_pendant (activeBytes s t) o (activated t s) ht
    rw [hu, (settleTriggers_within [] _).same_pendant]
    exact effects
  · have effects := commitEffects_bank (activeBytes s t) o (activated t s) hg hc
    rw [quiet hg]
    exact ⟨effects.same_gear, effects.same_clamps, effects.same_bank⟩
  · rw [quiet ht]
    exact work.same_flags
  · have effects := commitEffects_coolant (activeBytes s t) o (activated t s) hg hp htr
    rw [quiet hg]
    exact effects

end Sys2Proof.Machine

/-! # Frames on the two links, the E-stop and the activation ceiling -/

namespace Sys2Proof.Machine

-- Many short proofs that wait for the same case splitters: one after the other they need less memory.
set_option Elab.async false

/-! ## The entry into HALTED (R17) -/

/-- What an entry into HALTED leaves of each block. -/
structure HaltedFrom (cause : HaltCause) (s t : State) : Prop where
  link : t.link = { disabledLink .halted s.link with cause := cause }
  raised : isRaised .halted t = true
  axes : ∀ a, (t.axes.get a).offset = 0 ∧ (t.axes.get a).frozen = none ∧ (t.axes.get a).step = 0 ∧
    (t.axes.get a).out = (s.axes.get a).out
  clamps : ∀ a, t.clamps.get a = ⟨droppedState (s.clamps.get a).state, none, 0⟩
  bank : t.bank = { s.bank with queue := [], holder := none }
  output : t.gear.output = 0
  coolant : t.coolant.running = none ∧ t.coolant.queue = [] ∧ t.coolant.requested = outputsOff
  window : t.comp.windowCount = 0
  grant : ∀ a, t.pendant.grant ≠ .granted a
  within : Within blockParts s t
  settled : SettledLaw t

section
variable {s t : State}

theorem restBegun_out (st : LinkState) (s : State) (a : Axis) :
    ((restBegun st s).axes.get a).out = (s.axes.get a).out := by
  have eased := (endGrant_eased { settleTriggers [] s with link := disabledLink st (settleTriggers [] s).link }).axis a
  have axes : (settleTriggers [] s).axes = s.axes := (settleTriggers_within [] s).same_axes
  rcases eased with e | e
  · show ((endGrant { settleTriggers [] s with link := disabledLink st (settleTriggers [] s).link }).axes.get a).out = _
    rw [e]
    show ((settleTriggers [] s).axes.get a).out = _
    rw [axes]
  · show ((endGrant { settleTriggers [] s with link := disabledLink st (settleTriggers [] s).link }).axes.get a).out = _
    rw [e]
    show ((settleTriggers [] s).axes.get a).out = _
    rw [axes]

theorem enterHalted_from (cause : HaltCause) (s : State) : HaltedFrom cause s (enterHalted cause s) := by
  have rest := enterHalted_within_rest cause s
  obtain ⟨c, hc⟩ := enterRest_coolant .halted s
  have coolant : (enterHalted cause s).coolant = _ := rest.same_coolant.trans hc
  refine ⟨enterHalted_link cause s, isRaised_raise_self _ _, fun a => ?_, fun a => ?_, ?_, ?_, ?_, ?_, fun a => ?_,
    enterHalted_within cause s, ?_⟩
  · rw [rest.same_axes, enterRest_axes]
    exact ⟨rfl, rfl, rfl, restBegun_out .halted s a⟩
  · rw [rest.same_clamps, enterRest_clamps]
  · rw [rest.same_bank, enterRest_bank]
  · rw [rest.same_gear, enterRest_output]
  · rw [coolant]
    exact ⟨rfl, rfl, rfl⟩
  · rw [rest.same_comp, enterRest_comp]
  · rw [rest.same_pendant]
    exact enterRest_not_granted .halted s a
  · refine ⟨by rw [coolant], ?_⟩
    unfold demandNow
    rw [coolant]
    rfl

/-! ## The E-stop (R17, R152) -/

theorem enabled_or_standby (hoff : s.link.state ≠ .offline) (hhalt : s.link.state ≠ .halted) :
    s.link.state.enabled = true ∨ s.link.state = .standby := by
  cases hl : s.link.state <;> simp_all [LinkState.enabled]

/-- The line of the E-stop read open. -/
def estopSeen (s : State) : State := { s with inputs := { s.inputs with estopOpen := true } }

theorem estopOpens_of_rest (h : s.link.state = .offline ∨ s.link.state = .halted) : estopOpens s = estopSeen s := by
  unfold estopOpens
  exact if_neg (by rcases h with h | h <;> simp [h, LinkState.enabled])

theorem estopOpens_of_other (hoff : s.link.state ≠ .offline) (hhalt : s.link.state ≠ .halted) :
    estopOpens s = enterHalted .estop (estopSeen s) := if_pos (enabled_or_standby hoff hhalt)

end

/-- Settles O44: at rest the level alone changes, elsewhere every block halts. -/
theorem estopOpeningHalts : Obligations.EstopOpeningHalts := by
  refine fun s law => ⟨fun h => settled_eq (estopOpens_of_rest h) (law.withInputs _), fun hoff hhalt => ?_,
    settled_of_law (law.withInputs _)⟩
  have halted := enterHalted_from .estop (estopSeen s)
  refine ⟨_, settled_eq (estopOpens_of_other hoff hhalt) halted.settled, ?_⟩
  obtain ⟨running, queue, requested⟩ := halted.coolant
  refine ⟨by rw [halted.link]; rfl, by rw [halted.link], by rw [halted.link]; rfl, by rw [halted.link]; rfl,
    by rw [halted.link]; rfl, halted.within.same_inputs, halted.raised, fun a => ?_, fun a => ?_, by rw [halted.bank],
    by rw [halted.bank], halted.output, running, queue, requested, halted.window, halted.grant, halted.within.same_store⟩
  · obtain ⟨offset, frozen, step, -⟩ := halted.axes a
    exact ⟨offset, frozen, step⟩
  · rw [halted.clamps a]
    exact ⟨rfl, rfl⟩

/-! ## A frame on the command link (R1 to R3, R12) -/

section
variable {s : State} {bytes : List Byte} {order : List ClampAxis} {f : CycleFrame}

theorem frameArrives_of_none (h : cycleFrameOf bytes = none) : frameArrives bytes order s = s := by
  unfold frameArrives
  rw [h]

theorem frameArrives_of_online (h : cycleFrameOf bytes = some f) (hoff : s.link.state ≠ .offline) :
    frameArrives bytes order s = acceptFrame f s := by
  unfold frameArrives
  rw [h]
  exact if_neg hoff

theorem frameArrives_of_offline (h : cycleFrameOf bytes = some f) (hoff : s.link.state = .offline) :
    frameArrives bytes order s = leaveOffline order (acceptFrame f s) := by
  unfold frameArrives
  rw [h]
  exact if_pos hoff

/-- R2 and R3 in the raised set. -/
theorem acceptFrame_eq (f : CycleFrame) (s : State) : acceptFrame f s = { s with
    link := { s.link with slot := some ⟨f, false⟩, lastSeq := some f.seq }
    flags := { s.flags with raised := s.flags.raised ||| (if seqGap s.link f.seq then Flag.seqGap.bit else 0) |||
      (if slotUnused s.link then Flag.frameOverwritten.bit else 0) } } := by
  unfold acceptFrame
  dsimp only
  rw [raiseIf_flags, raiseIf_flags]

theorem acceptFrame_settled (law : SettledLaw s) (f : CycleFrame) : SettledLaw (acceptFrame f s) :=
  law.of_keepsDemand (.of_within (acceptFrame_within f s))

end

/-- Settles O16. -/
theorem acceptedFrameFillsSlot : Obligations.AcceptedFrameFillsSlot := by
  refine fun bytes order s law => ⟨fun h => settled_eq (frameArrives_of_none h) law, fun f h hoff => ?_⟩
  refine (settled_eq (frameArrives_of_online h hoff) (acceptFrame_settled law f)).trans ?_
  have gap : (if seqGap s.link f.seq then Flag.seqGap.bit else 0) = (match s.link.lastSeq with
      | some n => if f.seq = n + 1 then 0 else Flag.seqGap.bit
      | none => 0) := by
    unfold seqGap expectedSeq
    cases s.link.lastSeq with
    | none => rfl
    | some n => by_cases e : f.seq = n + 1 <;> simp [e]
  have replaced : (if slotUnused s.link then Flag.frameOverwritten.bit else 0) = (match s.link.slot with
      | some sl => if sl.used then 0 else Flag.frameOverwritten.bit
      | none => 0) := by
    unfold slotUnused
    cases s.link.slot with
    | none => rfl
    | some sl => cases h : sl.used <;> simp [h]
  rw [acceptFrame_eq, gap, replaced] <;> rfl

section
variable {s : State}

/-- The part in OFFLINE with a new frame in its slot. -/
theorem RestLaw.of_accepted {t : State} (rest : RestLaw s) (hl : t.link.state = s.link.state)
    (hw : Within [.link, .flags] s t) : RestLaw t := by
  intro at_rest
  rw [hw.same_coolant, hw.same_bank, hw.same_clamps, hw.same_gear]
  exact rest (hl ▸ at_rest)

/-- What an acceptance in OFFLINE leaves before STANDBY is entered. -/
def frameAccepted (f : CycleFrame) (s : State) : State :=
  { acceptFrame f s with link := { (acceptFrame f s).link with missCount := 0 } }

theorem frameAccepted_link (f : CycleFrame) (s : State) : (frameAccepted f s).link =
    { s.link with slot := some ⟨f, false⟩, lastSeq := some f.seq, missCount := 0 } := by
  unfold frameAccepted
  rw [acceptFrame_eq]

theorem frameAccepted_within (f : CycleFrame) (s : State) : Within [.link, .flags] s (frameAccepted f s) :=
  ((acceptFrame_within f s).comp (within_link _ _)).mono (by decide)

theorem leaveOffline_eq (order : List ClampAxis) (f : CycleFrame) (s : State) : leaveOffline order (acceptFrame f s) =
    if s.inputs.estopOpen then enterHalted .estop (enterStandby order (frameAccepted f s))
    else enterStandby order (frameAccepted f s) := by
  have inputs : (enterStandby order (frameAccepted f s)).inputs = s.inputs :=
    (enterStandby_within order _).same_inputs.trans (frameAccepted_within f s).same_inputs
  rw [← inputs]
  rfl

/-- A clamp dropped, clamped or faulted is dropped back to what it was after a recovery that was cut short. -/
theorem droppedState_enterStandby (rest : RestLaw s) (hl : s.link.state.atRest = true) (order : List ClampAxis) (a : ClampAxis) :
    droppedState ((enterStandby order s).clamps.get a).state = (s.clamps.get a).state := by
  obtain ⟨-, -, -, -, -, clamps, -⟩ := rest hl
  have own : droppedState (s.clamps.get a).state = (s.clamps.get a).state := by
    rcases clamps a with e | e | e <;> rw [e] <;> rfl
  by_cases h : (s.clamps.get a).state = .dropped ∧ clampInForce s a = true ∧ s.inputs.clampsDelivered = true
  · obtain ⟨hd, hf, hg⟩ := h
    rcases enterStandby_recovers rest hl order hd hf hg with ⟨e, -⟩ | ⟨e, -⟩
    · rw [e, hd]; rfl
    · rw [e, hd]; rfl
  · rw [enterStandby_clamp_same order (rest.not_waits hl a), own]
    simpa only [not_and_or, Bool.not_eq_true] using h

end

/-- Settles O17, through the recovery of the dropped clamps and, at an open E-stop, the entry into HALTED. -/
theorem acceptanceEndsOffline : Obligations.AcceptanceEndsOffline := by
  intro bytes order f s law rest hf hl
  obtain ⟨u, hu⟩ : ∃ u, u = frameAccepted f s := ⟨_, rfl⟩
  have link := frameAccepted_link f s
  have w := frameAccepted_within f s
  rw [← hu] at link w
  have offline : u.link.state = .offline := by rw [link]; exact hl
  have at_rest : u.link.state.atRest = true := by rw [offline]; rfl
  have urest : RestLaw u := rest.of_accepted (by rw [link]) w
  have standby := enterStandby_settled (law.of_keepsDemand (.of_within w)) urest at_rest order
  have arrives := (frameArrives_of_offline (order := order) hf hl).trans (leaveOffline_eq order f s)
  rw [← hu] at arrives
  have slink := enterStandby_link order u
  cases he : s.inputs.estopOpen with
  | false =>
    rw [he] at arrives
    refine ⟨_, settled_eq arrives standby, ?_⟩
    rw [if_neg nofun, slink, link]
    refine ⟨rfl, rfl, rfl, rfl, fun _ => ⟨rfl, rfl, fun a hd hp hg => ?_⟩, nofun⟩
    rcases enterStandby_recovers urest at_rest order (a := a) (by rw [w.same_clamps]; exact hd)
        ((clampInForce_congr w.same_store a).trans hp) (by rw [w.same_inputs]; exact hg) with ⟨e, hq⟩ | ⟨e, hh, -⟩
    · exact .inl ⟨by rw [e], hq⟩
    · exact .inr ⟨by rw [e], hh⟩
  | true =>
    rw [he] at arrives
    have halted := enterHalted_from .estop (enterStandby order u)
    refine ⟨_, settled_eq arrives halted.settled, ?_⟩
    rw [if_pos rfl, halted.link, slink, link]
    refine ⟨rfl, rfl, rfl, rfl, nofun, fun _ => ⟨rfl, rfl, halted.raised, fun a => ?_, by rw [halted.bank],
      by rw [halted.bank]⟩⟩
    rw [halted.clamps a, ← w.same_clamps]
    exact droppedState_enterStandby urest at_rest order a

/-! ## A frame on the drive chain (R9, R14) -/

section
variable {s : State} {bytes : List Byte} {r : Returns}

/-- The return values replaced (R9, R10). -/
def returnsTaken (r : Returns) (s : State) : State :=
  { s with link := { s.link with returns := some r, returnFresh := s.link.returnFresh || s.link.enableSent } }

theorem returnArrives_of_none (h : returnsOf bytes = none) : returnArrives bytes s = s := by
  unfold returnArrives
  rw [h]

theorem returnArrives_of_some (h : returnsOf bytes = some r) : returnArrives bytes s =
    if anyStation (· = .fault) r then halt .driveFault (returnsTaken r s)
    else if s.link.state = .activating ∧ s.link.enableSent = true ∧ allStations (· = .ready) r = true then
      enterRunning (returnsTaken r s)
    else returnsTaken r s := by
  unfold returnArrives
  rw [h]
  rfl

theorem halt_of_enabled (cause : HaltCause) (h : s.link.state.enabled = true) : halt cause s = enterHalted cause s :=
  if_pos h

theorem halt_of_disabled (cause : HaltCause) (h : s.link.state.enabled = false) : halt cause s = s :=
  if_neg (by rw [h]; decide)

theorem PerAxis.all_iff {p : Axis → Bool} : PerAxis.all p = true ↔ ∀ a, p a = true := by
  unfold PerAxis.all
  simp only [Bool.and_eq_true]
  refine ⟨fun ⟨⟨⟨⟨x, y⟩, z⟩, w⟩, b⟩ a => ?_, fun h => ⟨⟨⟨⟨h .x, h .y⟩, h .z⟩, h .w⟩, h .b⟩⟩
  cases a
  exacts [x, y, z, w, b]

theorem anyStation_of_allStations (h : allStations (· = .ready) r = true) : anyStation (· = .fault) r = false := by
  have each (st : StationStatus) (k : decide (st = .ready) = true) : (!decide (st = .fault)) = true := by
    rw [of_decide_eq_true k]
    decide
  unfold anyStation allStations at *
  obtain ⟨axes, spindle⟩ := Bool.and_eq_true_iff.1 h
  rw [Bool.not_eq_false', Bool.and_eq_true]
  refine ⟨?_, each _ spindle⟩
  rw [PerAxis.all_iff] at axes ⊢
  exact fun a => each _ (axes a)

theorem enterRunning_axis (a : Axis) : (enterRunning s).axes.get a = startedAxis s a := PerAxis.get_of _ a

end

/-- Settles O18: bytes that fail, values replaced, and a station in FAULT. -/
theorem returnFrameReplacesOrHalts : Obligations.ReturnFrameReplacesOrHalts := by
  refine fun bytes s law => ⟨fun h => settled_eq (returnArrives_of_none h) law, fun r h hl hfault => ?_,
    fun r h hen hfault => ?_⟩
  · refine settled_eq ((returnArrives_of_some h).trans ?_) (law.withLink _)
    split
    · rename_i hany
      refine halt_of_disabled _ (Bool.eq_false_iff.2 fun k => ?_)
      exact absurd (hany.symm.trans (hfault k)) nofun
    · exact if_neg fun k => hl k.1
  · have halted := enterHalted_from .driveFault (returnsTaken r s)
    refine ⟨_, settled_eq ((returnArrives_of_some h).trans ((if_pos hfault).trans (halt_of_enabled _ hen))) halted.settled, ?_⟩
    obtain ⟨running, -, requested⟩ := halted.coolant
    exact ⟨by rw [halted.link]; rfl, by rw [halted.link], by rw [halted.link]; rfl, by rw [halted.link]; rfl,
      halted.raised, halted.output, by rw [halted.bank], by rw [halted.bank], requested, running,
      fun a => by rw [halted.clamps a]; rfl, halted.axes⟩

/-- Settles O19. -/
theorem allReadyEntersRunning : Obligations.AllReadyEntersRunning := by
  intro bytes r s law h hl hsent hready
  have arrives : returnArrives bytes s = enterRunning (returnsTaken r s) := by
    rw [returnArrives_of_some h, anyStation_of_allStations hready, if_neg nofun, if_pos ⟨hl, hsent, hready⟩]
  refine ⟨_, settled_eq arrives ⟨law.1, law.2⟩, rfl, rfl, rfl, rfl, fun a => ?_, rfl, rfl, rfl, rfl, rfl, rfl, rfl, rfl, rfl,
    rfl⟩
  rw [enterRunning_axis]
  exact ⟨rfl, rfl, rfl, rfl, rfl, rfl⟩

/-- Settles O43. -/
theorem activationCeilingFails : Obligations.ActivationCeilingFails := by
  intro n s law hl hn hd
  have ends : activationEnds s = raise .activateFault (standbyBegun s) := by
    unfold activationEnds
    rw [if_pos ⟨hl, by rw [hn]; rfl⟩, enterStandby_of_none_dropped [] hd]
  refine ⟨_, settled_eq ends ((standbyBegun_settled law).raise _), rfl, rfl, rfl, rfl, rfl, fun a => ?_, rfl, rfl, rfl, rfl,
    rfl, rfl, rfl, rfl⟩
  rw [show (raise .activateFault (standbyBegun s)).axes.get a = clearedAxis (s.axes.get a) from clearAxes_axes _ a]
  exact ⟨rfl, rfl, rfl, rfl, rfl⟩

end Sys2Proof.Machine

/-! # Hardware reset (R20, R168, R171) -/

namespace Sys2Proof.Machine

-- Many short proofs that wait for the same case splitters: one after the other they need less memory.
set_option Elab.async false

/-! ## The first reset -/

theorem reset_clamps (a : ClampAxis) : State.reset.clamps.get a = clampReset := by cases a <;> rfl

theorem reset_axes (a : Axis) : State.reset.axes.get a = axisReset := by cases a <;> rfl

theorem reset_no_table (t : TableId) : activeBytes State.reset t = none := by cases t <;> rfl

theorem reset_restLaw : RestLaw State.reset := fun _ =>
  ⟨rfl, rfl, rfl, rfl, rfl, fun a => by rw [reset_clamps]; exact .inr (.inl rfl), .inr (.inl rfl)⟩

theorem reset_stillLaw : StillLaw State.reset := fun _ a => by rw [reset_axes]; exact ⟨rfl, rfl, rfl⟩

theorem reset_bankLaw : BankLaw State.reset := by
  have waits (c : Claimant) : waits State.reset c = false := by
    cases c with
    | clamp a => show (State.reset.clamps.get a).state.waits = false; rw [reset_clamps]; rfl
    | gearbox => rfl
  have transits (c : Claimant) : transits State.reset c = false := by
    cases c with
    | clamp a => show (State.reset.clamps.get a).state.transits = false; rw [reset_clamps]; rfl
    | gearbox => rfl
  refine ⟨List.nodup_nil, fun c => ?_, fun c => ?_⟩
  · rw [waits c]
    exact iff_of_false List.not_mem_nil nofun
  · rw [transits c]
    exact iff_of_false nofun nofun

theorem reset_absentLaw : AbsentLaw State.reset := fun a _ => by rw [reset_clamps]; exact ⟨rfl, rfl⟩

theorem reset_staging (t : TableId) : State.reset.store.staging.get t = List.replicate (tableSizes.get t) 0 := by
  cases t <;> rfl

theorem reset_stagingLaw : StagingLaw State.reset := fun t => by rw [reset_staging, List.length_replicate]

theorem reset_laws : Laws State.reset where
  enable := rfl
  coolant := ⟨Nat.zero_le 4, List.nodup_nil, nofun, fun _ => rfl⟩
  rest := reset_restLaw
  still := reset_stillLaw
  grant := nofun
  spindle := fun h => absurd rfl h
  settled := ⟨rfl, rfl⟩
  bank := reset_bankLaw
  change := nofun
  tables := nofun
  absent := reset_absentLaw
  staging := reset_stagingLaw
  offsetLimit := fun _ _ h => absurd ((reset_no_table .pendant).symm.trans h) nofun
  growth := fun _ h => absurd ((reset_no_table .compensation).symm.trans h) nofun
  forkCopy := rfl
  engaged := nofun
  enableSent := nofun
  seenClamp := nofun
  selector := fun _ _ => ⟨nofun, nofun, nofun⟩
  grantClamp := nofun

/-- Settles O3: the entries by computation, the laws by `reset_laws`. -/
theorem resetTablesHold : Obligations.ResetTablesHold := by
  refine ⟨rfl, reset_axes, rfl, reset_clamps, rfl, rfl, rfl, rfl, rfl, rfl, rfl, fun a => by cases a <;> rfl, rfl,
    fun a => by cases a <;> rfl, fun i => by cases i <;> rfl, rfl, rfl, rfl, fun d hd => ?_, rfl, rfl, rfl, rfl, rfl, rfl,
    rfl, rfl, rfl, reset_staging, fun t => by cases t <;> rfl, fun t => by cases t <;> rfl, rfl, rfl, rfl, rfl, rfl, rfl,
    reset_laws⟩
  have eight : State.reset.inputs.buttons.toList = List.replicate 8 undebounced := rfl
  exact List.eq_of_mem_replicate (eight ▸ hd)

/-! ## Every other -/

section
variable (estop a b : Bool) (s : State)

/-- R168 in words: the mark is complete, and every stored signature is that of its bytes. -/
theorem nvGood_iff (n : NonVolatile) : nvGood n = true ↔
    n.complete = true ∧ ∀ id img, n.tables.get id = some img → crc16 img.bytes = img.signature := by
  unfold nvGood
  rw [Bool.and_eq_true, List.all_eq_true]
  refine and_congr_right fun _ => ⟨fun h id img himg => ?_, fun h id _ => ?_⟩
  · have good := h id (by cases id <;> decide)
    rw [himg] at good
    exact of_decide_eq_true good
  · unfold storedGood
    cases himg : n.tables.get id with
    | none => rfl
    | some img => exact decide_eq_true (h id img himg)

/-- A hardware reset before the lube interval timer is set. -/
def resetBase (estop a b : Bool) (s : State) : State :=
  { State.reset with
    store := loadedStore s.store.nv
    flags := { raised := if nvGood s.store.nv then 0 else Flag.nvInvalid.bit, mask := 0 }
    pendant := pendantReset a b
    inputs := inputsReset estop
    pending := s.pending }

theorem hardwareReset_eq : hardwareReset estop a b s = startLube (resetBase estop a b s) := rfl

theorem hardwareReset_within : Within [.coolant] (resetBase estop a b s) (hardwareReset estop a b s) := startLube_within _

theorem hardwareReset_store : (hardwareReset estop a b s).store = loadedStore s.store.nv :=
  (hardwareReset_within estop a b s).same_store

theorem hardwareReset_flags : (hardwareReset estop a b s).flags =
    { raised := if nvGood s.store.nv then 0 else Flag.nvInvalid.bit, mask := 0 } :=
  (hardwareReset_within estop a b s).same_flags

/-- R124, R131: the interval timer after a hardware reset. -/
theorem hardwareReset_coolant : (hardwareReset estop a b s).coolant = { coolantReset with
    lube := ((hardwareReset estop a b s).store.active.triggers).elim .stopped fun img =>
      if lubeInterval img.bytes = 0 then .stopped else .held (lubeInterval img.bytes) } := by
  rw [hardwareReset_store, hardwareReset_eq]
  unfold startLube
  cases h : (resetBase estop a b s).store.active.triggers with
  | none =>
    rw [activeBytes_of_none (t := .triggers) h, show (loadedStore s.store.nv).active.triggers = none from h]
    rfl
  | some img =>
    rw [activeBytes_of_some (t := .triggers) h, show (loadedStore s.store.nv).active.triggers = some img from h]
    rfl

end

/-- Settles O12, the load by `nvGood_iff`. -/
theorem hardwareResetLoadsStore : Obligations.HardwareResetLoadsStore := by
  intro estop a b s
  have w := hardwareReset_within estop a b s
  have store := hardwareReset_store estop a b s
  have flags := hardwareReset_flags estop a b s
  refine ⟨hardwareReset estop a b s, rfl, w.same_link, w.same_axes, w.same_comp, w.same_clamps, w.same_bank, w.same_gear,
    w.same_pendant, w.same_inputs, ?_, by rw [store]; rfl, by rw [store]; rfl, by rw [store]; rfl, by rw [flags],
    w.same_seen, w.same_sent, w.same_pending, fun good => ?_, fun bad => ?_⟩
  · rw [hardwareReset_coolant]
    cases (hardwareReset estop a b s).store.active.triggers <;> rfl
  · rw [store, flags]
    unfold loadedStore
    rw [(nvGood_iff _).2 good]
    exact ⟨rfl, rfl, rfl⟩
  · rw [store, flags]
    unfold loadedStore
    rw [Bool.eq_false_iff.2 fun k => bad ((nvGood_iff _).1 k)]
    exact ⟨rfl, rfl, rfl⟩

end Sys2Proof.Machine

/-! # The order of an expiry's tasks, and its one service -/

namespace Sys2Proof.Machine

-- Many short proofs that wait for the same case splitters: one after the other they need less memory.
set_option Elab.async false

/-! ## Each task once, and after its prerequisites -/

theorem placeTask_nodup {t : Task} {done : List Task} (h : done.Nodup) : (placeTask t done).Nodup := by
  unfold placeTask
  split
  · exact h
  · rename_i hl
    exact List.nodup_append.mpr ⟨h, List.nodup_singleton t, fun a ha u hu e => by
      rw [List.mem_singleton.mp hu] at e
      exact hl (listed_of_mem (e ▸ ha))⟩

/-- What holds of a list of tasks at each visit of a fold holds at its end. -/
theorem foldl_visits {r : Record} {n : Nat} {P : List Task → Prop} {l : List Task}
    (h : ∀ t ∈ l, ∀ done, P done → P (visit r n t done)) {done : List Task} (hd : P done) :
    P (l.foldl (fun acc t => visit r n t acc) done) := by
  induction l generalizing done with
  | nil => exact hd
  | cons t l ih => exact ih (fun u hu => h u (List.mem_cons_of_mem t hu)) (h t List.mem_cons_self done hd)

theorem visit_nodup (r : Record) (n : Nat) (t : Task) {done : List Task} (h : done.Nodup) : (visit r n t done).Nodup := by
  induction n generalizing t done with
  | zero => exact placeTask_nodup h
  | succ n ih =>
    unfold visit
    split
    · exact h
    · exact placeTask_nodup (foldl_visits (fun u _ d hd => ih u hd) h)

theorem schedule_nodup (r : Record) (order : List Task) : (schedule r order).Nodup :=
  foldl_visits (fun t _ _ h => visit_nodup r 8 t h) List.nodup_nil

theorem allTasks_nodup : allTasks.Nodup := by
  have h : (allTasks.map taskCode).Nodup := by decide
  exact List.Nodup.of_map taskCode h

/-- Every task is taken once at every expiry. -/
theorem schedule_perm (r : Record) (order : List Task) : (schedule r order).Perm allTasks :=
  (List.perm_ext_iff_of_nodup (schedule_nodup r order) allTasks_nodup).mpr fun t =>
    ⟨fun _ => mem_allTasks t, fun _ => mem_schedule r order t⟩

/-- How many tasks at most a chain of prerequisites of a task holds. -/
def taskRank (r : Record) : Task → Nat
  | .fork _ | .selector | .enableSwitch | .panel | .clampFirst | .rangeRequest | .gearStage | .handwheel => 1
  | .spindleOutput | .axes => 2
  | .spindleAnnounce | .service => 3
  | .window => if windowAfterService r then 4 else 0
  | .coolantRequests => 4
  | .forkFirst | .pendantFirst | .pressure | .clamp _ | .gearLeave | .spindleHeld | .stoppedTimer | .droop | .absorb
  | .strayCommand | .coolantStopBit | .coolantWait | .travel | .tank | .knobs => 0

theorem taskRank_le (r : Record) (t : Task) : taskRank r t ≤ 4 := by
  cases t <;> simp only [taskRank] <;> first | decide | (split <;> decide)

theorem commitPrerequisites_rank {r : Record} (hr : windowAfterService r = false) {q : TableId} {p : Task}
    (h : p ∈ commitPrerequisites q) : taskRank r p < 3 := by
  have ranks : ∀ p ∈ commitPrerequisites q, taskRank r p < 3 := by
    cases q <;> simp [commitPrerequisites, taskRank, hr]
  exact ranks p h

theorem servicePrerequisites_rank {r : Record} {p : Task} (h : p ∈ servicePrerequisites r) : taskRank r p < 3 := by
  unfold servicePrerequisites at h
  split at h
  · split at h
    · exact commitPrerequisites_rank rfl h
    · cases h
  · unfold clearPrerequisites at h
    split at h
    · rw [List.mem_singleton.mp h]; simp [taskRank]
    · cases h
    · cases h
  · rw [List.mem_singleton.mp h]; simp [taskRank]
  · rw [List.mem_singleton.mp h]; simp [taskRank]
  · cases h

theorem prerequisites_rank {r : Record} {p t : Task} (h : p ∈ prerequisites r t) : taskRank r p < taskRank r t := by
  cases t
  case service => exact servicePrerequisites_rank h
  case window =>
    unfold prerequisites at h
    dsimp only at h
    split at h
    · rename_i hw
      rw [List.mem_singleton.mp h]
      simp [taskRank, hw]
    · cases h
  case coolantRequests =>
    unfold prerequisites at h
    dsimp only at h
    split at h
    all_goals simp only [List.mem_cons, List.not_mem_nil, or_false] at h
    · rcases h with rfl | rfl <;> simp [taskRank]
    · rw [h]; simp [taskRank]
  all_goals
    simp only [prerequisites, List.mem_cons, List.not_mem_nil, or_false] at h
  case spindleAnnounce => rcases h with rfl | rfl | rfl | rfl | rfl | rfl <;> simp [taskRank]
  case clampFirst => rcases h with rfl | rfl | rfl | rfl <;> simp [taskRank]
  case spindleOutput => rcases h with rfl | rfl | rfl <;> simp [taskRank]
  case axes => rcases h with rfl | rfl <;> simp [taskRank]
  all_goals (rw [h]; simp [taskRank])

/-- Each task of a list stands behind its prerequisites. -/
def InOrder (r : Record) (done : List Task) : Prop :=
  ∀ before t after, done = before ++ t :: after → ∀ p ∈ prerequisites r t, p ∈ before

theorem placeTask_inOrder {r : Record} {t : Task} {done : List Task} (h : InOrder r done)
    (hp : ∀ p ∈ prerequisites r t, p ∈ done) : InOrder r (placeTask t done) := by
  unfold placeTask
  split
  · exact h
  intro before u after e p hu
  rcases List.append_eq_append_iff.mp e with ⟨m, rfl, hm⟩ | ⟨m, rfl, hm⟩
  · cases m with
    | nil =>
      rw [List.nil_append] at hm
      rw [List.append_nil]
      exact hp p ((List.cons.inj hm).1 ▸ hu)
    | cons x m => exact absurd (congrArg List.length hm) (by simp)
  · cases m with
    | nil =>
      rw [List.nil_append] at hm
      have := hp p ((List.cons.inj hm).1 ▸ hu)
      simpa using this
    | cons x m =>
      obtain ⟨rfl, -⟩ := List.cons.inj hm
      exact h before u m rfl p hu

theorem visit_inOrder {r : Record} {n : Nat} {t : Task} (hn : taskRank r t ≤ n) {done : List Task}
    (h : InOrder r done) : InOrder r (visit r n t done) := by
  induction n generalizing t done with
  | zero =>
    refine placeTask_inOrder h fun p hp => ?_
    have := prerequisites_rank hp
    omega
  | succ n ih =>
    unfold visit
    split
    · exact h
    refine placeTask_inOrder (foldl_visits (fun p hp d hd => ih ?_ hd) h) fun p hp => mem_foldl_visit r n hp done
    have := prerequisites_rank hp
    omega

theorem schedule_inOrder (r : Record) (order : List Task) : InOrder r (schedule r order) :=
  foldl_visits (fun t _ _ h => visit_inOrder (Nat.le_trans (taskRank_le r t) (by decide)) h)
    fun before t after e => by simp at e

theorem schedule_prerequisite (r : Record) (order : List Task) {p t : Task} (h : p ∈ prerequisites r t) :
    ∃ before between after, schedule r order = before ++ p :: between ++ t :: after := by
  obtain ⟨pre, after, e⟩ := List.append_of_mem (mem_schedule r order t)
  obtain ⟨before, between, rfl⟩ := List.append_of_mem (schedule_inOrder r order pre t after e p h)
  exact ⟨before, between, after, e⟩

/-! ## One task among the others -/

/-- A task stands once in the schedule. -/
theorem schedule_split (r : Record) (order : List Task) (t : Task) :
    ∃ before after, schedule r order = before ++ t :: after ∧ t ∉ before ∧ t ∉ after := by
  obtain ⟨before, after, e⟩ := List.append_of_mem (mem_schedule r order t)
  have h := schedule_nodup r order
  rw [e] at h
  have h' := List.nodup_middle.mp h
  have hn := (List.nodup_cons.mp h').1
  exact ⟨before, after, e, fun hb => hn (List.mem_append_left _ hb), fun ha => hn (List.mem_append_right _ ha)⟩

/-- Tasks that each reach only the listed parts. -/
theorem foldl_taskTurn_within {c : Turn} {l : List Part} {us : List Task}
    (h : ∀ u ∈ us, taskParts u ++ [.coolant, .flags] ⊆ l) (s : State) : Within l s (us.foldl (taskTurn c) s) := by
  induction us generalizing s with
  | nil => exact .refl l s
  | cons u us ih =>
    exact ((taskTurn_within c s u).mono (h u List.mem_cons_self)).trans
      (ih (fun v hv => h v (List.mem_cons_of_mem u hv)) _)

/-- What the blocks' work without the service reaches. -/
abbrev quietParts : List Part := [.axes, .comp, .clamps, .bank, .gear, .coolant, .pendant, .inputs, .flags]

theorem taskParts_quiet {u : Task} (h : u ≠ .service) : taskParts u ++ [.coolant, .flags] ⊆ quietParts := by
  cases u
  case service => exact absurd rfl h
  all_goals (simp only [taskParts]; decide)

/-- The service of an expiry, and on either side of it work that reaches neither the store, nor the answer, nor the
link. -/
theorem runTasks_service (c : Turn) (order : List Task) (s : State) :
    ∃ u, Within quietParts s u ∧ Within quietParts (runTask c .service u) (runTasks c order s) := by
  obtain ⟨before, after, e, hb, ha⟩ := schedule_split c.record order .service
  refine ⟨before.foldl (taskTurn c) s, foldl_taskTurn_within (fun u hu => taskParts_quiet fun he => hb (he ▸ hu)) s, ?_⟩
  unfold runTasks
  rw [e, List.foldl_append, List.foldl_cons]
  exact (settleTriggers_within c.triggerOrder _).mono (by decide) |>.trans
    (foldl_taskTurn_within (fun u hu => taskParts_quiet fun he => ha (he ▸ hu)) _)

end Sys2Proof.Machine

/-! # Staging and active copies of the tables (R161, R165) -/

namespace Sys2Proof.Machine

-- Many short proofs that wait for the same case splitters: one after the other they need less memory.
set_option Elab.async false

/-! ## The size of every staging copy -/

theorem StagingLaw.of_staging {s t : State} (h : StagingLaw s) (e : t.store.staging = s.store.staging) :
    StagingLaw t := fun q => by rw [e]; exact h q

theorem stagingLaw_reads : Reads [.store] StagingLaw := fun k h =>
  h.of_staging (by rw [(k .store (by decide) : _ = _)])

theorem StagingLaw.of_zero {t : State} (e : t.store.staging = stagingZero) : StagingLaw t := fun q => by
  rw [e]
  cases q <;> exact List.length_replicate

theorem storeDone_staging (s : State) : (storeDone s).store.staging = s.store.staging := by
  unfold storeDone
  split
  · split <;> rfl
  · rfl

theorem storeFails_staging (s : State) : (storeFails s).store.staging = s.store.staging := by
  unfold storeFails
  split <;> rfl

theorem restart_staging (s : State) : (restart s).store.staging = stagingZero := by
  rw [(restart_within_base s).same_store]
  rfl

theorem restart_active (s : State) : (restart s).store.active = s.store.active := by
  rw [(restart_within_base s).same_store]
  rfl

/-- A WRITE_SEGMENT writes within the copy, and no other service touches one. -/
theorem StagingLaw.effect {order : List ClampAxis} {s t : State} (h : StagingLaw s) (e : BlockEffect order s t) :
    StagingLaw t := by
  cases e
  case write q off data _ hf =>
    intro q'
    by_cases hq : q' = q
    · subst hq
      dsimp only
      rw [PerTable.get_set_self, overwrite_length (by rw [h q']; exact hf)]
      exact h q'
    · dsimp only
      rw [PerTable.get_set_ne _ _ hq]
      exact h q'
  case commit q _ _ _ => exact stagingLaw_reads.keep (commitEffects_within q _ order _) (h.of_staging rfl)
  case flags hw => exact stagingLaw_reads.keep hw h
  case trigger p _ _ => exact stagingLaw_reads.keep (triggerProgram_within p s) h
  case growth hard => exact stagingLaw_reads.keep (growthTrigger_within hard s) h
  case gear => exact stagingLaw_reads.keep (reevaluate_within s) h
  all_goals exact h.of_staging rfl

theorem stagingLaw_kept : Kept StagingLaw where
  reset _ _ _ _ _ := .of_zero rfl
  settle order _ h := stagingLaw_reads.keep (settleTriggers_within order _) h
  sent _ _ h := h
  between e s h := by
    cases e
    case storeVerified => exact h.of_staging (storeDone_staging s)
    case storeMismatch | storeCeiling => exact h.of_staging (storeFails_staging s)
    all_goals exact stagingLaw_reads.keep (betweenWork_within _ s) h
  linkService kind body order _ h := stagingLaw_reads.keep (linkService_within kind body order _) h
  restart {s} _ := .of_zero (restart_staging s)
  passTime _ _ h := h
  linkWork taken order _ h := stagingLaw_reads.keep (linkWork_within taken order _) h
  intake inp taken _ h := stagingLaw_reads.keep (intakeStage_within inp taken _) h
  task c u s h := by
    cases u
    case service =>
      obtain ⟨v, he, hw⟩ := runTask_service_served (s := s) c
      exact stagingLaw_reads.keep hw (h.effect he)
    all_goals exact stagingLaw_reads.keep (runTask_within c _ s) h
  leave _ _ _ h := h

/-! ## What changes an active copy -/

/-- The active copies stand from `s` to `t`, or a COMMIT or a GROWTH_ZERO has answered and changed one. -/
inductive ActiveChange (s t : State) : Prop
  | none (h : t.store.active = s.store.active)
  | commit (q : TableId) (hl : t.link.state = .standby)
      (ha : t.sent.answer = ⟨4, .ok, be8 q.index ++ be16 (crc16 (s.store.staging.get q)).toNat⟩)
      (h : t.store.active = s.store.active.set q (some (imageOf (s.store.staging.get q))))
  | zero (img : Image) (ref : Nat) (hl : t.link.state = .standby ∨ t.link.state = .running)
      (hk : t.sent.answer.kind = 16) (hok : t.sent.answer.status = .ok) (hi : s.store.active.compensation = some img)
      (h : t.store.active = s.store.active.set .compensation (some (imageOf (overwrite img.bytes 42 (be16 ref)))))

namespace ActiveChange
variable {s s' t t' : State}

/-- A state before with the same copies, and a state after with the same active ones, link state and answer. -/
theorem congr (h : ActiveChange s t) (hs : s'.store = s.store) (ht : t'.store.active = t.store.active)
    (hl : t'.link.state = t.link.state) (ha : t'.sent.answer = t.sent.answer) : ActiveChange s' t' := by
  cases h
  case none h => exact .none (by rw [ht, h, hs])
  case commit q hq hans h => exact .commit q (by rw [hl, hq]) (by rw [ha, hans, hs]) (by rw [ht, h, hs])
  case zero img ref hq hk hok hi h =>
    exact .zero img ref (by rw [hl]; exact hq) (by rw [ha, hk]) (by rw [ha, hok]) (by rw [hs]; exact hi)
      (by rw [ht, h, hs])

theorem of_answer (h : t.store.active = s.store.active) (k : ServiceKind) (st : Status) (body : List Byte) :
    ActiveChange s (answer k st body t) := .none h

/-- A copy that is not the one before is that of the COMMIT's table or of the GROWTH_ZERO. -/
theorem conclusion (h : ActiveChange s t) {q : TableId} (hq : t.store.active.get q ≠ s.store.active.get q) :
    (t.link.state = .standby ∧ t.sent.answer = ⟨4, .ok, be8 q.index ++ be16 (crc16 (s.store.staging.get q)).toNat⟩ ∧
      t.store.active.get q = some ⟨s.store.staging.get q, crc16 (s.store.staging.get q)⟩) ∨
    (q = .compensation ∧ (t.link.state = .standby ∨ t.link.state = .running) ∧ t.sent.answer.kind = 16 ∧
      t.sent.answer.status = .ok ∧
      ∃ img bs, s.store.active.compensation = some img ∧ t.store.active.compensation = some ⟨bs, crc16 bs⟩ ∧
        (img.bytes.length = 53 → bs.length = 53 ∧ ∀ i, i ≠ 42 → i ≠ 43 → bs[i]? = img.bytes[i]?)) := by
  cases h
  case none h => exact absurd (by rw [h]) hq
  case commit q' hl ha h =>
    by_cases e : q = q'
    · subst e
      exact .inl ⟨hl, ha, by rw [h, PerTable.get_set_self]; rfl⟩
    · exact absurd (by rw [h, PerTable.get_set_ne _ _ e]) hq
  case zero img ref hl hk hok hi h =>
    by_cases e : q = .compensation
    · refine .inr ⟨e, hl, hk, hok, img, _, hi, by rw [h]; rfl, fun hlen => ?_⟩
      have hw : 42 + (be16 ref).length ≤ img.bytes.length := by rw [be16_length, hlen]; decide
      refine ⟨by rw [overwrite_length hw, hlen], fun i h42 h43 => overwrite_getElem? hw ?_⟩
      rw [be16_length]
      omega
    · exact absurd (by rw [h, PerTable.get_set_ne _ _ e]) hq

end ActiveChange

section
variable (s : State)

theorem commitService_activeChange (body : List Byte) (order : List ClampAxis) :
    ActiveChange s (commitService body order s) := by
  unfold commitService
  split
  · exact .none rfl
  split
  · exact .none rfl
  rename_i hl
  split
  · exact .none rfl
  rename_i q _
  dsimp only
  split
  · split
    · exact .none rfl
    · have hw := commitEffects_within q (activeBytes s q) order (setActive q (imageOf (s.store.staging.get q)) s)
      have hst : s.link.state = .standby := by simpa using hl
      exact .commit q ((congrArg Link.state hw.same_link).trans hst) rfl (congrArg TableStore.active hw.same_store)
  · exact .none rfl

theorem growthZeroService_activeChange : ActiveChange s (growthZeroService s) := by
  unfold growthZeroService
  split
  · rename_i hl
    split
    · exact .none rfl
    · rename_i bs hb
      split
      · exact .none rfl
      · rename_i sum _
        obtain ⟨img, hi, rfl⟩ := Option.map_eq_some_iff.mp hb
        exact .zero img (growthRef sum) hl rfl rfl hi rfl
  · exact .none rfl

theorem judged_activeChange (k : ServiceKind) (body : List Byte) {act : State → State} (h : ActiveChange s (act s)) :
    ActiveChange s (judged k body act s) := by
  unfold judged
  split
  · exact h
  · exact .none rfl

theorem writeService_active (body : List Byte) : (writeService body s).store.active = s.store.active := by
  unfold writeService
  split
  · rfl
  split
  · rfl
  split
  · rfl
  dsimp only
  split <;> rfl

theorem storeService_active : (storeService s).store.active = s.store.active := by
  unfold storeService
  split
  · rfl
  split <;> rfl

theorem judged_active {k : ServiceKind} {body : List Byte} {act : State → State}
    (h : (act s).store.active = s.store.active) : (judged k body act s).store.active = s.store.active := by
  unfold judged
  split
  · exact h
  · rfl

/-- No service but COMMIT and GROWTH_ZERO touches an active copy. -/
theorem blockService_active {k : ServiceKind} (hc : k ≠ .commit) (hz : k ≠ .growthZero) (body : List Byte)
    (order : List ClampAxis) : (blockService k body order s).store.active = s.store.active := by
  unfold blockService
  cases k
  case commit => exact absurd rfl hc
  case growthZero => exact absurd rfl hz
  case writeSegment => exact judged_active s (writeService_active s body)
  case store => exact judged_active s (storeService_active s)
  case clearFlags => exact judged_active s (by rw [(clearFlagsService_within body s).same_store])
  case setMask => exact judged_active s (by rw [(setMaskService_within body s).same_store])
  case coolantTrigger => exact judged_active s (by rw [(coolantTriggerService_within body s).same_store])
  case coolantStop => exact judged_active s (by rw [(coolantStopService_within s).same_store])
  case compTrigger => exact judged_active s (by rw [(compTriggerService_within body s).same_store])
  case clearFault => exact judged_active s (by rw [(clearFaultService_within body s).same_store])
  all_goals rfl

theorem blockService_activeChange (k : ServiceKind) (body : List Byte) (order : List ClampAxis) :
    ActiveChange s (blockService k body order s) := by
  by_cases hc : k = .commit
  · subst hc
    exact judged_activeChange s _ _ (commitService_activeChange s body order)
  by_cases hz : k = .growthZero
  · subst hz
    exact judged_activeChange s _ _ (growthZeroService_activeChange s)
  exact .none (blockService_active s hc hz body order)

theorem betweenWork_active (e : Between) : (betweenWork e s).store.active = s.store.active := by
  cases e
  case storeVerified => exact storeDone_active s
  case storeMismatch | storeCeiling => exact storeFails_active s
  all_goals exact congrArg TableStore.active (betweenWork_within _ s).same_store

theorem settleTriggers_active (order : List TriggerSource) :
    (settleTriggers order s).store.active = s.store.active := by rw [(settleTriggers_within order s).same_store]

theorem betweenTurn_active (e : Between) : (betweenTurn s e).store.active = s.store.active :=
  (settleTriggers_active _ []).trans (betweenWork_active s e)

theorem readService_active (k : ServiceKind) (body : List Byte) :
    (readService k body s).store.active = s.store.active := by rw [(readService_within k body s).same_store]

theorem closeStage_active (rb : Bool) (taken : Option CycleFrame) (r : Record) :
    (closeStage rb taken r s).store.active = s.store.active := by
  have left (u : State) : (if restartTaken u then restart (framesLeave rb taken u) else framesLeave rb taken u).store.active =
      u.store.active := by
    split
    · exact restart_active _
    · rfl
  refine (left _).trans ?_
  split
  · exact readService_active s _ _
  · rfl

theorem afterClearStage_active (r : Record) (events : List Between) :
    (afterClearStage r events s).store.active = s.store.active := by
  rcases afterClearStage_cases r events s with e | ⟨a, x, e⟩
  · rw [e]
  · rw [e]
    exact foldl_keeps (P := fun u => u.store.active = s.store.active)
      (fun u e hu => (betweenTurn_active u e).trans hu) events rfl

end

/-! ## An expiry -/

section
variable (inp : ExpiryInput) (s : State)

theorem sampledAt_store : (sampledAt inp s).store = s.store :=
  (intakeStage_within _ _ _).same_store.trans (linkStage_within _ _ _ _).same_store

/-- The blocks' work changes an active copy by the expiry's service alone. -/
theorem workedAt_activeChange : ActiveChange s (workedAt inp s) := by
  obtain ⟨u, hu, hw⟩ := runTasks_service (turnAt inp s) inp.order (sampledAt inp s)
  have served : ActiveChange u (runTask (turnAt inp s) .service u) := by
    unfold runTask
    dsimp only
    split
    · exact blockService_activeChange u _ _ _
    · exact .none rfl
  exact served.congr (hu.same_store.trans (sampledAt_store inp s)).symm
    (congrArg TableStore.active hw.same_store) (congrArg Link.state hw.same_link)
    (congrArg Sent.answer hw.same_sent)

theorem workedAt_active (h : ∀ k body, recordAt inp s = some (k, body) → k ≠ .commit ∧ k ≠ .growthZero) :
    (workedAt inp s).store.active = s.store.active := by
  obtain ⟨u, hu, hw⟩ := runTasks_service (turnAt inp s) inp.order (sampledAt inp s)
  have served : (runTask (turnAt inp s) .service u).store.active = u.store.active := by
    unfold runTask
    dsimp only
    split
    · rename_i k body e
      exact blockService_active u (h k body e).1 (h k body e).2 body _
    · rfl
  exact (congrArg TableStore.active hw.same_store).trans
    (served.trans (congrArg TableStore.active (hu.same_store.trans (sampledAt_store inp s))))

/-- Where a service that is answered at once has passed no RESTART, the frames leave and nothing more happens. -/
theorem closeStage_of_answered {k : ServiceKind} {body : List Byte} {u : State} (rb : Bool)
    (taken : Option CycleFrame) (hk : readService k body u = u) (hr : restartTaken u = false) :
    closeStage rb taken (some (k, body)) u = framesLeave rb taken u := by
  unfold closeStage
  dsimp only
  rw [hk, hr]
  rfl

theorem expiry_activeChange : ActiveChange s (expiry inp s) := by
  rw [expiry_eq]
  have stands (h : (workedAt inp s).store.active = s.store.active) :
      ActiveChange s (afterClearStage (recordAt inp s) inp.afterClear (closedAt inp s)) :=
    .none ((afterClearStage_active _ _ _).trans ((closeStage_active _ _ _ _).trans h))
  have passes (k : ServiceKind) (body : List Byte) (hr : recordAt inp s = some (k, body))
      (hread : readService k body (workedAt inp s) = workedAt inp s)
      (hclear : ∀ u, afterClearStage (some (k, body)) inp.afterClear u = u) :
      ActiveChange s (afterClearStage (recordAt inp s) inp.afterClear (closedAt inp s)) := by
    have changed := workedAt_activeChange inp s
    have left (hn : restartTaken (workedAt inp s) = false) :
        ActiveChange s (afterClearStage (recordAt inp s) inp.afterClear (closedAt inp s)) := by
      unfold closedAt
      rw [hr, hclear, closeStage_of_answered _ _ hread hn]
      exact changed.congr rfl rfl rfl rfl
    cases changed
    case none h => exact stands h
    case commit q _ ha _ => exact left (by unfold restartTaken; rw [ha]; rfl)
    case zero hk _ _ _ => exact left (by unfold restartTaken; rw [hk]; rfl)
  by_cases hc : ∃ body, recordAt inp s = some (.commit, body)
  · obtain ⟨body, hr⟩ := hc
    exact passes _ body hr rfl fun _ => rfl
  by_cases hz : ∃ body, recordAt inp s = some (.growthZero, body)
  · obtain ⟨body, hr⟩ := hz
    exact passes _ body hr rfl fun _ => rfl
  exact stands (workedAt_active inp s fun k body e =>
    ⟨fun hk => hc ⟨body, hk ▸ e⟩, fun hk => hz ⟨body, hk ▸ e⟩⟩)

end

/-! ## Every command -/

section
variable {s t : State}

theorem settled_activeChange {u : State} (h : ActiveChange s u) (e : settled u = .next t) : ActiveChange s t := by
  cases e
  have w := settleTriggers_within [] u
  exact h.congr rfl (congrArg TableStore.active w.same_store) (congrArg Link.state w.same_link)
    (congrArg Sent.answer w.same_sent)

theorem served_activeChange {act : State → State} (h : ActiveChange s (act s)) (e : served act s = .next t) :
    ActiveChange s t := by
  unfold served at e
  split at e
  · cases e; exact .none rfl
  · exact settled_activeChange h e

theorem between_activeChange (b : Between) (e : settled (betweenWork b s) = .next t) : ActiveChange s t :=
  settled_activeChange (.none (betweenWork_active s b)) e

theorem stopNow_active (body : List Byte) : (stopNow body s).store.active = s.store.active := by
  have service := congrArg TableStore.active (linkService_within .stop body [] s).same_store
  unfold stopNow
  split
  · exact (congrArg TableStore.active (gearLeaveWork_within _).same_store).trans
      ((settleTriggers_active _ []).trans service)
  · exact service

theorem restartNow_active (body : List Byte) : (restartNow body s).store.active = s.store.active := by
  have service := congrArg TableStore.active
    (linkService_within .restart body [] { s with sent := { s.sent with answer := noAnswer } }).same_store
  unfold restartNow
  dsimp only
  split
  · exact (restart_active _).trans service
  · exact service

/-- A hardware reset apart, an active copy changes by a service alone. -/
theorem exec_activeChange {c : Instr} (e : exec c s = .next t) :
    (∃ estop a b, c = .hardwareReset estop a b) ∨ ActiveChange s t := by
  have link (k : ServiceKind) (body : List Byte) (order : List ClampAxis) :
      (linkService k body order s).store.active = s.store.active :=
    congrArg TableStore.active (linkService_within k body order s).same_store
  cases c
  case hardwareReset estop a b => exact .inl ⟨estop, a, b, rfl⟩
  all_goals right
  case cycleTimerExpiry inp => cases e; exact expiry_activeChange inp s
  case cycleFrameArrival bytes order => exact between_activeChange (.frameArrival bytes order) e
  case valveBankGrant => exact between_activeChange .valveBankGrant e
  case unclampCeilingExpiry a => exact between_activeChange (.unclampCeiling a) e
  case clampCeilingExpiry a => exact between_activeChange (.clampCeiling a) e
  case dropCeilingExpiry a => exact between_activeChange (.dropCeiling a) e
  case drainCeilingExpiry => exact between_activeChange .drainCeiling e
  case shiftCeilingExpiry => exact between_activeChange .shiftCeiling e
  case wiggleTimerExpiry => exact between_activeChange .wiggleTimer e
  case waitCeilingExpiry => exact between_activeChange .waitCeiling e
  case pauseEnd => exact between_activeChange .pauseEnd e
  case queuedProgramStart => exact between_activeChange .queuedProgramStart e
  case lubeIntervalExpiry => exact between_activeChange .lubeInterval e
  case returnFrameArrival bytes => exact between_activeChange (.returnFrame bytes) e
  case activationCeilingExpiry => exact between_activeChange .activationCeiling e
  case estopOpening => exact between_activeChange .estopOpening e
  case estopClosing => exact between_activeChange .estopClosing e
  case handwheelEdge a b => exact between_activeChange (.handwheelEdge a b) e
  case storeVerified => exact between_activeChange .storeVerified e
  case storeMismatch => exact between_activeChange .storeMismatch e
  case storeCeilingExpiry => exact between_activeChange .storeCeiling e
  case readInfo body => exact served_activeChange (.none (readService_active s _ body)) e
  case readSegment body => exact served_activeChange (.none (readService_active s _ body)) e
  case readFlags body => exact served_activeChange (.none (readService_active s _ body)) e
  case readState body => exact served_activeChange (.none (readService_active s _ body)) e
  case start body => exact served_activeChange (.none (link _ body _)) e
  case stop body => exact served_activeChange (.none (stopNow_active body)) e
  case recover body order => exact served_activeChange (.none (link _ body order)) e
  case restart body => exact served_activeChange (.none (restartNow_active body)) e
  case unknownKind n body => exact served_activeChange (.none rfl) e
  case writeSegment body => exact served_activeChange (blockService_activeChange s _ body _) e
  case commit body order => exact served_activeChange (blockService_activeChange s _ body order) e
  case store body => exact served_activeChange (blockService_activeChange s _ body _) e
  case clearFlags body => exact served_activeChange (blockService_activeChange s _ body _) e
  case setMask body => exact served_activeChange (blockService_activeChange s _ body _) e
  case coolantTrigger body => exact served_activeChange (blockService_activeChange s _ body _) e
  case coolantStop body => exact served_activeChange (blockService_activeChange s _ body _) e
  case compTrigger body => exact served_activeChange (blockService_activeChange s _ body _) e
  case growthZero body => exact served_activeChange (blockService_activeChange s _ body _) e
  case clearFault body => exact served_activeChange (blockService_activeChange s _ body _) e

end

/-- Settles O11: WRITE_SEGMENT alone writes into a staging copy, within its length; COMMIT and GROWTH_ZERO alone change
an active one, and their answer stands to the end of the expiry that takes them. -/
theorem stagingLawKept : Obligations.StagingLawKept := by
  refine ⟨fun _ _ h e => stagingLaw_kept.step (fun _ _ hu => hu) h e, fun s t q e hq => ?_⟩
  unfold step at e
  split at e
  · cases e; exact absurd rfl hq
  · rename_i c rest hp
    rcases exec_activeChange e with ⟨estop, a, b, rfl⟩ | change
    · exact .inl ⟨estop, a, b, rest, hp⟩
    · exact .inr (change.conclusion (s := s.withPending rest) hq)

end Sys2Proof.Machine

/-! # Growth windows and updates (R46 to R55) -/

namespace Sys2Proof.Machine

-- Many short proofs that wait for the same case splitters: one after the other they need less memory.
set_option Elab.async false

section
variable {s t : State} {bs : List Byte}

/-! ## An update -/

theorem growthUpdate_of_none (m : Int) (h : s.comp.updates.pending = false) : growthUpdate bs m s = s := by
  unfold growthUpdate
  rw [h]
  rfl

/-- R54, R55: the applied growth after an update. -/
theorem growthUpdate_comp (bs : List Byte) (m : Int) (h : s.comp.updates.pending = true) :
    (growthUpdate bs m s).comp = { s.comp with
      applied := clampInt (-(compMax bs : Int)) (compMax bs) (updatedGrowth bs s.comp.hardFirst s.comp.applied m)
      hardFirst := false, updates := s.comp.updates.spend } := by
  unfold growthUpdate
  rw [h, if_pos rfl]
  dsimp only
  rw [raise_comp, (raiseIf_within _ _ _).same_comp]

theorem growthUpdate_limit (m : Int) (h : s.comp.updates.pending = true)
    (hm : compMax bs < (updatedGrowth bs s.comp.hardFirst s.comp.applied m).natAbs) :
    isRaised .compLimit (growthUpdate bs m s) = true := by
  unfold growthUpdate
  rw [h, if_pos rfl]
  refine isRaised_raise _ ((isRaised_raiseIf_self _ _ _).2 (.inr (decide_eq_true ?_)))
  unfold clampInt
  omega

theorem clampInt_of_within {n : Nat} {x : Int} (h : x.natAbs ≤ n) : clampInt (-(n : Int)) n x = x := by
  unfold clampInt
  omega

theorem clampInt_of_beyond {n : Nat} {x : Int} (h : n < x.natAbs) :
    clampInt (-(n : Int)) n x = if 0 < x then (n : Int) else -(n : Int) := by
  unfold clampInt
  split <;> omega

/-! ## A window -/

/-- R46: a sample enters the window. -/
def sampledWindow (s : State) (reading : Nat) (faulted : Bool) : State :=
  { s with comp := { s.comp with windowSum := s.comp.windowSum + reading, windowCount := s.comp.windowCount + 1,
                                 windowFaulted := s.comp.windowFaulted || faulted } }

theorem windowWork_of_active (hb : activeBytes s .compensation = some bs) (hr : s.link.state.atRest = false) :
    windowWork s =
      if 16 ≤ s.comp.windowCount + 1 then
        windowEnd bs (sampledWindow s (readingOf s.inputs.readings.an3).1 (readingOf s.inputs.readings.an3).2)
      else sampledWindow s (readingOf s.inputs.readings.an3).1 (readingOf s.inputs.readings.an3).2 := by
  unfold windowWork
  rw [hb]
  dsimp only
  rw [hr]
  rfl

theorem windowWork_of_idle (h : s.store.active.compensation = none ∨ s.link.state = .offline ∨ s.link.state = .halted) :
    windowWork s = s := by
  unfold windowWork
  split
  · rfl
  · rename_i bs hb
    rcases h with h | h | h
    · rw [activeBytes_of_none (t := .compensation) h] at hb
      cases hb
    all_goals rw [h]; rfl

theorem windowEnd_of_faulted (h : s.comp.windowFaulted = true) :
    windowEnd bs s = raise .sensorFault (discardWindow s) := by
  unfold windowEnd
  dsimp only
  rw [h]
  rfl

/-- R47: a valid window has given its measurement. -/
def measuredWindow (s : State) (sum : Nat) (m : Int) : State :=
  { s with comp := { s.comp with windowSum := 0, windowCount := 0, windowFaulted := false, lastSum := some sum,
                                 lastMeasurement := some m } }

/-- R48 to R50: the triggers of a valid window: the threshold's, then continuous mode's. -/
def windowTriggers (due : Option Bool) (continuous : Bool) (s : State) : State :=
  let s := due.elim s fun hard => growthTrigger hard s
  if continuous then growthTrigger false s else s

theorem windowEnd_of_valid (h : s.comp.windowFaulted = false) {m : Int} (hm : m = measurementOf bs s.comp.windowSum) :
    windowEnd bs s = growthUpdate bs m (windowTriggers (thresholdDue bs (m - s.comp.applied).natAbs) (compEnable bs 3)
      (measuredWindow s s.comp.windowSum m)) := by
  subst hm
  unfold windowEnd windowTriggers
  dsimp only
  rw [h]
  show growthUpdate _ _ _ = _
  unfold discardWindow measuredWindow
  dsimp only
  cases thresholdDue bs (measurementOf bs s.comp.windowSum - s.comp.applied).natAbs <;> rfl

theorem activeBytes_growthTrigger (hard : Bool) (s : State) (q : TableId) :
    activeBytes (growthTrigger hard s) q = activeBytes s q :=
  activeBytes_congr (growthTrigger_within hard s).same_store q

theorem windowTriggers_eq (hb : activeBytes s .compensation = some bs) (due : Option Bool) (continuous : Bool) :
    windowTriggers due continuous s = { s with comp := { s.comp with
      hardFirst := s.comp.hardFirst || due.getD false
      updates := if due.isSome = true ∨ continuous = true then updatesOf (compRestart bs) else s.comp.updates } } := by
  unfold windowTriggers
  cases due with
  | none =>
    cases continuous
    · simp
    · simp [growthTrigger_of_active hb]
  | some hard =>
    have first := growthTrigger_of_active hb hard
    cases continuous
    · simp [first]
    · have second := growthTrigger_of_active (s := growthTrigger hard s) (by rw [activeBytes_growthTrigger]; exact hb) false
      simp only [Option.elim, if_true, second]
      rw [first]
      simp

theorem windowTriggers_within (due : Option Bool) (continuous : Bool) (s : State) :
    Within [.comp] s (windowTriggers due continuous s) := by
  have first : Within [.comp] s (due.elim s fun hard => growthTrigger hard s) := by
    cases due with
    | none => exact .refl _ s
    | some hard => exact growthTrigger_within hard s
  unfold windowTriggers
  dsimp only
  split
  · exact first.trans (growthTrigger_within false _)
  · exact first

/-- R49: the threshold trigger, by what makes it due. -/
theorem thresholdDue_spec {bs : List Byte} {n : Nat} {soft hard : Bool}
    (hs : soft = true ↔ compSoft bs ≠ 255 ∧ compSoft bs < n)
    (hh : hard = true ↔ (compHard bs ≠ 255 ∧ compHard bs < n) ∨ (soft = true ∧ compEnable bs 0 = true)) :
    (thresholdDue bs n).getD false = hard ∧ ((thresholdDue bs n).isSome = true ↔ soft = true ∨ hard = true) := by
  unfold thresholdDue
  split
  · rename_i h
    have : hard = true := hh.2 (.inl h)
    simp [this]
  rename_i h
  split
  · rename_i h'
    have soft' : soft = true := hs.2 h'
    have : hard = compEnable bs 0 := Bool.eq_iff_iff.2 (hh.trans (by simp [h, soft']))
    simp [this, soft']
  · rename_i h'
    have soft' : soft = false := Bool.eq_false_iff.2 fun e => h' (hs.1 e)
    have : hard = false := Bool.eq_false_iff.2 fun e => by
      rcases hh.1 e with k | ⟨k, -⟩
      · exact h k
      · rw [soft'] at k; cases k
    simp [this, soft']

/-! ## The applied growth within the max correction (R55) -/

theorem GrowthLaw.of_same (h : GrowthLaw s) (hb : activeBytes t .compensation = activeBytes s .compensation)
    (ha : t.comp.applied = s.comp.applied) : GrowthLaw t := fun bs e => by
  rw [ha]
  exact h bs (by rwa [← hb])

theorem GrowthLaw.of_zero (h : t.comp.applied = 0) : GrowthLaw t := fun _ _ => by
  rw [h]
  exact Nat.zero_le _

theorem growthLaw_reads : Reads [.comp, .store] GrowthLaw := fun k h =>
  h.of_same (activeBytes_congr (k .store (by decide)) _) (by rw [(k .comp (by decide) : _ = _)])

/-- The law where the work leaves the tables and the applied growth. -/
theorem GrowthLaw.of_applied (h : GrowthLaw s) {l : List Part} (hw : Within l s t)
    (ha : t.comp.applied = s.comp.applied) (hd : Part.store ∉ l := by exact of_decide_eq_true rfl) : GrowthLaw t :=
  h.of_same (activeBytes_congr (hw .store hd) _) ha

theorem growthTrigger_applied (hard : Bool) (s : State) : (growthTrigger hard s).comp.applied = s.comp.applied := by
  unfold growthTrigger
  split <;> rfl

theorem windowTriggers_applied (due : Option Bool) (continuous : Bool) (s : State) :
    (windowTriggers due continuous s).comp.applied = s.comp.applied := by
  have first : (due.elim s fun hard => growthTrigger hard s).comp.applied = s.comp.applied := by
    cases due with
    | none => rfl
    | some hard => exact growthTrigger_applied hard s
  unfold windowTriggers
  dsimp only
  split
  · rw [growthTrigger_applied, first]
  · exact first

theorem enabledTrigger_applied (bit : Nat) (s : State) : (enabledTrigger bit s).comp.applied = s.comp.applied := by
  unfold enabledTrigger
  split
  · split
    · exact growthTrigger_applied true s
    · rfl
  · rfl

theorem growthSpindleStart_applied (s : State) : (growthSpindleStart s).comp.applied = s.comp.applied := by
  unfold growthSpindleStart
  split
  · split
    · exact enabledTrigger_applied 2 s
    · rfl
  · rfl

theorem spindleAnnounceWork_applied (s : State) : (spindleAnnounceWork s).comp.applied = s.comp.applied := by
  unfold spindleAnnounceWork
  dsimp only
  split
  · exact growthSpindleStart_applied _
  · split <;> rfl

theorem completeShift_applied (s : State) : (completeShift s).comp.applied = s.comp.applied := by
  rcases completeShift_cases s with ⟨-, e⟩ | ⟨r, u, -, hu, he⟩
  · rw [e]
  have released : u.comp.applied = s.comp.applied := by
    rw [hu]
    unfold shiftReleased
    rw [(release_within _ _).same_comp]
    have before : (settleTriggers [] (shiftCompleted r s)).comp = s.comp :=
      (settleTriggers_within [] _).same_comp.trans (shiftCompleted_within r s).same_comp
    split
    · rw [enabledTrigger_applied, before]
    · rw [before]
  rcases he with ⟨-, e⟩ | ⟨q, -, e⟩
  · rw [e, released]
  · rw [e, (actOnRequest_within q u).same_comp, released]

theorem gearStageWork_applied (s : State) : (gearStageWork s).comp.applied = s.comp.applied := by
  rcases gearStageWork_cases s with e | ⟨_, r, -, -, -, -, e⟩ | ⟨_, -, -, e⟩ | ⟨_, n, -, -, e⟩ | ⟨_, n, -, -, -, e⟩
  · rw [e]
  · rw [e, (enterEngaged_within r s).same_comp]
  · rw [e, (enterValveWait_within s).same_comp]
  · rw [e]
  · rw [e, completeShift_applied]

/-- An update is within the max correction of the table by which it is made. -/
theorem GrowthLaw.growthUpdate (h : GrowthLaw s) (hb : activeBytes s .compensation = some bs) (m : Int) :
    GrowthLaw (growthUpdate bs m s) := by
  cases hp : s.comp.updates.pending
  · rw [growthUpdate_of_none m hp]
    exact h
  intro bs' hb'
  rw [activeBytes_congr (growthUpdate_within bs m s).same_store, hb] at hb'
  rw [← Option.some.inj hb', growthUpdate_comp bs m hp]
  exact natAbs_clampInt_le _ _

theorem GrowthLaw.windowEnd (h : GrowthLaw s) (hb : activeBytes s .compensation = some bs) :
    GrowthLaw (windowEnd bs s) := by
  cases hf : s.comp.windowFaulted
  · rw [windowEnd_of_valid hf rfl]
    have triggered := windowTriggers_within (thresholdDue bs (measurementOf bs s.comp.windowSum - s.comp.applied).natAbs)
      (compEnable bs 3) (measuredWindow s s.comp.windowSum (measurementOf bs s.comp.windowSum))
    have active := activeBytes_congr triggered.same_store .compensation
    exact GrowthLaw.growthUpdate (h.of_same active (windowTriggers_applied _ _ _)) (active.trans hb) _
  · rw [windowEnd_of_faulted hf]
    exact h.of_same rfl rfl

theorem GrowthLaw.windowWork (h : GrowthLaw s) : GrowthLaw (windowWork s) := by
  cases hb : activeBytes s .compensation with
  | none => unfold Machine.windowWork; rw [hb]; exact h
  | some bs =>
    cases hr : s.link.state.atRest
    · rw [windowWork_of_active hb hr]
      split
      · exact GrowthLaw.windowEnd (s := sampledWindow s _ _) (h.of_same rfl rfl) hb
      · exact h.of_same rfl rfl
    · unfold Machine.windowWork; rw [hb]; dsimp only; rw [hr]; exact h

/-! ### A GROWTH_ZERO leaves the max correction -/

theorem byteAt_overwrite_above {data : List Byte} {off i : Nat} (h : off + data.length ≤ i) :
    byteAt (overwrite bs off data) i = byteAt bs i := by
  have same : (overwrite bs off data)[i]? = bs[i]? := by
    unfold overwrite
    by_cases hl : off ≤ bs.length
    · have front : (bs.take off ++ data).length = off + data.length := by
        rw [List.length_append, List.length_take]; omega
      rw [List.getElem?_append_right (by omega), front, List.getElem?_drop]
      congr 1
      omega
    · rw [List.getElem?_eq_none (by simp; omega), List.getElem?_eq_none (by omega)]
  unfold byteAt
  rw [List.getD_eq_getElem?_getD, List.getD_eq_getElem?_getD, same]

theorem compMax_overwrite (n : Nat) : compMax (overwrite bs 42 (be16 n)) = compMax bs := by
  have above (i : Nat) (h : 44 ≤ i) : byteAt (overwrite bs 42 (be16 n)) i = byteAt bs i :=
    byteAt_overwrite_above (by rw [be16_length]; exact h)
  unfold compMax u16At
  rw [above 49 (by decide), above 50 (by decide)]

theorem activeBytes_setActive_ne {q t : TableId} (h : q ≠ t) (img : Image) (s : State) :
    activeBytes (setActive t img s) q = activeBytes s q := by
  unfold activeBytes setActive
  rw [PerTable.get_set_ne _ _ h]

/-- A COMMIT of the compensation table starts the applied growth at 0, and a GROWTH_ZERO leaves the limit. -/
theorem GrowthLaw.effect {order : List ClampAxis} (h : GrowthLaw s) (e : BlockEffect order s t) : GrowthLaw t := by
  cases e
  case commit q _ _ _ =>
    by_cases hq : q = .compensation
    · subst hq
      refine .of_zero ?_
      show (compensationCommitted _).comp.applied = 0
      rw [compensationCommitted_comp (activeBytes_setActive_self .compensation _ s)]
    · refine h.of_same ?_ ?_
      · rw [activeBytes_congr (commitEffects_within q _ order _).same_store]
        exact activeBytes_setActive_ne (Ne.symm hq) _ s
      · rw [commitEffects_comp _ _ _ hq]
        rfl
  case flags hw => exact growthLaw_reads.keep hw h
  case trigger p _ _ => exact growthLaw_reads.keep (triggerProgram_within p s) h
  case growth hard => exact h.of_applied (growthTrigger_within hard s) (growthTrigger_applied hard s)
  case zero bs sum hb _ _ =>
    intro bs' hb'
    rw [activeBytes_setActive_self] at hb'
    rw [← Option.some.inj hb']
    show s.comp.applied.natAbs ≤ compMax (overwrite bs 42 (be16 (growthRef sum)))
    rw [compMax_overwrite]
    exact h bs hb
  case gear => exact growthLaw_reads.keep (reevaluate_within s) h
  all_goals exact h.of_same rfl rfl

theorem growthLaw_link : LinkKept GrowthLaw where
  quiet _ _ _ _ _ h := h
  raise _ _ h := h
  estop _ _ h := h
  rest st s _ h := h.of_same (activeBytes_congr (enterRest_store st s) _) (by rw [enterRest_comp])
  standby order s _ _ h := growthLaw_reads.keep (enterStandby_within order s) h
  activating p s _ _ h := growthLaw_reads.keep (enterActivating_within p s) h
  running {s} _ _ h := growthLaw_reads.keep (enterRunning_within s) h
  leave st s _ _ h := growthLaw_reads.keep (leaveRunning_within st s) h
  lost _ h := h

theorem growthLaw_kept : Kept GrowthLaw where
  reset _ _ _ _ _ := .of_zero rfl
  settle order _ h := growthLaw_reads.keep (settleTriggers_within order _) h
  sent _ _ h := h
  between e s h := by
    cases e
    case frameArrival bytes order => exact growthLaw_link.frameArrives bytes order h
    case returnFrame bytes => exact growthLaw_link.returnArrives bytes h
    case activationCeiling => exact growthLaw_link.activationEnds h
    case estopOpening => exact growthLaw_link.estopOpens h
    case storeVerified | storeMismatch | storeCeiling =>
      refine h.of_same ?_ (by rw [(betweenWork_within _ s).same_comp])
      unfold activeBytes
      rw [betweenWork_active]
    all_goals exact growthLaw_reads.keep (betweenWork_within _ s) h
  linkService kind body order _ h :=
    growthLaw_link.linkService (fun hw hu => growthLaw_reads.keep hw hu) kind body order h
  restart {s} _ := .of_zero (by rw [restart_comp]; rfl)
  passTime _ _ h := h
  linkWork taken order _ h := growthLaw_link.linkWork rfl taken order h
  intake inp taken _ h := growthLaw_reads.keep (intakeStage_within inp taken _) h
  task c u s h := by
    cases u
    case gearStage => exact h.of_applied (gearStageWork_within s) (gearStageWork_applied s)
    case spindleAnnounce => exact h.of_applied (spindleAnnounceWork_within s) (spindleAnnounceWork_applied s)
    case stoppedTimer => exact h.of_same rfl rfl
    case window => exact h.windowWork
    case droop => exact h.of_same rfl rfl
    case service =>
      obtain ⟨v, he, hw⟩ := runTask_service_served (s := s) c
      exact growthLaw_reads.keep hw (h.effect he)
    all_goals exact growthLaw_reads.keep (runTask_within c _ s) h
  leave _ _ _ h := h

end

/-- Settles O30: an update clamps to the max correction, a window's sixteenth sample decides by its threshold and
continuous triggers, and no other work changes the applied growth but to set it to 0. -/
theorem growthUpdateIsClamped : Obligations.GrowthUpdateIsClamped := by
  refine ⟨fun bs m s hp => ?_, fun bs m s hp => growthUpdate_of_none m hp, fun s h => windowWork_of_idle h, ?_,
    fun _ _ h e => growthLaw_kept.step (fun _ _ hu => hu) h e⟩
  · have raised : isRaised .compUpdated (growthUpdate bs m s) = true := by
      unfold growthUpdate
      rw [if_pos hp]
      exact isRaised_raise_self _ _
    rw [growthUpdate_comp bs m hp]
    refine ⟨natAbs_clampInt_le _ _, rfl, rfl, raised, fun hf hm => ?_, fun hf hm => ?_, fun hf hm => ⟨?_, ?_⟩⟩
    · exact (clampInt_of_within (by rw [hf]; exact hm)).trans (by rw [hf]; rfl)
    · exact (clampInt_of_within (by rw [hf]; exact hm)).trans (by rw [hf]; rfl)
    · exact (clampInt_of_beyond (by rw [hf]; exact hm)).trans (by rw [hf]; rfl)
    · exact growthUpdate_limit m hp (by rw [hf]; exact hm)
  · intro bs reading sum faulted s hb ho hh hr hsum
    have rest : s.link.state.atRest = false := by
      cases hl : s.link.state <;> first | rfl | exact absurd hl ho | exact absurd hl hh
    have window := windowWork_of_active hb rest
    rw [← hr] at window
    subst hsum
    refine ⟨fun hc => ?_, fun hc hf => ?_, fun m soft hard hc hf hg hm hs hd => ?_⟩
    · rw [window, if_neg (by omega)]
      rfl
    · have faults : (sampledWindow s reading faulted).comp.windowFaulted = true := by
        rcases hf with hf | hf <;> simp [sampledWindow, hf]
      rw [window, if_pos hc, windowEnd_of_faulted faults]
      rfl
    · have valid : (sampledWindow s reading faulted).comp.windowFaulted = false := by simp [sampledWindow, hf, hg]
      obtain ⟨first, due⟩ := thresholdDue_spec hs hd
      rw [window, if_pos hc, windowEnd_of_valid (m := m) valid hm, windowTriggers_eq
        (s := measuredWindow (sampledWindow s reading faulted) _ m) hb]
      show growthUpdate bs m { s with comp := _ } = _
      refine congrArg (growthUpdate bs m) ?_
      dsimp only [measuredWindow, sampledWindow]
      rw [first]
      simp only [due, or_assoc]
      rfl

end Sys2Proof.Machine

/-! # What an expiry does as a whole: quiet expiries, the axes and the spindle -/

namespace Sys2Proof.Machine

-- Many short proofs that wait for the same case splitters: one after the other they need less memory.
set_option Elab.async false

/-! ## An expiry without a service record -/

section
variable {inp : ExpiryInput} {s : State}

theorem takenAt_eq (inp : ExpiryInput) (s : State) : takenAt inp s = takenFrame s.link := rfl

theorem takenFrame_of_slot {l : Link} {f : CycleFrame} (hl : l.state ≠ .offline) (h : l.slot = some ⟨f, false⟩) :
    takenFrame l = some f := by
  simp [takenFrame, hl, h]

theorem takenFrame_of_offline {l : Link} (h : l.state = .offline) : takenFrame l = none := if_pos h

/-- A taken frame, if any, carries no service record. -/
def NoRecord (s : State) : Prop := ∀ f, takenFrame s.link = some f → f.kind = 0

theorem NoRecord.of_none (h : takenFrame s.link = none) : NoRecord s := fun f e => by rw [h] at e; cases e

theorem NoRecord.of_some {f : CycleFrame} (h : takenFrame s.link = some f) (hk : f.kind = 0) : NoRecord s := fun g e => by
  rw [h] at e
  cases e
  exact hk

theorem recordOfFrame_of_kind {f : CycleFrame} (h : f.kind = 0) : recordOfFrame (some f) = none := by
  unfold recordOfFrame
  dsimp only
  rw [h]
  rfl

theorem NoRecord.recordAt (h : NoRecord s) (inp : ExpiryInput) : recordAt inp s = none := by
  unfold Machine.recordAt
  rw [takenAt_eq]
  cases ht : takenFrame s.link with
  | none => rfl
  | some f => exact recordOfFrame_of_kind (h f ht)

/-- The state in which an expiry's link stage begins: the time has passed, and the answer is that of no record. -/
def begunAt (inp : ExpiryInput) (s : State) : State :=
  { passTime inp.clock s with sent := { s.sent with answer := noAnswer } }

theorem linkedAt_of_quiet (h : NoRecord s) :
    linkedAt inp s = settleTriggers [] (linkWork (takenFrame s.link) inp.claimOrder (begunAt inp s)) := by
  unfold linkedAt linkStage
  rw [h.recordAt, takenAt_eq]
  cases ht : takenFrame s.link with
  | none => rfl
  | some f =>
    have known : unknownRecord f = false := by simp [unknownRecord, h f ht]
    dsimp only
    rw [known]
    rfl

theorem linkedAt_link (h : NoRecord s) :
    (linkedAt inp s).link = (linkWork (takenFrame s.link) inp.claimOrder (begunAt inp s)).link := by
  rw [linkedAt_of_quiet h, (settleTriggers_within _ _).same_link]

/-- Where no record is taken the tasks leave the store and the answer. -/
theorem taskTurn_quiet {c : Turn} (hr : c.record = none) (s : State) (u : Task) : Within quietParts s (taskTurn c s u) := by
  by_cases hu : u = .service
  · subst hu
    have idle : runTask c .service s = s := by
      unfold runTask
      dsimp only
      rw [hr]
    unfold taskTurn
    rw [idle]
    exact (settleTriggers_within _ s).mono (by decide)
  · exact (taskTurn_within c s u).mono (taskParts_quiet hu)

/-- The blocks' tasks where no record is taken. -/
theorem runTasks_quiet {c : Turn} (h : c.record = none) (order : List Task) (s : State) :
    Within quietParts s (runTasks c order s) := foldl_within (taskTurn_quiet h) _ s

theorem workedAt_quiet (h : NoRecord s) : Within quietParts (linkedAt inp s) (workedAt inp s) :=
  ((intakeStage_within _ _ _).mono (by decide)).trans (runTasks_quiet (h.recordAt inp) _ _)

theorem workedAt_link (inp : ExpiryInput) (s : State) : (workedAt inp s).link = (linkedAt inp s).link :=
  (runTasks_within _ _ _).same_link.trans (intakeStage_within _ _ _).same_link

theorem workedAt_seen (inp : ExpiryInput) (s : State) : (workedAt inp s).seen = s.seen :=
  (runTasks_within _ _ _).same_seen.trans
    ((intakeStage_within _ _ _).same_seen.trans (linkStage_within _ _ _ _).same_seen)

theorem workedAt_store (h : NoRecord s) : (workedAt inp s).store = s.store :=
  (workedAt_quiet h).same_store.trans (linkStage_within _ _ _ _).same_store

theorem linkedAt_answer (h : NoRecord s) : (linkedAt inp s).sent.answer = noAnswer := by
  rw [linkedAt_of_quiet h, (settleTriggers_within _ _).same_sent, (linkWork_within _ _ _).same_sent]
  rfl

theorem workedAt_answer (h : NoRecord s) : (workedAt inp s).sent.answer = noAnswer := by
  rw [(workedAt_quiet h).same_sent, linkedAt_answer h]

/-- B's mode as an expiry's echo frame reports it, before a COMMIT of the expiry. -/
def rotaryBAt (inp : ExpiryInput) (s : State) : Bool := isRotary (linkedAt inp s) .b

/-- Where no record is taken an expiry ends with the frames that leave. -/
theorem expiry_of_quiet (h : NoRecord s) :
    expiry inp s = framesLeave (rotaryBAt inp s) (takenFrame s.link) (workedAt inp s) := by
  have free : restartTaken (workedAt inp s) = false := by
    unfold restartTaken
    rw [workedAt_answer h]
    rfl
  rw [expiry_eq, h.recordAt]
  unfold closedAt closeStage
  rw [h.recordAt]
  dsimp only
  rw [free]
  rfl

theorem exec_expiry (inp : ExpiryInput) (s : State) : exec (.cycleTimerExpiry inp) s = .next (expiry inp s) := rfl

/-! ### What holds as the frames leave -/

theorem expiry_link (h : NoRecord s) : (expiry inp s).link =
    { (linkWork (takenFrame s.link) inp.claimOrder (begunAt inp s)).link with
      returnFresh := false
      enableSent := (linkWork (takenFrame s.link) inp.claimOrder (begunAt inp s)).link.enable } := by
  rw [expiry_of_quiet h]
  show { (workedAt inp s).link with returnFresh := false, enableSent := (workedAt inp s).link.enable } = _
  rw [workedAt_link, linkedAt_link h]

theorem expiry_store (h : NoRecord s) : (expiry inp s).store = s.store := by
  rw [expiry_of_quiet h]
  exact workedAt_store h

theorem expiry_drive (h : NoRecord s) : (expiry inp s).sent.drive = some (driveFrameOf (expiry inp s)) := by
  rw [expiry_of_quiet h]
  rfl

theorem driveFrameOf_setpoint (s : State) (a : Axis) : (driveFrameOf s).setpoints.get a = (s.axes.get a).out := by
  cases a <;> rfl

theorem expiry_echo_of_offline (h : NoRecord s)
    (hl : (linkWork (takenFrame s.link) inp.claimOrder (begunAt inp s)).link.state = .offline) :
    (expiry inp s).sent.echo = none := by
  rw [expiry_of_quiet h]
  refine if_pos ?_
  rw [workedAt_link, linkedAt_link h, hl]

theorem expiry_echo_of_online (h : NoRecord s)
    (hl : (linkWork (takenFrame s.link) inp.claimOrder (begunAt inp s)).link.state ≠ .offline) :
    (expiry inp s).sent.echo = some (echoFrameOf (rotaryBAt inp s) (takenFrame s.link) (workedAt inp s)) := by
  rw [expiry_of_quiet h]
  refine if_neg ?_
  rw [workedAt_link, linkedAt_link h]
  exact hl

/-- A flag that the link stage has raised stands as the frames leave. -/
theorem expiry_raised (h : NoRecord s) {f : Flag}
    (hf : isRaised f (linkWork (takenFrame s.link) inp.claimOrder (begunAt inp s)) = true) :
    isRaised f (expiry inp s) = true := by
  have linked : isRaised f (linkedAt inp s) = true := by
    rw [linkedAt_of_quiet h]
    exact (settleTriggers_grows _ _).raised f hf
  rw [expiry_of_quiet h]
  have sampled : isRaised f (sampledAt inp s) = true :=
    (isRaised_congr (intakeStage_within _ _ _).same_flags).trans linked
  exact (runTasks_grows (h.recordAt inp) inp.order _).raised f sampled

end

/-! ## The axes over the tasks of an expiry -/

/-- Two channels that differ at most in the offset and the frozen base. -/
def SameMotion (c d : AxisChannel) : Prop := d = { c with offset := d.offset, frozen := d.frozen }

theorem SameMotion.refl (c : AxisChannel) : SameMotion c c := rfl

theorem SameMotion.trans {c d e : AxisChannel} (h : SameMotion c d) (k : SameMotion d e) : SameMotion c e := by
  unfold SameMotion at *
  rw [k, h]

theorem sameMotion_of_thawed {c d : AxisChannel} (h : d = c ∨ d = { c with frozen := none }) : SameMotion c d := by
  rcases h with rfl | rfl <;> rfl

section
variable {s : State} {c : Turn}

theorem transfer_sameMotion (s : State) (a : Axis) : SameMotion (s.axes.get a) ((transfer s).axes.get a) := by
  unfold transfer
  split
  · rename_i q _
    split
    · unfold transferMove
      dsimp only
      rw [(raiseIf_within _ _ _).same_axes]
      by_cases e : a = q
      · subst e
        dsimp only
        rw [PerAxis.get_set_self]
        rfl
      · dsimp only
        rw [PerAxis.get_set_ne _ _ e]
        rfl
    · rfl
  · rfl
  · rfl

theorem grantAxis_sameMotion (q : Axis) (s : State) (a : Axis) :
    SameMotion (s.axes.get a) ((grantAxis q s).axes.get a) := by
  unfold grantAxis
  rw [raise_axes]
  by_cases e : a = q
  · subst e
    dsimp only
    rw [PerAxis.get_set_self]
    rfl
  · dsimp only
    rw [PerAxis.get_set_ne _ _ e]
    rfl

theorem waitWork_sameMotion (taken held : Option CycleFrame) (s : State) (a : Axis) :
    SameMotion (s.axes.get a) ((waitWork taken held s).axes.get a) := by
  rcases waitWork_cases taken held s with ⟨-, e⟩ | ⟨q, u, -, hu, he⟩
  · rw [e]; rfl
  have same : u.axes = s.axes := hu ▸ (stillUpdate_permitUpdate_within taken q s).same_axes
  rcases he with ⟨-, e⟩ | ⟨-, e⟩
  · rw [e, ← same]
    exact grantAxis_sameMotion q u a
  · rw [e, same]; rfl

theorem handwheelWork_sameMotion (taken held : Option CycleFrame) (s : State) (a : Axis) :
    SameMotion (s.axes.get a) ((handwheelWork taken held s).axes.get a) := by
  by_cases hr : s.link.state = .running
  · unfold handwheelWork
    rw [if_pos hr]
    exact (sameMotion_of_thawed ((permitWithdrawn_eased taken s).axis a)).trans
      ((waitWork_sameMotion taken held _ a).trans (transfer_sameMotion _ a))
  · rw [(handwheelWork_of_not_running hr).same_axes]
    rfl

/-- The tasks that move no axis's offset and compute no output. -/
theorem runTask_thaws {u : Task} (hx : u ≠ .axes) (hh : u ≠ .handwheel) (hb : u ≠ .absorb) (a : Axis) :
    (runTask c u s).axes.get a = s.axes.get a ∨
    (runTask c u s).axes.get a = { s.axes.get a with frozen := none } := by
  cases u
  case axes => exact absurd rfl hx
  case handwheel => exact absurd rfl hh
  case absorb => exact absurd rfl hb
  case pendantFirst => exact pendantFirstWork_axes s a
  case selector => exact delivered_selector_axes s a
  case pressure => exact (pressureWork_effect s).eased.axis a
  case clamp q => exact (clampWork_effect _ q s).eased.axis a
  all_goals exact .inl (by rw [(runTask_within c _ s).same_axes])

theorem runTask_sameMotion {u : Task} (hx : u ≠ .axes) (a : Axis) :
    SameMotion (s.axes.get a) ((runTask c u s).axes.get a) := by
  by_cases hh : u = .handwheel
  · exact hh ▸ handwheelWork_sameMotion c.taken c.held s a
  by_cases hb : u = .absorb
  · subst hb
    unfold runTask
    dsimp only
    split
    · cases c.taken with
      | none => rfl
      | some f =>
        show SameMotion _ ((absorbWork f s).axes.get a)
        rw [absorbWork_axes]
        split <;> rfl
    · rfl
  exact sameMotion_of_thawed (runTask_thaws hx hh hb a)

theorem taskTurn_axes (c : Turn) (s : State) (u : Task) : (taskTurn c s u).axes = (runTask c u s).axes :=
  (settleTriggers_within _ _).same_axes

theorem foldl_sameMotion {us : List Task} (h : Task.axes ∉ us) (s : State) (a : Axis) :
    SameMotion (s.axes.get a) ((us.foldl (taskTurn c) s).axes.get a) := by
  induction us generalizing s with
  | nil => rfl
  | cons u us ih =>
    have first : SameMotion (s.axes.get a) ((taskTurn c s u).axes.get a) := by
      rw [taskTurn_axes]
      exact runTask_sameMotion (fun e => h (e ▸ List.mem_cons_self)) a
    exact first.trans (ih (fun hm => h (List.mem_cons_of_mem u hm)) _)

/-- A channel's computation leaves its offset. -/
theorem runTask_offset {u : Task} (hh : u ≠ .handwheel) (hb : u ≠ .absorb) (a : Axis) :
    ((runTask c u s).axes.get a).offset = (s.axes.get a).offset := by
  by_cases hx : u = .axes
  · subst hx
    show ((axesWork s).axes.get a).offset = _
    rw [axesWork_axes]
    rfl
  · rcases runTask_thaws (c := c) (s := s) hx hh hb a with e | e <;> rw [e]

theorem foldl_offset {us : List Task} (hh : Task.handwheel ∉ us) (hb : Task.absorb ∉ us)
    (s : State) (a : Axis) : ((us.foldl (taskTurn c) s).axes.get a).offset = (s.axes.get a).offset := by
  induction us generalizing s with
  | nil => rfl
  | cons u us ih =>
    have first : ((taskTurn c s u).axes.get a).offset = (s.axes.get a).offset := by
      rw [taskTurn_axes]
      exact runTask_offset (fun e => hh (e ▸ List.mem_cons_self)) (fun e => hb (e ▸ List.mem_cons_self)) a
    exact (ih (fun hm => hh (List.mem_cons_of_mem u hm)) (fun hm => hb (List.mem_cons_of_mem u hm)) _).trans first

/-- The axes' computation comes after the absorb and handwheel work, and what follows it leaves output and offset. -/
theorem runTasks_axes (c : Turn) (order : List Task) (s : State) :
    ∃ before : List Task, ∃ v, v = before.foldl (taskTurn c) s ∧
      (∀ a, SameMotion (s.axes.get a) (v.axes.get a)) ∧
      ∀ a, SameMotion (movedAxis (axisMotion v a) (v.axes.get a)) ((runTasks c order s).axes.get a) ∧
        ((runTasks c order s).axes.get a).offset = (v.axes.get a).offset := by
  obtain ⟨before, after, e, hb, ha⟩ := schedule_split c.record order .axes
  have nodup := schedule_nodup c.record order
  rw [e] at nodup
  have placed (p : Task) (hp : p ∈ prerequisites c.record .axes) : p ∉ after := fun hm =>
    (List.nodup_append.mp nodup).2.2 p (schedule_inOrder c.record order before .axes after e p hp) p
      (List.mem_cons_of_mem _ hm) rfl
  refine ⟨before, _, rfl, foldl_sameMotion hb s, fun a => ?_⟩
  have moved : (taskTurn c (before.foldl (taskTurn c) s) .axes).axes.get a =
      movedAxis (axisMotion (before.foldl (taskTurn c) s) a) ((before.foldl (taskTurn c) s).axes.get a) := by
    rw [taskTurn_axes]
    exact axesWork_axes _ a
  unfold runTasks
  rw [e, List.foldl_append, List.foldl_cons]
  refine ⟨?_, ?_⟩
  · rw [← moved]
    exact foldl_sameMotion ha _ a
  · rw [foldl_offset (placed _ (by simp [prerequisites])) (placed _ (by simp [prerequisites])), moved]
    rfl

end

end Sys2Proof.Machine

/-! # The frames that leave, and expiries in STANDBY and OFFLINE (R5, R8, R11, R36) -/

namespace Sys2Proof.Machine

-- Many short proofs that wait for the same case splitters: one after the other they need less memory.
set_option Elab.async false

/-! ## The link controller's handling where drive enable is not due -/

section
variable {s : State}

theorem not_enabled_cases {l : LinkState} (h : l.enabled = false) :
    l.moving = false ∧ l ≠ .stopping ∧ l ≠ .linkLost := by
  cases l <;> first | exact ⟨rfl, nofun, nofun⟩ | cases h

/-- Without drive enable nothing ends and nothing halts. -/
theorem endFollow_of_not_enabled (order : List ClampAxis) (h : s.link.state.enabled = false) :
    followingWork (endWork order s) = s := by
  obtain ⟨hm, hs, hl⟩ := not_enabled_cases h
  have ends : endWork order s = s := by
    rcases endWork_cases order s with ⟨-, hl', -⟩ | ⟨-, hl', -, -⟩ | ⟨-, e⟩
    · rcases hl' with k | ⟨k, -⟩
      · exact absurd k hs
      · exact absurd k hl
    · exact absurd hl' hl
    · exact e
  rw [ends]
  rcases followingWork_cases s with ⟨k, -, -⟩ | ⟨-, e⟩
  · exact absurd (hm.symm.trans k) nofun
  · exact e

/-- The drive-chain count is then set alone. -/
theorem linkTail_of_not_enabled (order : List ClampAxis) (h : s.link.state.enabled = false) :
    ∃ n, followingWork (endWork order (chainWork s)) = { s with link := { s.link with chainMiss := n } } := by
  obtain ⟨n, e⟩ : ∃ n, chainWork s = { s with link := { s.link with chainMiss := n } } := by
    rcases chainWork_cases s with ⟨n, e⟩ | ⟨-, -, e⟩
    · exact ⟨n, e⟩
    · rcases halt_cases .driveChainLost { s with link := { s.link with chainMiss := 3 } } with ⟨he, -⟩ | ⟨-, e'⟩
      · exact absurd (h.symm.trans he) nofun
      · exact ⟨3, e.trans e'⟩
  refine ⟨n, ?_⟩
  rw [e]
  exact endFollow_of_not_enabled (s := { s with link := { s.link with chainMiss := n } }) order h

theorem linkWork_of_taken (f : CycleFrame) (order : List ClampAxis) (h : s.link.state.enabled = false) :
    ∃ n, linkWork (some f) order s = { s with link := { s.link with
      slot := some ⟨f, true⟩, missCount := 0, takenSeq := some f.seq, chainMiss := n } } :=
  linkTail_of_not_enabled (s := { s with link := { s.link with
    slot := some ⟨f, true⟩, missCount := 0, takenSeq := some f.seq } }) order h

theorem linkWork_of_offline (order : List ClampAxis) (h : s.link.state = .offline) :
    ∃ n, linkWork none order s = { s with link := { s.link with chainMiss := n } } := by
  have miss : slotWork none s = s := if_pos h
  unfold linkWork
  rw [miss]
  exact linkTail_of_not_enabled order (by rw [h]; rfl)

/-! ## The outputs where the axes track -/

theorem actualPos_congr {t : State} (hs : t.store = s.store) (hr : t.link.returns = s.link.returns) (a : Axis) :
    actualPos t a = actualPos s a := by
  unfold actualPos isRotary actualRaw
  rw [activeBytes_congr hs, hr]

/-- R36: outside the moving states the drive frame carries the actual positions. -/
theorem expiry_tracks {inp : ExpiryInput} (h : NoRecord s)
    (hm : (linkWork (takenFrame s.link) inp.claimOrder (begunAt inp s)).link.state.moving = false)
    (hr : (linkWork (takenFrame s.link) inp.claimOrder (begunAt inp s)).link.returns = s.link.returns) (a : Axis) :
    ((expiry inp s).axes.get a).out = actualPos s a := by
  obtain ⟨before, v, hv, -, he⟩ := runTasks_axes (turnAt inp s) inp.order (sampledAt inp s)
  have hw : Within quietParts (sampledAt inp s) v := hv ▸ foldl_within (taskTurn_quiet (h.recordAt inp)) before _
  have link : v.link = (linkWork (takenFrame s.link) inp.claimOrder (begunAt inp s)).link :=
    hw.same_link.trans ((intakeStage_within _ _ _).same_link.trans (linkedAt_link h))
  have store : v.store = s.store := hw.same_store.trans (sampledAt_store inp s)
  have out : ((workedAt inp s).axes.get a).out = (axisMotion v a).out := by
    have moved := (he a).1
    unfold SameMotion at moved
    unfold workedAt
    rw [moved]
    rfl
  rw [expiry_of_quiet h]
  show ((workedAt inp s).axes.get a).out = _
  rw [out, axisMotion_of_not_moving (by rw [link]; exact hm)]
  exact actualPos_congr store (by rw [link, hr]) a

/-- R87: outside the moving states the spindle output is 0. -/
theorem expiry_spindle {inp : ExpiryInput} (hm : (expiry inp s).link.state.moving = false) :
    (expiry inp s).gear.output = 0 := by
  by_contra hne
  exact absurd (hm.symm.trans (expiry_spindleLaw inp s hne).1) nofun

/-! ## What leaves the part -/

/-- The frames that leave carry the state as the blocks' work left it, the echo frame with the answers that read. -/
theorem closeStage_leaves (rb : Bool) (taken : Option CycleFrame) (r : Record) (s : State) :
    ∃ x : Sent, (closeStage rb taken r s).sent.drive = some (driveFrameOf s) ∧
      (closeStage rb taken r s).seen = seenNow s ∧
      (closeStage rb taken r s).sent.echo =
        if s.link.state = .offline then none else some (echoFrameOf rb taken { s with sent := x }) := by
  have left (u : State) (hu : Within [.sent] s u) :
      let t := if restartTaken u then restart (framesLeave rb taken u) else framesLeave rb taken u
      t.sent.drive = some (driveFrameOf s) ∧ t.seen = seenNow s ∧
        t.sent.echo = if s.link.state = .offline then none else some (echoFrameOf rb taken { s with sent := u.sent }) := by
    rw [eq_of_within_sent hu]
    dsimp only
    split
    · rw [(restart_within_base _).same_sent, (restart_within_base _).same_seen]
      exact ⟨rfl, rfl, rfl⟩
    · exact ⟨rfl, rfl, rfl⟩
  cases r with
  | none => exact ⟨_, left s (.refl _ s)⟩
  | some kb => exact ⟨_, left _ (readService_within kb.1 kb.2 s)⟩

theorem clampField_toNat (s : State) {a : Axis} {c : ClampAxis} (h : a.clamp = some c) :
    (clampField s a).toNat = if clampAbsent s c then 8 else (s.clamps.get c).state.code := by
  have small (st : ClampState) : st.code < 256 := by
    cases st <;> exact of_decide_eq_true rfl
  unfold clampField
  rw [h]
  dsimp only
  split
  · rfl
  · rw [BitVec.toNat_ofNat, Nat.mod_eq_of_lt (small _)]

theorem reportedSpeed_of_gear {bs : List Byte} {q : Range} (hb : activeBytes s .gear = some bs)
    (hq : s.gear.engaged = some q) (hg : s.gear.state = .engaged ∨ s.gear.state = .stoppingSpindle) :
    reportedSpeed s = roundDiv (s.gear.output * 1000) (gearRatio bs q) := by
  unfold reportedSpeed
  rw [hb, hq]
  rcases hg with hg | hg <;> rw [hg]

theorem reportedSpeed_of_none
    (h : (s.gear.state ≠ .engaged ∧ s.gear.state ≠ .stoppingSpindle) ∨ s.gear.engaged = none) : reportedSpeed s = 0 := by
  unfold reportedSpeed
  rcases h with ⟨he, hs⟩ | h
  · cases hg : s.gear.state <;> first | rfl | exact absurd hg he | exact absurd hg hs
  · rw [h]
    cases s.gear.state <;> cases activeBytes s .gear <;> rfl

theorem actualRaw_of_none (h : s.link.returns = none) (a : Axis) : actualRaw s a = 0 := by
  unfold actualRaw; rw [h]

theorem actualRaw_of_some {v : Returns} (h : s.link.returns = some v) (a : Axis) :
    actualRaw s a = (v.axes.get a).actual := by unfold actualRaw; rw [h]

theorem actualSpeed_of_none (h : s.link.returns = none) : actualSpeed s = 0 := by unfold actualSpeed; rw [h]

theorem actualSpeed_of_some {v : Returns} (h : s.link.returns = some v) : actualSpeed s = v.spindle.actual := by
  unfold actualSpeed; rw [h]

theorem reducePos_b {rb : Bool} {a : Axis} (x : Int) :
    reducePos (rb && decide (a = .b)) x = if rb = true ∧ a = .b then x % 360000 else x := by
  unfold reducePos
  simp

end

/-- CLEAR_FLAGS is the kind 11 alone. -/
theorem afterClearStage_of_other {taken : Option CycleFrame} (h : ∀ f, taken = some f → f.kind ≠ 11)
    (events : List Between) (t : State) : afterClearStage (recordOfFrame taken) events t = t := by
  have kinds (n : Nat) (hn : serviceKindOf n = some .clearFlags) : n = 11 := by
    unfold serviceKindOf at hn
    split at hn <;> first | rfl | cases hn
  have none_clears (body : List Byte) : recordOfFrame taken ≠ some (.clearFlags, body) := by
    intro e
    cases taken with
    | none => cases e
    | some f =>
      obtain ⟨k, hk, hb⟩ := Option.map_eq_some_iff.mp e
      have clears : k = .clearFlags := (Prod.mk.inj hb).1
      subst clears
      exact h f rfl (BitVec.eq_of_toNat_eq (kinds _ hk))
  unfold afterClearStage
  split
  · rename_i body e
    exact absurd e (none_clears body)
  · rfl
  · rfl

/-- Settles O20: the schedule visits each task once behind its prerequisites, and the frames are formed from the state that
the blocks' work leaves. -/
theorem expiryTakesUnusedFrame : Obligations.ExpiryTakesUnusedFrame := by
  refine ⟨?_, fun r order => ⟨schedule_perm r order, fun t p hp => schedule_prerequisite r order hp⟩, ?_, ?_, rfl⟩
  · rintro inp s l u taken r c rfl rfl rfl rfl rfl
    exact ⟨linkStage_settled _ _ _ _, rfl, fun h t => afterClearStage_of_other h _ t⟩
  · intro inp f s hl hs hk
    have takes : takenFrame s.link = some f := takenFrame_of_slot (by rw [hl]; decide) hs
    have quiet : NoRecord s := .of_some takes hk
    obtain ⟨n, work⟩ := linkWork_of_taken (s := begunAt inp s) f inp.claimOrder (show s.link.state.enabled = false by rw [hl]; rfl)
    have worked := congrArg State.link work
    have link := expiry_link (inp := inp) quiet
    have echo := expiry_echo_of_online (inp := inp) quiet
      (by rw [takes, work]; show s.link.state ≠ _; rw [hl]; decide)
    have tracks := expiry_tracks (inp := inp) quiet (by rw [takes, work]; show s.link.state.moving = _; rw [hl]; rfl)
      (by rw [takes, work]; rfl)
    rw [takes, work] at link
    have standby : (expiry inp s).link.state = .standby := by rw [link]; exact hl
    have spindle := expiry_spindle (inp := inp) (s := s) (by rw [standby]; rfl)
    have wlink : (workedAt inp s).link = (linkWork (some f) inp.claimOrder (begunAt inp s)).link := by
      rw [workedAt_link, linkedAt_link quiet, takes]
    rw [work] at wlink
    refine ⟨_, _, _, rfl, standby, by rw [link], by rw [link], by rw [link]; rfl, by rw [link]; rfl, by rw [link]; rfl,
      expiry_store quiet, echo, ?_, by rw [takes]; rfl, ?_, ?_, workedAt_answer quiet, expiry_drive quiet, rfl, spindle,
      fun a => (driveFrameOf_setpoint _ a).trans (tracks a)⟩
    · show (workedAt inp s).link.takenSeq.getD 0 = _
      rw [wlink]
      rfl
    · show (workedAt inp s).link.state = _
      rw [wlink]
      exact hl
    · show (workedAt inp s).link.cause = _
      rw [wlink]
      rfl
  · rintro rb taken r s t rfl
    obtain ⟨x, drive, seen, echo⟩ := closeStage_leaves rb taken r s
    refine ⟨⟨_, drive, rfl, rfl, driveFrameOf_setpoint s, by rw [seen]; rfl⟩, fun hl => by rw [echo, if_pos hl], fun hl => ?_⟩
    rw [if_neg hl] at echo
    have axis (a : Axis) : (echoFrameOf rb taken { s with sent := x }).axes.get a = axisReport rb s a :=
      PerAxis.get_of _ a
    refine ⟨_, echo, rfl, rfl, decide_eq_true_iff, rfl, rfl, fun a => ?_, rfl, fun h => actualSpeed_of_none h,
      fun v h => actualSpeed_of_some h, fun bs q hb hq hg => reportedSpeed_of_gear hb hq hg,
      fun h => reportedSpeed_of_none (s := s) h, rfl, rfl, rfl, rfl, rfl, rfl, rfl, rfl, rfl, rfl, rfl, rfl, rfl, rfl, rfl⟩
    rw [axis]
    refine ⟨rfl, fun h => ?_, fun v h => ?_, rfl, fun h => ?_, fun c h => clampField_toNat s h, rfl, rfl, rfl,
      decide_eq_true_iff⟩
    · show reducePos _ (actualRaw s a) = 0
      rw [reducePos_b, actualRaw_of_none h]
      simp
    · show reducePos _ (actualRaw s a) = _
      rw [reducePos_b, actualRaw_of_some h]
    · show clampField s a = 8
      unfold clampField
      rw [h]

/-- Settles O21: OFFLINE takes no frame and makes no transition, so the axes track and the coolant stays idle. -/
theorem offlineExpiryTracksSilently : Obligations.OfflineExpiryTracksSilently := by
  intro inp s hl hrest
  have takes : takenFrame s.link = none := takenFrame_of_offline hl
  have quiet : NoRecord s := .of_none takes
  obtain ⟨n, work⟩ := linkWork_of_offline (s := begunAt inp s) inp.claimOrder hl
  have link := expiry_link (inp := inp) quiet
  have silent := expiry_echo_of_offline (inp := inp) quiet (by rw [takes, work]; exact hl)
  have tracks := expiry_tracks (inp := inp) quiet (by rw [takes, work]; show s.link.state.moving = _; rw [hl]; rfl)
    (by rw [takes, work]; rfl)
  rw [takes, work] at link
  have offline : (expiry inp s).link.state = .offline := by rw [link]; exact hl
  have idle : CoolantIdle (expiry inp s) :=
    coolantResting_kept.expiry inp (fun hr => ⟨(hrest hr).1, (hrest hr).2.1, (hrest hr).2.2.1⟩) (by rw [offline]; rfl)
  obtain ⟨running, queue, requested⟩ := idle
  exact ⟨_, _, rfl, offline, by rw [link]; rfl, by rw [link]; rfl, by rw [link]; rfl, by rw [link]; rfl, silent,
    expiry_drive quiet, by show (expiry inp s).link.enable = _; rw [link]; rfl,
    expiry_spindle (by rw [offline]; rfl), fun a => (driveFrameOf_setpoint _ a).trans (tracks a), expiry_store quiet,
    running, queue, requested⟩

end Sys2Proof.Machine

/-! # Misses, the drive chain and the end of STOPPING (R5, R10, R16, R35) -/

namespace Sys2Proof.Machine

-- Many short proofs that wait for the same case splitters: one after the other they need less memory.
set_option Elab.async false

section
variable {s t : State}

/-! ## What the end conditions and the following error read -/

theorem spindleStopped_congr (hs : t.store = s.store) (hr : t.link.returns = s.link.returns) :
    spindleStopped t = spindleStopped s := by
  unfold spindleStopped actualSpeed
  rw [activeBytes_congr hs, hr]

theorem stopEnded_congr (hs : t.store = s.store) (hn : t.seen = s.seen) (hr : t.link.returns = s.link.returns) :
    stopEnded t = stopEnded s := by
  have ended : clampEnded t = clampEnded s := by
    funext a
    unfold clampEnded
    rw [clampAbsent_congr hs, hn]
  unfold stopEnded
  rw [spindleStopped_congr hs hr, ended, hn]

theorem followingExcess_congr (hs : t.store = s.store) (hn : t.seen = s.seen) (hr : t.link.returns = s.link.returns) :
    followingExcess t = followingExcess s := by
  have params : axisParams t = axisParams s := by
    funext a
    unfold axisParams
    rw [activeBytes_congr hs]
  have actual : actualRaw t = actualRaw s := by
    funext a
    unfold actualRaw
    rw [hr]
  unfold followingExcess
  rw [params, actual, hn]

theorem missLimit_congr (hs : t.store = s.store) : missLimit t = missLimit s := by
  unfold missLimit
  rw [activeBytes_congr hs]

theorem stopEnded_of (hstep : ∀ a, s.seen.step.get a = 0) (hsp : spindleStopped s = true)
    (hc : ∀ a, clampAbsent s a = true ∨ s.seen.clampState.get a = .clamped ∨ s.seen.clampState.get a = .fault) :
    stopEnded s = true := by
  unfold stopEnded
  rw [Bool.and_eq_true, Bool.and_eq_true]
  refine ⟨⟨PerAxis.all_iff.2 fun a => decide_eq_true (hstep a), hsp⟩, PerClamp.all_iff.2 fun a => ?_⟩
  rcases hc a with h | h | h <;> simp [clampEnded, h]

theorem followingExcess_of {a : Axis} {p : AxisParams} (hp : axisParams s a = some p)
    (h : p.limit < followingDistance p.rotary (s.seen.out.get a) (actualRaw s a)) : followingExcess s = true := by
  refine List.any_eq_true.2 ⟨a, by cases a <;> decide, ?_⟩
  rw [hp]
  exact decide_eq_true h

/-! ## The stages of the link controller's handling -/

theorem missWork_of_counted (hl : s.link.state ≠ .offline) (h : s.link.missCount + 1 ≠ missLimit s) :
    missWork s = { s with link := { s.link with missCount := min 255 (s.link.missCount + 1) } } := by
  unfold missWork
  rw [if_neg hl]
  exact if_neg h

/-- The state as a miss that reaches the limit is counted. -/
def missed (s : State) : State := { s with link := { s.link with missCount := min 255 (s.link.missCount + 1) } }

theorem missWork_of_limit (hl : s.link.state ≠ .offline) (h : s.link.missCount + 1 = missLimit s) :
    missWork s = missTransition (missed s) := by
  unfold missWork
  rw [if_neg hl]
  exact if_pos h

theorem chainWork_of_fresh (hf : s.link.returnFresh = true) :
    chainWork s = { s with link := { s.link with chainMiss := 0 } } := by
  unfold chainWork
  rw [hf]
  split <;> rfl

theorem chainWork_of_lost (he : s.link.enable = true) (hf : s.link.returnFresh = false) (hc : s.link.chainMiss = 2)
    (hl : s.link.state.enabled = true) :
    chainWork s = enterHalted .driveChainLost { s with link := { s.link with chainMiss := 3 } } := by
  unfold chainWork
  rw [if_pos he, hf, hc]
  exact if_pos hl

theorem endWork_of_not_ended (order : List ClampAxis) (h : stopEnded s = false) : endWork order s = s := by
  unfold endWork
  rw [h]
  rfl

theorem endWork_of_running (order : List ClampAxis) (h : s.link.state = .running) : endWork order s = s := by
  unfold endWork
  rw [h]
  split <;> rfl

theorem endWork_of_ended (order : List ClampAxis) (he : stopEnded s = true)
    (hl : s.link.state = .stopping ∨ (s.link.state = .linkLost ∧ s.link.missCount = 0)) :
    endWork order s = raise .standbyReached (enterStandby order s) := by
  unfold endWork
  rw [if_pos he]
  rcases hl with hl | ⟨hl, hm⟩
  · rw [hl]
  · rw [hl, hm]
    rfl

theorem endWork_of_ended_offline (order : List ClampAxis) (he : stopEnded s = true) (hl : s.link.state = .linkLost)
    (hm : s.link.missCount ≠ 0) : endWork order s = raise .standbyReached (enterOffline s) := by
  unfold endWork
  rw [if_pos he, hl]
  dsimp only
  rw [if_neg hm]

theorem followingWork_of_sound (h : followingExcess s = false) : followingWork s = s := by
  unfold followingWork
  rw [h, Bool.and_false]
  rfl

theorem followingWork_of_excess (hm : s.link.state.moving = true) (h : followingExcess s = true) :
    followingWork s = enterHalted .followingError s := by
  unfold followingWork halt
  rw [hm, h]
  exact (if_pos rfl).trans (if_pos (enabled_of_moving hm))

/-! ## The link controller's handling as a whole -/

/-- A taken frame in the slot, with the miss count at 0. -/
def framed (f : CycleFrame) (s : State) : State :=
  { s with link := { s.link with slot := some ⟨f, true⟩, missCount := 0, takenSeq := some f.seq } }

/-- The drive-chain miss count at `n`. -/
def chained (n : Nat) (s : State) : State := { s with link := { s.link with chainMiss := n } }

theorem linkWork_taken (f : CycleFrame) (order : List ClampAxis) :
    linkWork (some f) order s = followingWork (endWork order (chainWork (framed f s))) := rfl

theorem linkWork_missed (order : List ClampAxis) :
    linkWork none order s = followingWork (endWork order (chainWork (missWork s))) := rfl

/-- R12: the limit outside RUNNING, STOPPING and LINK_LOST. -/
theorem linkWork_of_limit (order : List ClampAxis)
    (hl : s.link.state = .standby ∨ s.link.state = .activating ∨ s.link.state = .halted)
    (hm : s.link.missCount + 1 = missLimit s) :
    ∃ n, linkWork none order s = chained n (enterOffline (missed s)) := by
  have online : s.link.state ≠ .offline := by rcases hl with h | h | h <;> rw [h] <;> decide
  have entered : missTransition (missed s) = enterOffline (missed s) := by
    have same : (missed s).link.state = s.link.state := rfl
    unfold missTransition
    rcases hl with h | h | h <;> rw [same, h]
  rw [linkWork_missed, missWork_of_limit online hm, entered]
  exact linkTail_of_not_enabled order (by rw [enterOffline_link]; rfl)

/-- R15: the limit in RUNNING and STOPPING, where nothing else ends or halts. -/
theorem linkWork_of_lost (order : List ClampAxis) (hl : s.link.state = .running ∨ s.link.state = .stopping)
    (hm : s.link.missCount + 1 = missLimit s) (hf : s.link.returnFresh = true) (hx : followingExcess s = false)
    (he : stopEnded s = false) : linkWork none order s = chained 0 (enterLinkLost (missed s)) := by
  have online : s.link.state ≠ .offline := by rcases hl with h | h <;> rw [h] <;> decide
  have entered : missTransition (missed s) = enterLinkLost (missed s) := by
    have same : (missed s).link.state = s.link.state := rfl
    unfold missTransition
    rcases hl with h | h <;> rw [same, h]
  obtain ⟨u, hu⟩ : ∃ u, u = chained 0 (enterLinkLost (missed s)) := ⟨_, rfl⟩
  have frame := enterLinkLost_within (missed s)
  have store : u.store = s.store := hu ▸ frame.same_store
  have seen : u.seen = s.seen := hu ▸ frame.same_seen
  have returns : u.link.returns = s.link.returns := by
    rw [hu]
    show (enterLinkLost (missed s)).link.returns = _
    rw [enterLinkLost_link]
    rfl
  have chain : chainWork (enterLinkLost (missed s)) = u := by
    rw [hu]
    exact chainWork_of_fresh (by rw [enterLinkLost_link]; exact hf)
  rw [linkWork_missed, missWork_of_limit online hm, entered, chain, ← hu,
    endWork_of_not_ended order ((stopEnded_congr store seen returns).trans he),
    followingWork_of_sound ((followingExcess_congr store seen returns).trans hx)]

/-- R17: the third expiry in a row without a good return frame. -/
theorem linkWork_of_chainLost (f : CycleFrame) (order : List ClampAxis) (hen : s.link.enable = true)
    (hl : s.link.state.enabled = true) (hf : s.link.returnFresh = false) (hc : s.link.chainMiss = 2) :
    linkWork (some f) order s = enterHalted .driveChainLost (chained 3 (framed f s)) := by
  rw [linkWork_taken, chainWork_of_lost (s := framed f s) hen hf hc hl]
  exact endFollow_of_not_enabled order (by rw [enterHalted_link]; rfl)

/-- R35: a following error beyond its limit in a moving state. -/
theorem linkWork_of_excess (f : CycleFrame) (order : List ClampAxis) (hm : s.link.state.moving = true)
    (hf : s.link.returnFresh = true) (he : s.link.state = .running ∨ stopEnded s = false)
    (hx : followingExcess s = true) :
    linkWork (some f) order s = enterHalted .followingError (chained 0 (framed f s)) := by
  have ends : endWork order (chained 0 (framed f s)) = chained 0 (framed f s) := by
    rcases he with he | he
    · exact endWork_of_running order he
    · exact endWork_of_not_ended order ((stopEnded_congr (t := chained 0 (framed f s)) rfl rfl rfl).trans he)
  rw [linkWork_taken, chainWork_of_fresh (s := framed f s) hf]
  show followingWork (endWork order (chained 0 (framed f s))) = _
  rw [ends]
  exact followingWork_of_excess hm ((followingExcess_congr (t := chained 0 (framed f s)) rfl rfl rfl).trans hx)

/-- R16: STOPPING and LINK_LOST end in STANDBY where a frame is taken. -/
theorem linkWork_of_ended (f : CycleFrame) (order : List ClampAxis)
    (hl : s.link.state = .stopping ∨ s.link.state = .linkLost) (hf : s.link.returnFresh = true)
    (he : stopEnded s = true) :
    linkWork (some f) order s = raise .standbyReached (enterStandby order (chained 0 (framed f s))) := by
  have ends := endWork_of_ended (s := chained 0 (framed f s)) order
    ((stopEnded_congr (t := chained 0 (framed f s)) rfl rfl rfl).trans he) (hl.imp id fun h => ⟨h, rfl⟩)
  have resting (u : State) (hu : u = enterStandby order (chained 0 (framed f s))) :
      followingWork (raise .standbyReached u) = raise .standbyReached u := by
    rcases followingWork_cases (raise .standbyReached u) with ⟨hm, -, -⟩ | ⟨-, e⟩
    · rw [raise_link, hu, enterStandby_link] at hm
      cases hm
    · exact e
  rw [linkWork_taken, chainWork_of_fresh (s := framed f s) hf]
  show followingWork (endWork order (chained 0 (framed f s))) = _
  rw [ends]
  exact resting _ rfl

/-- R16: LINK_LOST ends in OFFLINE where none is. -/
theorem linkWork_of_ended_offline (order : List ClampAxis) (hl : s.link.state = .linkLost)
    (hf : s.link.returnFresh = true) (he : stopEnded s = true) :
    ∃ m, m ≠ 0 ∧ linkWork none order s = raise .standbyReached (enterOffline
      (chained 0 { s with link := { s.link with missCount := m } })) := by
  have online : s.link.state ≠ .offline := by rw [hl]; decide
  have counted : missWork s = missed s := by
    by_cases hm : s.link.missCount + 1 = missLimit s
    · rw [missWork_of_limit online hm]
      unfold missTransition
      rw [show (missed s).link.state = .linkLost from hl]
    · exact missWork_of_counted online hm
  have some_missed : min 255 (s.link.missCount + 1) ≠ 0 := by omega
  refine ⟨_, some_missed, ?_⟩
  have ends := endWork_of_ended_offline (s := chained 0 (missed s)) order
    ((stopEnded_congr (t := chained 0 (missed s)) rfl rfl rfl).trans he) hl some_missed
  rw [linkWork_missed, counted, chainWork_of_fresh (s := missed s) hf]
  show followingWork (endWork order (chained 0 (missed s))) = _
  rw [ends]
  rcases followingWork_cases (raise .standbyReached (enterOffline (chained 0 (missed s)))) with ⟨hm, -, -⟩ | ⟨-, e⟩
  · rw [raise_link, enterOffline_link] at hm
    cases hm
  · exact e

end

/-! ## From the link controller's stage to the frames -/

section
variable {inp : ExpiryInput} {s : State}

/-- A wait or grant that the stage has ended stays so outside RUNNING. -/
theorem GrantLaw.expiry_of_linkWork (q : NoRecord s)
    (h : GrantLaw (linkWork (takenFrame s.link) inp.claimOrder (begunAt inp s))) : GrantLaw (expiry inp s) := by
  have linked : GrantLaw (linkedAt inp s) := by
    rw [linkedAt_of_quiet q]
    exact grantLaw_kept.settle [] h
  have worked : GrantLaw (workedAt inp s) := runTasks_keeps
    (fun u hu => grantLaw_kept.settle _ (grantLaw_kept.task _ u hu)) inp.order (grantLaw_kept.intake inp _ linked)
  rw [expiry_of_quiet q]
  exact grantLaw_kept.leave _ _ worked

/-- R77: a stage that ends at rest has freed the bank, and it stays free. -/
theorem expiry_bank_free (q : NoRecord s)
    (h : BankLaws (linkWork (takenFrame s.link) inp.claimOrder (begunAt inp s)))
    (hr : (expiry inp s).link.state.atRest = true) :
    (expiry inp s).bank.queue = [] ∧ (expiry inp s).bank.holder = none := by
  have linked : BankLaws (linkedAt inp s) := by
    rw [linkedAt_of_quiet q]
    exact bankLaws_command.settle [] h
  exact (BankLaws.expiry_of_linked linked).bank_free hr

theorem enterHalted_bankLaws (cause : HaltCause) (s : State) : BankLaws (enterHalted cause s) :=
  bankLaws_link.raise .halted (bankLaws_link.quiet _ rfl rfl rfl (enterRest_bankLaws .halted rfl s))

theorem enterOffline_bankLaws (s : State) : BankLaws (enterOffline s) :=
  bankLaws_link.quiet _ rfl rfl rfl (enterRest_bankLaws .offline rfl s)

end

/-- Settles O22: the limit's entry is the only transition of the expiry, and what it raises and ends stands as the frames
leave. -/
theorem missLimitEndsLink : Obligations.MissLimitEndsLink := by
  intro inp s takes hm
  have quiet : NoRecord s := .of_none takes
  have link := expiry_link (inp := inp) quiet
  refine ⟨fun hl => ?_, fun hl hf hx he => ⟨?_, ?_⟩⟩
  · obtain ⟨n, work⟩ := linkWork_of_limit (s := begunAt inp s) inp.claimOrder hl hm
    have entered : (linkWork (takenFrame s.link) inp.claimOrder (begunAt inp s)).link =
        (chained n (enterOffline (missed (begunAt inp s)))).link := by rw [takes, work]
    have silent := expiry_echo_of_offline (inp := inp) quiet (by
      rw [entered]
      show (enterOffline _).link.state = _
      rw [enterOffline_link]
      rfl)
    rw [entered] at link
    unfold chained at link
    dsimp only at link
    rw [enterOffline_link] at link
    exact ⟨_, rfl, by rw [link]; rfl, by rw [link]; rfl, by rw [link], by rw [link], by rw [link]; rfl, by rw [link]; rfl,
      by rw [link]; rfl, silent⟩
  · rw [linkWork_of_lost inp.claimOrder hl hm hf hx he]
    show (enterLinkLost (missed s)).coolant.announced = _
    unfold enterLinkLost
    rw [(raise_within _ _).same_coolant]
    show (if s.link.state = .running then leaveRunning .linkLost (missed s)
      else { missed s with link := { (missed s).link with state := .linkLost } }).coolant.announced = _
    split
    · unfold leaveRunning
      show (endGrant { missed s with link := { (missed s).link with state := .linkLost } }).coolant.announced ++ _ = _
      rw [(endGrant_within _).same_coolant]
      rfl
    · rfl
  · have work := linkWork_of_lost (s := begunAt inp s) inp.claimOrder hl hm hf hx he
    have raised : isRaised .linkLost (expiry inp s) = true := by
      refine expiry_raised quiet ?_
      rw [takes, work]
      exact isRaised_raise_self _ _
    rw [takes, work] at link
    unfold chained at link
    dsimp only at link
    rw [enterLinkLost_link] at link
    have lost : (expiry inp s).link.state = .linkLost := by rw [link]
    refine ⟨_, rfl, lost, raised, by rw [link]; rfl, fun hr a => ?_⟩
    have ended : GrantLaw (linkWork (takenFrame s.link) inp.claimOrder (begunAt inp s)) := by
      rw [takes, work]
      exact grantLaw_link.quiet _ rfl rfl rfl (grantLaw_link.raise _ (by
        rw [if_pos (show (missed (begunAt inp s)).link.state = .running from hr)]
        exact .of_not_granted fun q => by rw [leaveRunning_pendant]; exact endGrant_not_granted _ q))
    exact not_granted_of_not_running (GrantLaw.expiry_of_linkWork quiet ended) (by rw [lost]; decide) a

/-- Settles O24: each case is one transition of the stage, and outside the moving states the spindle output is 0, the axes
track and, at rest, the bank is free. -/
theorem chainLossHalts : Obligations.ChainLossHalts := by
  intro inp s hen
  have halted {f : CycleFrame} {cause : HaltCause} {u : State} (takes : takenFrame s.link = some f) (hk : f.kind = 0)
      (work : linkWork (some f) inp.claimOrder (begunAt inp s) = enterHalted cause u) :
      ∃ t d, exec (.cycleTimerExpiry inp) s = .next t ∧ t.link.state = .halted ∧ t.link.cause = cause ∧
        isRaised .halted t = true ∧ t.link.enable = false ∧ t.sent.drive = some d ∧ d.enable = false ∧
        d.spindle = 0 ∧ t.bank.queue = [] ∧ t.bank.holder = none := by
    have quiet : NoRecord s := .of_some takes hk
    have link := expiry_link (inp := inp) quiet
    rw [takes, work, enterHalted_link] at link
    have rest : (expiry inp s).link.state = .halted := by rw [link]; rfl
    have off : (expiry inp s).link.enable = false := by rw [link]; rfl
    obtain ⟨queue, holder⟩ := expiry_bank_free (inp := inp) quiet
      (by rw [takes, work]; exact enterHalted_bankLaws cause u) (by rw [rest]; rfl)
    exact ⟨_, _, rfl, rest, by rw [link],
      expiry_raised quiet (by rw [takes, work]; exact isRaised_raise_self _ _), off, expiry_drive quiet, off,
      expiry_spindle (by rw [rest]; rfl), queue, holder⟩
  refine ⟨fun f hl hs hk hf hc => ?_, fun f a p hm hs hk hf he hp hd => ?_, fun hstep hsp hclamps hf => ⟨?_, ?_⟩⟩
  · have online : s.link.state ≠ .offline := fun k => by rw [k] at hl; cases hl
    exact halted (takenFrame_of_slot online hs) hk (linkWork_of_chainLost (s := begunAt inp s) f _ hen hl hf hc)
  · have online : s.link.state ≠ .offline := fun k => by rw [k] at hm; cases hm
    exact halted (takenFrame_of_slot online hs) hk (linkWork_of_excess (s := begunAt inp s) f _ hm hf
      (he.imp id fun k => (stopEnded_congr (t := begunAt inp s) rfl rfl rfl).trans k)
      ((followingExcess_congr (t := begunAt inp s) rfl rfl rfl).trans (followingExcess_of hp hd)))
  · intro f hl hs hk
    have online : s.link.state ≠ .offline := by rcases hl with k | k <;> rw [k] <;> decide
    have takes := takenFrame_of_slot online hs
    have quiet : NoRecord s := .of_some takes hk
    have work := linkWork_of_ended (s := begunAt inp s) f inp.claimOrder hl hf
      ((stopEnded_congr (t := begunAt inp s) rfl rfl rfl).trans (stopEnded_of hstep hsp hclamps))
    have entered : (linkWork (takenFrame s.link) inp.claimOrder (begunAt inp s)).link =
        disabledLink .standby (chained 0 (framed f (begunAt inp s))).link := by
      rw [takes, work, raise_link, enterStandby_link]
    have link := expiry_link (inp := inp) quiet
    have tracks := expiry_tracks (inp := inp) quiet (by rw [entered]; rfl) (by rw [entered]; rfl)
    rw [entered] at link
    have standby : (expiry inp s).link.state = .standby := by rw [link]; rfl
    have off : (expiry inp s).link.enable = false := by rw [link]; rfl
    exact ⟨_, _, rfl, standby, by rw [link]; rfl,
      expiry_raised quiet (by rw [takes, work]; exact isRaised_raise_self _ _), off, expiry_drive quiet, off,
      expiry_spindle (by rw [standby]; rfl), fun a => (driveFrameOf_setpoint _ a).trans (tracks a)⟩
  · intro hl takes
    have quiet : NoRecord s := .of_none takes
    obtain ⟨m, -, work⟩ := linkWork_of_ended_offline (s := begunAt inp s) inp.claimOrder hl hf
      ((stopEnded_congr (t := begunAt inp s) rfl rfl rfl).trans (stopEnded_of hstep hsp hclamps))
    have link := expiry_link (inp := inp) quiet
    have silent := expiry_echo_of_offline (inp := inp) quiet (by rw [takes, work, raise_link, enterOffline_link]; rfl)
    rw [takes, work, raise_link, enterOffline_link] at link
    have rest : (expiry inp s).link.state = .offline := by rw [link]; rfl
    have off : (expiry inp s).link.enable = false := by rw [link]; rfl
    obtain ⟨queue, holder⟩ := expiry_bank_free (inp := inp) quiet
      (by rw [takes, work]; exact bankLaws_link.raise _ (enterOffline_bankLaws _)) (by rw [rest]; rfl)
    exact ⟨_, _, rfl, rest, by rw [link]; rfl,
      expiry_raised quiet (by rw [takes, work]; exact isRaised_raise_self _ _), off, expiry_drive quiet, off, silent,
      queue, holder⟩

end Sys2Proof.Machine

/-! # An expiry in RUNNING: commands, base, offset and compensation (R7, R22 to R25, R31, R141) -/

namespace Sys2Proof.Machine

-- Many short proofs that wait for the same case splitters: one after the other they need less memory.
set_option Elab.async false

section
variable {s : State} {c : Turn}

/-! ## A grant begins in the handwheel's work alone, with nothing pending -/

theorem runTask_not_granted {u : Task} (hu : u ≠ .handwheel) {a : Axis} (h : s.pendant.grant ≠ .granted a) :
    (runTask c u s).pendant.grant ≠ .granted a := by
  have eased {t : State} (k : t.pendant.grant = s.pendant.grant ∨ t.pendant.grant = .free) :
      t.pendant.grant ≠ .granted a := by
    rcases k with e | e <;> rw [e]
    · exact h
    · exact nofun
  have changed (v : Selector) (t : State) : (selectorChange v t).pendant.grant ≠ .granted a := by
    rcases selectorChange_grant v t with e | ⟨q, -, e⟩ <;> rw [e] <;> exact nofun
  cases u
  case handwheel => exact absurd rfl hu
  case pendantFirst =>
    show (pendantFirstWork s).pendant.grant ≠ _
    unfold pendantFirstWork
    split
    · rw [(handPanel_keepsGrant _).grant, (handEnable_keepsGrant _).grant]
      rcases handSelector_cases { s with pendant := { s.pendant with delivered := true } } with ⟨-, e⟩ | ⟨v, -, e⟩
      · rw [e]; exact h
      · rw [e]; exact changed v _
    · exact h
  case selector =>
    simp only [runTask, delivered]
    split
    · rcases handSelector_cases s with ⟨-, e⟩ | ⟨v, -, e⟩
      · rw [e]; exact h
      · rw [e]; exact changed v _
    · exact h
  case enableSwitch => exact eased (.inl (delivered_keepsGrant handEnable_keepsGrant s).grant)
  case panel => exact eased (.inl (delivered_keepsGrant handPanel_keepsGrant s).grant)
  case pressure => exact eased (pressureWork_effect s).eased.grant
  case clamp q => exact eased (clampWork_effect _ q s).eased.grant
  case strayCommand => exact eased (.inl (strayWork_keepsGrant s).grant)
  case knobs => exact eased (.inl (knobsWork_keepsGrant s).grant)
  case service =>
    obtain ⟨v, he, hw⟩ := runTask_service_served (s := s) c
    exact eased (.inl (he.keepsGrant.trans (.of_pendant hw.same_pendant)).grant)
  all_goals exact eased (.inl (by rw [(runTask_within c _ s).same_pendant]))

theorem transfer_offset {a : Axis} (h : s.pendant.grant = .granted a → s.pendant.distance = 0) :
    ((transfer s).axes.get a).offset = (s.axes.get a).offset := by
  unfold transfer
  split
  · rename_i q hq
    split
    · rename_i bs p _ _
      by_cases e : a = q
      · subst e
        rw [transferMove_of_still (transferStep_eq_zero (h hq))]
      · unfold transferMove
        dsimp only
        rw [(raiseIf_within _ _ _).same_axes]
        dsimp only
        rw [PerAxis.get_set_ne _ _ e]
    · rfl
  · rfl
  · rfl

/-- R135: an axis that was not granted before has nothing transferred into its offset. -/
theorem handwheelWork_offset (taken held : Option CycleFrame) {a : Axis} (h : s.pendant.grant ≠ .granted a) :
    ((handwheelWork taken held s).axes.get a).offset = (s.axes.get a).offset := by
  by_cases hr : s.link.state = .running
  swap
  · rw [(handwheelWork_of_not_running hr).same_axes]
  obtain ⟨u, hu⟩ : ∃ u, u = permitWithdrawn taken s := ⟨_, rfl⟩
  have eased : Eased s u := hu ▸ permitWithdrawn_eased taken s
  have ungranted : u.pendant.grant ≠ .granted a := by
    rcases eased.grant with e | e <;> rw [e]
    · exact h
    · exact nofun
  have offset : (u.axes.get a).offset = (s.axes.get a).offset := by
    rcases eased.axis a with e | e <;> rw [e]
  unfold handwheelWork
  rw [if_pos hr, ← hu]
  rcases waitWork_cases taken held u with ⟨-, e⟩ | ⟨q, v, -, hv, he⟩
  · rw [e, transfer_offset fun k => absurd k ungranted, offset]
  have axes : v.axes = u.axes := hv ▸ (stillUpdate_permitUpdate_within taken q u).same_axes
  rcases he with ⟨-, e⟩ | ⟨-, e⟩
  · rw [e, transfer_offset fun _ => rfl]
    unfold grantAxis
    rw [raise_axes]
    by_cases k : a = q
    · subst k
      dsimp only
      rw [PerAxis.get_set_self, axes, offset]
    · dsimp only
      rw [PerAxis.get_set_ne _ _ k, axes, offset]
  · have waits : v.pendant.grant = u.pendant.grant := by
      rw [hv, (stillUpdate_keepsGrant taken q _).grant, (permitUpdate_keepsGrant taken q u).grant]
    rw [e, transfer_offset fun k => absurd (waits ▸ k) ungranted, axes, offset]

/-! ## ABSORB (R141) -/

/-- What holds of an axis that is neither granted now nor counts as granted, up to the handwheel's work. -/
structure Ungranted (a : Axis) (t : State) : Prop where
  running : t.link.state = .running
  seen : t.seen.grant ≠ .granted a
  grant : t.pendant.grant ≠ .granted a

theorem Ungranted.turn {a : Axis} (h : Ungranted a s) {u : Task} (hu : u ≠ .handwheel) :
    Ungranted a (taskTurn c s u) where
  running := by rw [(taskTurn_within_work c s u).same_link]; exact h.running
  seen := by rw [(taskTurn_within_work c s u).same_seen]; exact h.seen
  grant := by
    have settled : (taskTurn c s u).pendant = (runTask c u s).pendant := (settleTriggers_within _ _).same_pendant
    rw [settled]
    exact runTask_not_granted hu h.grant

theorem taskTurn_absorb {f : CycleFrame} {a : Axis} (hf : c.taken = some f) (ha : (f.axes.get a).absorb = true)
    (h : Ungranted a s) : ((taskTurn c s .absorb).axes.get a).offset = 0 := by
  rw [taskTurn_axes]
  unfold runTask
  dsimp only
  rw [if_pos h.running, hf]
  show ((absorbWork f s).axes.get a).offset = 0
  rw [absorbWork_axes, if_pos ⟨ha, h.seen⟩]

theorem taskTurn_offset_zero {u : Task} {a : Axis} (hu : u ≠ .handwheel) (h : (s.axes.get a).offset = 0) :
    ((taskTurn c s u).axes.get a).offset = 0 := by
  rw [taskTurn_axes]
  by_cases hb : u = .absorb
  · subst hb
    unfold runTask
    dsimp only
    split
    · cases c.taken with
      | none => exact h
      | some f =>
        show ((absorbWork f s).axes.get a).offset = 0
        rw [absorbWork_axes]
        split
        · rfl
        · exact h
    · exact h
  · rw [runTask_offset hu hb, h]

theorem foldl_ungranted {us : List Task} {a : Axis} (hh : Task.handwheel ∉ us) (h : Ungranted a s) :
    Ungranted a (us.foldl (taskTurn c) s) := by
  induction us generalizing s with
  | nil => exact h
  | cons u us ih =>
    exact ih (fun hm => hh (List.mem_cons_of_mem u hm)) (h.turn fun e => hh (e ▸ List.mem_cons_self))

theorem foldl_offset_zero {us : List Task} {a : Axis} (hh : Task.handwheel ∉ us) (h : (s.axes.get a).offset = 0) :
    ((us.foldl (taskTurn c) s).axes.get a).offset = 0 := by
  induction us generalizing s with
  | nil => exact h
  | cons u us ih =>
    exact ih (fun hm => hh (List.mem_cons_of_mem u hm)) (taskTurn_offset_zero (fun e => hh (e ▸ List.mem_cons_self)) h)

/-- The absorb work comes before the handwheel's, which leaves the offset at 0. -/
theorem runTasks_absorb {f : CycleFrame} {a : Axis} (hf : c.taken = some f) (ha : (f.axes.get a).absorb = true)
    (order : List Task) (h : Ungranted a s) : ((runTasks c order s).axes.get a).offset = 0 := by
  obtain ⟨before, after, e, hb, hh⟩ := schedule_split c.record order .handwheel
  obtain ⟨first, rest, rfl⟩ := List.append_of_mem
    (schedule_inOrder c.record order before .handwheel after e .absorb (by simp [prerequisites]))
  have pre : Task.handwheel ∉ first := fun k => hb (List.mem_append_left _ k)
  have post : Task.handwheel ∉ rest := fun k => hb (List.mem_append_right _ (List.mem_cons_of_mem _ k))
  have begun := foldl_ungranted (c := c) pre h
  have absorbed := taskTurn_absorb hf ha begun
  have waiting := foldl_ungranted (c := c) post (begun.turn (c := c) (u := .absorb) (by decide))
  have zero := foldl_offset_zero (c := c) post absorbed
  unfold runTasks
  rw [e, List.foldl_append, List.foldl_append, List.foldl_cons, List.foldl_cons]
  refine foldl_offset_zero hh ?_
  rw [taskTurn_axes]
  exact (handwheelWork_offset c.taken c.held waiting.grant).trans zero

theorem foldl_absorbAxis_raised (f : CycleFrame) {l : List Axis} {a : Axis} (hm : a ∈ l)
    (ha : (f.axes.get a).absorb = true) (h : s.seen.grant = .granted a) :
    isRaised .absorbIgnored (l.foldl (absorbAxis f) s) = true := by
  have raised (t : State) (q : Axis) (ht : isRaised .absorbIgnored t = true) :
      isRaised .absorbIgnored (absorbAxis f t q) = true := by
    unfold absorbAxis
    split
    · split
      · exact isRaised_raise _ ht
      · exact ht
    · exact ht
  induction l generalizing s with
  | nil => cases hm
  | cons q l ih =>
    rcases List.mem_cons.mp hm with rfl | hm
    · refine foldl_keeps (P := fun t => isRaised .absorbIgnored t = true) (fun t q ht => raised t q ht) l ?_
      unfold absorbAxis
      rw [if_pos ha, if_pos h]
      exact isRaised_raise_self _ _
    · exact ih hm (by rw [(absorbAxis_within f s q).same_seen]; exact h)

/-- R141: an ABSORB of an axis that counts as granted is ignored. -/
theorem runTasks_absorb_ignored {f : CycleFrame} {a : Axis} (hr : c.record = none) (hf : c.taken = some f)
    (ha : (f.axes.get a).absorb = true) (order : List Task) (hl : s.link.state = .running)
    (hg : s.seen.grant = .granted a) : isRaised .absorbIgnored (runTasks c order s) = true := by
  have turn (t : State) (u : Task) : FlagsGrow t (taskTurn c t u) :=
    (runTask_grows c u t (.inr hr)).trans (settleTriggers_grows _ _)
  refine runTasks_establishes (I := fun t => t.link.state = .running ∧ t.seen.grant = .granted a) .absorb
    (fun {t} u ht => ?_) (fun {t} ht => ?_) (fun {t} u _ ht => (turn t u).raised _ ht) order ⟨hl, hg⟩
  · rw [(taskTurn_within_work c t u).same_link, (taskTurn_within_work c t u).same_seen]
    exact ht
  · refine (settleTriggers_grows _ _).raised _ ?_
    unfold runTask
    dsimp only
    rw [if_pos ht.1, hf]
    exact foldl_absorbAxis_raised f (by cases a <;> decide) ha ht.2

end

/-! ## The axes follow -/

/-- The command that enters an axis's history: the taken frame's, or the extrapolated one. -/
def newestCommand (taken : Option CycleFrame) (s : State) (a : Axis) : Int :=
  taken.elim (extrapolate (s.axes.get a).older (s.axes.get a).newer) fun f => (f.axes.get a).command

/-- From `s` to `t` each axis has taken `newest` into its history and followed it (R22 to R25). -/
def Follows (s t : State) (newest : Axis → Int) : Prop :=
  ∀ a, (t.axes.get a).older = (s.axes.get a).newer ∧ (t.axes.get a).newer = newest a ∧
    ∀ p, axisParams s a = some p →
      let command := reducePos p.rotary (newest a)
      let base := if s.seen.grant = .granted a then (s.seen.frozen.get a).getD command else command
      let m := follow p (clampHold s a) (targetOf p.rotary base (t.axes.get a).offset (compensationOf s a))
        (s.axes.get a).out
      (t.axes.get a).out = m.out ∧ (t.axes.get a).step = m.step

section
variable {s : State}

theorem sampledAt_within (inp : ExpiryInput) (s : State) :
    Within [.gear, .inputs, .axes] (linkedAt inp s) (sampledAt inp s) := intakeStage_within _ _ _

theorem isRotary_of_params {a : Axis} {p : AxisParams} (h : axisParams s a = some p) : isRotary s a = p.rotary := by
  obtain ⟨bs, hb, rfl⟩ := Option.map_eq_some_iff.mp h
  unfold isRotary
  rw [hb]
  rfl

theorem pushCommands_axis (taken : Option CycleFrame) (s : State) (a : Axis) :
    (pushCommands taken s).axes.get a = pushCommand (newestCommand taken s a) (s.axes.get a) := by
  unfold pushCommands
  dsimp only
  rw [PerAxis.get_of]
  cases taken <;> rfl

/-- In RUNNING the commands enter the histories before the blocks' tasks. -/
theorem intakeStage_axis (inp : ExpiryInput) (taken : Option CycleFrame) (h : s.link.state = .running) (a : Axis) :
    (intakeStage inp taken s).axes.get a = pushCommand (newestCommand taken s a) (s.axes.get a) := by
  obtain ⟨u, hu⟩ : ∃ u, u = conditionerWork inp.samples { s with gear := { s.gear with forkLoss := false } } := ⟨_, rfl⟩
  have frame : Within [.gear, .inputs] s u := hu ▸ (within_gear s _).comp (conditionerWork_within _ _)
  unfold intakeStage
  dsimp only
  rw [(interlockWork_within _ _).same_axes, ← hu, if_pos (by rw [frame.same_link]; exact h), pushCommands_axis,
    frame.same_axes]
  unfold newestCommand
  rw [frame.same_axes]

theorem axisMotion_of_running {a : Axis} {p : AxisParams} (hl : s.link.state = .running) (hp : axisParams s a = some p) :
    axisMotion s a = follow p (clampHold s a) (axisTarget s a) (s.axes.get a).out := by
  unfold axisMotion
  rw [hp, hl]

/-- An expiry whose stage leaves RUNNING as it is: the commands are taken in, and the axes follow. -/
theorem expiry_follows {inp : ExpiryInput} {l : Link} (q : NoRecord s) (hl : l.state = .running)
    (work : linkWork (takenFrame s.link) inp.claimOrder (begunAt inp s) = { begunAt inp s with link := l }) :
    Follows s (expiry inp s) (newestCommand (takenFrame s.link) s) := by
  intro a
  have linkedLink : (linkedAt inp s).link = l := by rw [linkedAt_link q, work]
  have linkedAxes : (linkedAt inp s).axes = s.axes := by
    rw [linkedAt_of_quiet q, work, (settleTriggers_within _ _).same_axes]
    rfl
  have taken : (turnAt inp s).taken = takenFrame s.link := by
    show presented (linkedAt inp s).link.state (takenAt inp s) = _
    rw [linkedLink, hl]
    rfl
  have sampled : (sampledAt inp s).axes.get a = pushCommand (newestCommand (takenFrame s.link) s a) (s.axes.get a) := by
    have h := intakeStage_axis (s := linkedAt inp s) inp (turnAt inp s).taken (by rw [linkedLink]; exact hl) a
    unfold newestCommand at h
    rw [linkedAxes, taken] at h
    unfold sampledAt
    rw [taken]
    exact h
  obtain ⟨before, v, hv, kept, final⟩ := runTasks_axes (turnAt inp s) inp.order (sampledAt inp s)
  obtain ⟨motion, offset⟩ := final a
  have frame : Within quietParts (sampledAt inp s) v := hv ▸ foldl_within (taskTurn_quiet (q.recordAt inp)) before _
  have store : v.store = s.store := frame.same_store.trans (sampledAt_store inp s)
  have seen : v.seen = s.seen := frame.same_seen.trans
    ((intakeStage_within _ _ _).same_seen.trans (linkStage_within _ _ _ _).same_seen)
  have running : v.link.state = .running := by
    rw [frame.same_link.trans ((intakeStage_within _ _ _).same_link.trans linkedLink)]
    exact hl
  have before_axis := kept a
  unfold SameMotion at before_axis motion
  rw [sampled] at before_axis
  have out : (v.axes.get a).out = (s.axes.get a).out := by rw [before_axis]; rfl
  have newer : (v.axes.get a).newer = newestCommand (takenFrame s.link) s a := by rw [before_axis]; rfl
  have older : (v.axes.get a).older = (s.axes.get a).newer := by rw [before_axis]; rfl
  rw [expiry_of_quiet q]
  show ((workedAt inp s).axes.get a).older = _ ∧ ((workedAt inp s).axes.get a).newer = _ ∧ _
  unfold workedAt
  refine ⟨by rw [motion]; exact older, by rw [motion]; exact newer, fun p hp => ?_⟩
  have params : axisParams v a = some p := by
    unfold axisParams
    rw [activeBytes_congr store]
    exact hp
  have rotary := isRotary_of_params params
  have command : commandOf v a = reducePos p.rotary (newestCommand (takenFrame s.link) s a) := by
    unfold commandOf
    rw [rotary, newer]
  have base : baseOf v a = if s.seen.grant = .granted a then
      (s.seen.frozen.get a).getD (reducePos p.rotary (newestCommand (takenFrame s.link) s a))
      else reducePos p.rotary (newestCommand (takenFrame s.link) s a) := by
    unfold baseOf
    rw [command, seen]
  have hold : clampHold v a = clampHold s a := by
    unfold clampHold clampAbsent
    rw [seen]
    simp only [activeBytes_congr store]
  have comp : compensationOf v a = compensationOf s a := by
    unfold compensationOf
    rw [seen]
  have target : axisMotion v a = follow p (clampHold s a) (targetOf p.rotary (if s.seen.grant = .granted a then
      (s.seen.frozen.get a).getD (reducePos p.rotary (newestCommand (takenFrame s.link) s a))
      else reducePos p.rotary (newestCommand (takenFrame s.link) s a))
      ((runTasks (turnAt inp s) inp.order (sampledAt inp s)).axes.get a).offset (compensationOf s a))
      (s.axes.get a).out := by
    rw [axisMotion_of_running running params, hold, out, offset]
    unfold axisTarget
    rw [rotary, base, comp]
  have outs : ((runTasks (turnAt inp s) inp.order (sampledAt inp s)).axes.get a).out = (axisMotion v a).out := by
    rw [motion]
    rfl
  have steps : ((runTasks (turnAt inp s) inp.order (sampledAt inp s)).axes.get a).step = (axisMotion v a).step := by
    rw [motion]
    rfl
  rw [target] at outs steps
  exact ⟨outs, steps⟩

theorem linkWork_of_counted (order : List ClampAxis) (hl : s.link.state = .running) (hf : s.link.returnFresh = true)
    (hx : followingExcess s = false) (hm : s.link.missCount + 1 ≠ missLimit s) :
    linkWork none order s = chained 0 (missed s) := by
  have counted : missWork s = missed s := missWork_of_counted (by rw [hl]; decide) hm
  rw [linkWork_missed, counted, chainWork_of_fresh (s := missed s) hf]
  show followingWork (endWork order (chained 0 (missed s))) = _
  rw [endWork_of_running (s := chained 0 (missed s)) order hl]
  exact followingWork_of_sound ((followingExcess_congr (t := chained 0 (missed s)) rfl rfl rfl).trans hx)

theorem linkWork_of_running (f : CycleFrame) (order : List ClampAxis) (hl : s.link.state = .running)
    (hf : s.link.returnFresh = true) (hx : followingExcess s = false) :
    linkWork (some f) order s = chained 0 (framed f s) := by
  rw [linkWork_taken, chainWork_of_fresh (s := framed f s) hf]
  show followingWork (endWork order (chained 0 (framed f s))) = _
  rw [endWork_of_running (s := chained 0 (framed f s)) order hl]
  exact followingWork_of_sound ((followingExcess_congr (t := chained 0 (framed f s)) rfl rfl rfl).trans hx)

theorem sat32_eq (x : Int) : sat32 x = max (-2147483648) (min 2147483647 x) := rfl

end

/-- Settles O23: the stage leaves RUNNING as it is, the histories take the commands in, the absorb and handwheel work comes
before the axes' computation, and that reads what the previous drive frame left. -/
theorem missExtrapolatesCommands : Obligations.MissExtrapolatesCommands := by
  intro inp s hl hf hx
  have excess : followingExcess (begunAt inp s) = false :=
    (followingExcess_congr (t := begunAt inp s) rfl rfl rfl).trans hx
  refine ⟨fun takes hm hlimit => ?_, fun f hs hk => ?_⟩
  · have quiet : NoRecord s := .of_none takes
    have work := linkWork_of_counted (s := begunAt inp s) inp.claimOrder hl hf excess (Nat.ne_of_lt hm)
    have link := expiry_link (inp := inp) quiet
    have axes := expiry_follows (inp := inp) (l := (chained 0 (missed (begunAt inp s))).link) quiet hl
      (by rw [takes, work]; rfl)
    rw [takes] at axes
    rw [takes, work] at link
    have count : min 255 (s.link.missCount + 1) = s.link.missCount + 1 := by omega
    exact ⟨_, rfl, by rw [link]; exact hl, by rw [link]; exact count, axes⟩
  · have takes : takenFrame s.link = some f := takenFrame_of_slot (by rw [hl]; decide) hs
    have quiet : NoRecord s := .of_some takes hk
    have work := linkWork_of_running (s := begunAt inp s) f inp.claimOrder hl hf excess
    have link := expiry_link (inp := inp) quiet
    have axes := expiry_follows (inp := inp) (l := (chained 0 (framed f (begunAt inp s))).link) quiet hl
      (by rw [takes, work]; rfl)
    have linked : (linkedAt inp s).link.state = .running := by
      rw [linkedAt_link quiet, takes, work]
      exact hl
    have presents : (turnAt inp s).taken = some f := by
      show presented (linkedAt inp s).link.state (takenAt inp s) = _
      rw [linked, takenAt_eq, takes]
      rfl
    have sampled : (sampledAt inp s).link.state = .running := by
      rw [(sampledAt_within inp s).same_link]
      exact linked
    have seen : (sampledAt inp s).seen = s.seen :=
      (intakeStage_within _ _ _).same_seen.trans (linkStage_within _ _ _ _).same_seen
    rw [takes] at axes
    rw [takes, work] at link
    refine ⟨_, rfl, by rw [link]; exact hl, by rw [link]; rfl, axes, fun a ha => ⟨fun hg => ?_, fun hn hg => ?_⟩⟩
    · rw [expiry_of_quiet quiet]
      exact runTasks_absorb_ignored (quiet.recordAt inp) presents ha inp.order sampled (by rw [seen]; exact hg)
    · rw [expiry_of_quiet quiet]
      have grant : (sampledAt inp s).pendant = s.pendant := by
        rw [(sampledAt_within inp s).same_pendant, linkedAt_of_quiet quiet, takes, work,
          (settleTriggers_within _ _).same_pendant]
        rfl
      exact runTasks_absorb presents ha inp.order ⟨sampled, by rw [seen]; exact hn, by rw [grant]; exact hg⟩

end Sys2Proof.Machine

/-! # An expiry in a moving state (R26 to R33), and what becomes of a RESTART -/

namespace Sys2Proof.Machine

-- Many short proofs that wait for the same case splitters: one after the other they need less memory.
set_option Elab.async false

/-! ## A service answers by its own kind -/

section
variable (s : State) (body : List Byte)

/-- The answer that stands is one to a record of kind `k`. -/
def AnsweredBy (k : ServiceKind) (t : State) : Prop := t.sent.answer.kind = k.code

theorem judged_answered {k : ServiceKind} {act : State → State} (h : AnsweredBy k (act s)) :
    AnsweredBy k (judged k body act s) := by
  unfold judged
  split
  · exact h
  · rfl

theorem writeService_answered : AnsweredBy .writeSegment (writeService body s) := by
  unfold writeService
  split
  · rfl
  split
  · rfl
  split
  · rfl
  dsimp only
  split <;> rfl

theorem commitService_answered (order : List ClampAxis) : AnsweredBy .commit (commitService body order s) := by
  unfold commitService
  split
  · rfl
  split
  · rfl
  split
  · rfl
  dsimp only
  split
  · split <;> rfl
  · rfl

theorem storeService_answered : AnsweredBy .store (storeService s) := by
  unfold storeService
  split
  · rfl
  split <;> rfl

theorem clearFlagsService_answered : AnsweredBy .clearFlags (clearFlagsService body s) := by
  unfold clearFlagsService
  split
  · rfl
  split <;> rfl

theorem setMaskService_answered : AnsweredBy .setMask (setMaskService body s) := by
  unfold setMaskService
  split <;> rfl

theorem coolantTriggerService_answered : AnsweredBy .coolantTrigger (coolantTriggerService body s) := by
  unfold coolantTriggerService
  split
  · split
    · split <;> rfl
    · rfl
  · rfl

theorem compTriggerService_answered : AnsweredBy .compTrigger (compTriggerService body s) := by
  unfold compTriggerService
  split
  · split <;> rfl
  · rfl

theorem growthZeroService_answered : AnsweredBy .growthZero (growthZeroService s) := by
  unfold growthZeroService
  split
  · split
    · rfl
    · split <;> rfl
  · rfl

theorem clearFaultService_answered : AnsweredBy .clearFault (clearFaultService body s) := by
  unfold clearFaultService
  split
  · rfl
  · unfold clearClampService
    split
    · rfl
    · split
      · split <;> rfl
      · rfl
  · unfold clearGearService
    split
    · split <;> rfl
    · rfl

/-- A service taken with the blocks' work answers by its own kind; the others leave the answer. -/
theorem blockService_answered (k : ServiceKind) (order : List ClampAxis) :
    AnsweredBy k (blockService k body order s) ∨ blockService k body order s = s := by
  unfold blockService
  cases k
  case writeSegment => exact .inl (judged_answered s body (writeService_answered s body))
  case commit => exact .inl (judged_answered s body (commitService_answered s body order))
  case store => exact .inl (judged_answered s body (storeService_answered s))
  case clearFlags => exact .inl (judged_answered s body (clearFlagsService_answered s body))
  case setMask => exact .inl (judged_answered s body (setMaskService_answered s body))
  case coolantTrigger => exact .inl (judged_answered s body (coolantTriggerService_answered s body))
  case coolantStop => exact .inl (judged_answered s body rfl)
  case compTrigger => exact .inl (judged_answered s body (compTriggerService_answered s body))
  case growthZero => exact .inl (judged_answered s body (growthZeroService_answered s))
  case clearFault => exact .inl (judged_answered s body (clearFaultService_answered s body))
  all_goals exact .inr rfl

theorem startService_answered : AnsweredBy .start (startService body s) := by
  unfold startService
  split
  · rfl
  split
  · rfl
  split
  · rfl
  split <;> rfl

theorem stopService_answered : AnsweredBy .stop (stopService s) := by
  unfold stopService
  split <;> rfl

theorem recoverService_answered (order : List ClampAxis) : AnsweredBy .recover (recoverService order s) := by
  unfold recoverService
  split <;> rfl

theorem linkService_answered {k : ServiceKind} (hk : k ≠ .restart) (order : List ClampAxis) :
    AnsweredBy k (linkService k body order s) ∨ linkService k body order s = s := by
  unfold linkService
  cases k
  case restart => exact absurd rfl hk
  case start => exact .inl (judged_answered s body (startService_answered s body))
  case stop => exact .inl (judged_answered s body (stopService_answered s))
  case recover => exact .inl (judged_answered s body (recoverService_answered s order))
  all_goals exact .inr rfl

theorem readSegmentService_answered : AnsweredBy .readSegment (readSegmentService body s) := by
  unfold readSegmentService
  split
  · rfl
  dsimp only
  split
  · rfl
  split
  · split <;> rfl
  · rfl

theorem readStateService_answered : AnsweredBy .readState (readStateService body s) := by
  unfold readStateService
  split <;> rfl

theorem readService_answered (k : ServiceKind) :
    AnsweredBy k (readService k body s) ∨ readService k body s = s := by
  unfold readService
  cases k
  case readInfo => exact .inl (judged_answered s body rfl)
  case readSegment => exact .inl (judged_answered s body (readSegmentService_answered s body))
  case readFlags => exact .inl (judged_answered s body rfl)
  case readState => exact .inl (judged_answered s body (readStateService_answered s body))
  case clearFlags =>
    show AnsweredBy .clearFlags (refreshedAnswer s) ∨ refreshedAnswer s = s
    unfold refreshedAnswer
    split
    · exact .inl rfl
    · exact .inr rfl
  all_goals exact .inr rfl

end

/-! ## A RESTART is due only by its own record, which STANDBY and HALTED alone take (R19) -/

section
variable {s t : State}

theorem not_restart_of_answered {k : ServiceKind} (hk : k ≠ .restart) (h : AnsweredBy k s) : restartTaken s = false := by
  have codes : k.code ≠ ServiceKind.restart.code := by
    cases k
    case restart => exact absurd rfl hk
    all_goals exact of_decide_eq_true rfl
  unfold restartTaken
  rw [h, decide_eq_false codes]
  rfl

theorem restartTaken_congr (h : t.sent.answer = s.sent.answer) : restartTaken t = restartTaken s := by
  unfold restartTaken
  rw [h]

/-- The state as the services read, before the frames leave. -/
def readAt (inp : ExpiryInput) (s : State) : State :=
  (recordAt inp s).elim (workedAt inp s) fun kb => readService kb.1 kb.2 (workedAt inp s)

theorem closedAt_eq (inp : ExpiryInput) (s : State) : closedAt inp s =
    if restartTaken (readAt inp s) then restart (framesLeave (rotaryBAt inp s) (takenAt inp s) (readAt inp s))
    else framesLeave (rotaryBAt inp s) (takenAt inp s) (readAt inp s) := by
  unfold closedAt closeStage readAt
  cases recordAt inp s <;> rfl

theorem readAt_within (inp : ExpiryInput) (s : State) : Within [.sent] (workedAt inp s) (readAt inp s) := by
  unfold readAt
  cases recordAt inp s with
  | none => exact .refl _ _
  | some kb => exact readService_within kb.1 kb.2 _

/-- The link controller's handling, a record of unknown kind answered. -/
def handledAt (inp : ExpiryInput) (s : State) : State :=
  (takenFrame s.link).elim (linkWork none inp.claimOrder (begunAt inp s)) fun f =>
    if unknownRecord f then answerUnknown f.kind (linkWork (some f) inp.claimOrder (begunAt inp s))
    else linkWork (some f) inp.claimOrder (begunAt inp s)

theorem linkedAt_eq (inp : ExpiryInput) (s : State) : linkedAt inp s =
    settleTriggers [] ((recordAt inp s).elim (handledAt inp s) fun kb =>
      linkService kb.1 kb.2 inp.claimOrder (handledAt inp s)) := by
  unfold linkedAt linkStage handledAt
  rw [takenAt_eq]
  cases takenFrame s.link <;> cases recordAt inp s <;> rfl

theorem handledAt_within (inp : ExpiryInput) (s : State) :
    Within [.sent] (linkWork (takenFrame s.link) inp.claimOrder (begunAt inp s)) (handledAt inp s) := by
  unfold handledAt
  cases takenFrame s.link with
  | none => exact .refl _ _
  | some f =>
    show Within _ _ (if unknownRecord f then _ else _)
    split
    · exact answerUnknown_within _ _
    · exact .refl _ _

theorem handledAt_not_restart (inp : ExpiryInput) (s : State) : restartTaken (handledAt inp s) = false := by
  have worked (f : Option CycleFrame) : restartTaken (linkWork f inp.claimOrder (begunAt inp s)) = false := by
    unfold restartTaken
    rw [(linkWork_within f inp.claimOrder (begunAt inp s)).same_sent]
    rfl
  unfold handledAt
  cases takenFrame s.link with
  | none => exact worked none
  | some f =>
    show restartTaken (if unknownRecord f then _ else _) = false
    split
    · exact Bool.and_false _
    · exact worked _

theorem runTask_service_eq (c : Turn) (u : State) :
    runTask c .service u = c.record.elim u fun kb => blockService kb.1 kb.2 c.claimOrder u := by
  unfold runTask
  cases c.record <;> rfl

/-- The answer after the blocks' work is that of the service taken on the answer of the link controller's stage. -/
theorem workedAt_restart (inp : ExpiryInput) (s : State) : ∃ u, u.sent = (linkedAt inp s).sent ∧
    restartTaken (workedAt inp s) =
      restartTaken ((recordAt inp s).elim u fun kb => blockService kb.1 kb.2 inp.claimOrder u) := by
  obtain ⟨u, hu, hw⟩ := runTasks_service (turnAt inp s) inp.order (sampledAt inp s)
  rw [runTask_service_eq] at hw
  exact ⟨u, hu.same_sent.trans (sampledAt_within inp s).same_sent, restartTaken_congr (congrArg Sent.answer hw.same_sent)⟩

theorem not_restart_of_other {k : ServiceKind} (hk : k ≠ .restart) (h : AnsweredBy k t ∨ t = s)
    (hs : restartTaken s = false) : restartTaken t = false := by
  rcases h with h | rfl
  · exact not_restart_of_answered hk h
  · exact hs

theorem linkedAt_restart (inp : ExpiryInput) (s : State) : restartTaken (linkedAt inp s) =
    restartTaken ((recordAt inp s).elim (handledAt inp s) fun kb =>
      linkService kb.1 kb.2 inp.claimOrder (handledAt inp s)) := by
  rw [linkedAt_eq]
  exact restartTaken_congr (congrArg Sent.answer (settleTriggers_within _ _).same_sent)

/-- R19: the link states in which a RESTART passes. -/
theorem linkService_restart_due {body : List Byte} {order : List ClampAxis}
    (h : restartTaken (linkService .restart body order s) = true) :
    s.link.state = .standby ∨ s.link.state = .halted := by
  by_contra hn
  have refused : restartTaken (restartService s) = false := by
    unfold restartService
    rw [if_neg hn]
    split <;> rfl
  have judgedFree : restartTaken (linkService .restart body order s) = false := by
    show restartTaken (judged .restart body restartService s) = false
    unfold judged
    split
    · exact refused
    · rfl
  rw [judgedFree] at h
  cases h

theorem not_due_of_none {inp : ExpiryInput} (hr : recordAt inp s = none) : restartTaken (readAt inp s) = false := by
  obtain ⟨u, hu, worked⟩ := workedAt_restart inp s
  have linked := linkedAt_restart inp s
  unfold readAt
  rw [hr] at worked linked ⊢
  exact worked.trans ((restartTaken_congr (congrArg Sent.answer hu)).trans (linked.trans (handledAt_not_restart inp s)))

theorem not_due_of_other {inp : ExpiryInput} {k : ServiceKind} {body : List Byte}
    (hr : recordAt inp s = some (k, body)) (hk : k ≠ .restart) : restartTaken (readAt inp s) = false := by
  obtain ⟨u, hu, worked⟩ := workedAt_restart inp s
  have linked := linkedAt_restart inp s
  unfold readAt
  rw [hr] at worked linked ⊢
  have linkFree : restartTaken u = false := (restartTaken_congr (congrArg Sent.answer hu)).trans
    (linked.trans (not_restart_of_other hk (linkService_answered _ body hk _) (handledAt_not_restart inp s)))
  have workFree : restartTaken (workedAt inp s) = false :=
    worked.trans (not_restart_of_other hk (blockService_answered u body k inp.claimOrder) linkFree)
  exact not_restart_of_other hk (readService_answered _ body k) workFree

theorem linkedAt_state_of_restart {inp : ExpiryInput} {body : List Byte} (hr : recordAt inp s = some (.restart, body)) :
    (linkedAt inp s).link = (handledAt inp s).link := by
  rw [linkedAt_eq, hr, (settleTriggers_within _ _).same_link]
  show (judged .restart body restartService (handledAt inp s)).link = _
  rw [(judged_within _ _ restartService_within (by decide) _).same_link]

/-- A RESTART that is due has been taken in STANDBY or HALTED, and no other service with it. -/
theorem restart_due {inp : ExpiryInput} (h : restartTaken (readAt inp s) = true) :
    (∃ body, recordAt inp s = some (.restart, body)) ∧
      ((linkedAt inp s).link.state = .standby ∨ (linkedAt inp s).link.state = .halted) := by
  cases hr : recordAt inp s with
  | none => rw [not_due_of_none hr] at h; cases h
  | some kb =>
    obtain ⟨k, body⟩ := kb
    by_cases hk : k = .restart
    swap
    · rw [not_due_of_other hr hk] at h; cases h
    subst hk
    obtain ⟨u, hu, worked⟩ := workedAt_restart inp s
    have linked := linkedAt_restart inp s
    have same : restartTaken (workedAt inp s) = true := by
      unfold readAt at h
      rw [hr] at h
      exact h
    rw [hr] at worked linked
    have due : restartTaken (linkService .restart body inp.claimOrder (handledAt inp s)) = true :=
      linked.symm.trans ((restartTaken_congr (congrArg Sent.answer hu)).symm.trans (worked.symm.trans same))
    rw [linkedAt_state_of_restart hr]
    exact ⟨⟨body, rfl⟩, linkService_restart_due due⟩

end

end Sys2Proof.Machine

/-! # The axes of a moving state over an expiry (R26 to R33) -/

namespace Sys2Proof.Machine

-- Many short proofs that wait for the same case splitters: one after the other they need less memory.
set_option Elab.async false

/-! ## One channel's computation, within its limits -/

/-- What R26 to R33 let a channel at output `x` with step `v` come to. -/
structure MovesWithin (p : AxisParams) (hold : Bool) (x v out step : Int) : Prop where
  held : hold = true → out = x ∧ step = 0
  linear : p.rotary = false → p.lo ≤ p.hi → v.natAbs ≤ p.ceiling →
    (out - x).natAbs ≤ p.ceiling ∧ step = out - x ∧ (p.lo ≤ x → p.lo ≤ out) ∧ (x ≤ p.hi → out ≤ p.hi) ∧
    (x < p.lo → x ≤ out) ∧ (p.hi < x → out ≤ x)
  rotary : p.rotary = true → p.ceiling < 180000 → v.natAbs ≤ p.ceiling → 0 ≤ x → x < 360000 →
    0 ≤ out ∧ out < 360000 ∧ step.natAbs ≤ p.ceiling ∧ step = wrapDiff true (out - x)

section
variable {p : AxisParams} {x v q : Int} {m : Motion}

theorem movesWithin_held (p : AxisParams) (x v : Int) (b : Bool) (hold : Bool) :
    MovesWithin p hold x v (heldMotion x b).out (heldMotion x b).step where
  held _ := ⟨rfl, rfl⟩
  linear _ h _ := by
    show (x - x).natAbs ≤ p.ceiling ∧ (0 : Int) = x - x ∧ (p.lo ≤ x → p.lo ≤ x) ∧ (x ≤ p.hi → x ≤ p.hi) ∧
      (x < p.lo → x ≤ x) ∧ (p.hi < x → x ≤ x)
    omega
  rotary _ _ _ h0 h1 := by
    show 0 ≤ x ∧ x < 360000 ∧ (0 : Int).natAbs ≤ p.ceiling ∧ (0 : Int) = wrapDiff true (x - x)
    simp only [wrapDiff, if_true]
    split_ifs <;> omega

/-- A candidate no further off than the ceiling. -/
theorem movesWithin_settled (p : AxisParams) {x d v : Int} (hd : v.natAbs ≤ p.ceiling → d.natAbs ≤ p.ceiling) (rate : Bool) :
    MovesWithin p false x v (settleMotion p x (x + d) rate).out (settleMotion p x (x + d) rate).step where
  held := nofun
  linear hr h hv := by
    obtain ⟨step, small, -, -, -, inside, below, above⟩ := linearMove_settleMotion (p := x) (q := x + d) (rate := rate) hr h
    have bound := hd hv
    refine ⟨by omega, step, ?_, ?_, ?_, ?_⟩
    all_goals
      intro hx
      by_cases hl : p.lo ≤ x
      · by_cases hh : x ≤ p.hi
        · have := inside hl hh
          omega
        · have := above (by omega)
          omega
      · have := below (by omega)
        omega
  rotary hr hc hv h0 h1 := by
    have bound := hd hv
    have out : (settleMotion p x (x + d) rate).out = (x + d) % 360000 := by simp [settleMotion, hr]
    have step : (settleMotion p x (x + d) rate).step = wrapDiff true ((x + d) % 360000 - x) := by
      simp [settleMotion, hr]
    have back : wrapDiff true ((x + d) % 360000 - x) = d := wrapDiff_of_step h0 h1 (by omega) (by omega)
    rw [step, out, back]
    exact ⟨by omega, by omega, bound, rfl⟩

theorem movesWithin_follow (p : AxisParams) (hold : Bool) (t x v : Int) :
    MovesWithin p hold x v (follow p hold t x).out (follow p hold t x).step := by
  cases hold
  · exact movesWithin_settled p (fun _ => natAbs_clampInt_le _ _) _
  · exact movesWithin_held p x v _ true

theorem movesWithin_decelerate (p : AxisParams) (hold : Bool) (x v : Int) :
    MovesWithin p hold x v (decelerate p hold x v).out (decelerate p hold x v).step := by
  cases hold
  · refine movesWithin_settled p (fun hv => ?_) _
    rw [natAbs_towardZero]
    omega
  · exact movesWithin_held p x v _ true

end

theorem axisMotion_movesWithin {s : State} {a : Axis} {p : AxisParams} (hm : s.link.state.moving = true)
    (hp : axisParams s a = some p) : MovesWithin p (clampHold s a) (s.axes.get a).out (s.axes.get a).step
      (axisMotion s a).out (axisMotion s a).step := by
  unfold axisMotion
  rw [hp]
  cases hl : s.link.state
  case running => exact movesWithin_follow p _ _ _ _
  case stopping => exact movesWithin_decelerate p _ _ _
  case linkLost => exact movesWithin_decelerate p _ _ _
  all_goals (rw [hl] at hm; cases hm)

/-! ## Outputs and steps across the link controller's transitions -/

/-- The outputs stand from `w` to `u`, and with them the steps where `u` still moves; ACTIVATING is newly entered. -/
structure MotionKept (w u : State) : Prop where
  fresh : u.link.state = .activating → u.link.enableSent = false
  out : ∀ a, (u.axes.get a).out = (w.axes.get a).out
  step : u.link.state.moving = true → w.link.state.moving = true ∧ ∀ a, (u.axes.get a).step = (w.axes.get a).step

section
variable {w s t : State}

theorem MotionKept.congr (h : MotionKept w s) (hl : t.link.state = s.link.state)
    (he : t.link.enableSent = s.link.enableSent)
    (ha : ∀ a, SameMotion (s.axes.get a) (t.axes.get a)) : MotionKept w t where
  fresh k := he.trans (h.fresh (hl.symm.trans k))
  out a := by
    have := ha a
    unfold SameMotion at this
    rw [this]
    exact h.out a
  step k := by
    rw [hl] at k
    refine ⟨(h.step k).1, fun a => ?_⟩
    have := ha a
    unfold SameMotion at this
    rw [this]
    exact (h.step k).2 a

theorem MotionKept.of_same {l : List Part} (h : MotionKept w s) (hw : Within l s t)
    (hd : ∀ p ∈ [Part.link, .axes], p ∉ l := by exact of_decide_eq_true rfl) : MotionKept w t := by
  have link : t.link = s.link := hw .link (hd _ (by decide))
  have axes : t.axes = s.axes := hw .axes (hd _ (by decide))
  exact h.congr (by rw [link]) (by rw [link]) fun a => by rw [axes]; rfl

theorem moving_of_rest {l : LinkState} (h : l.atRest = true) : l.moving = false := by
  cases l <;> first | rfl | cases h

theorem motionKept_link (w : State) : LinkKept (MotionKept w) where
  quiet l s hst _ hsent h := h.congr hst hsent fun _ => rfl
  raise f s h := h.of_same (raise_within f s)
  estop b s h := h.of_same (within_inputs s _)
  rest st s hr h := by
    have state : (enterRest st s).link.state = st := by rw [enterRest_link]; rfl
    refine ⟨fun k => ?_, fun a => ?_, fun k => ?_⟩
    · rw [state] at k; rw [k] at hr; cases hr
    · rw [enterRest_axes, ← h.out a]
      exact restBegun_out st s a
    · rw [state] at k
      exact absurd (moving_of_rest hr) (by rw [k]; decide)
  standby order s _ _ h := by
    have state : (enterStandby order s).link.state = .standby := by rw [enterStandby_link]; rfl
    refine ⟨fun k => ?_, fun a => ?_, fun k => ?_⟩
    · rw [state] at k; cases k
    · rw [enterStandby_axes]; exact h.out a
    · rw [state] at k; cases k
  activating p s _ _ h := by
    refine ⟨fun _ => rfl, fun a => ?_, fun k => nomatch k⟩
    exact (congrArg AxisChannel.out (clearAxes_axes _ a)).trans (h.out a)
  running hl hsent h := by rw [h.fresh hl] at hsent; cases hsent
  leave st s hst hl h := by
    obtain ⟨moved, steps⟩ := h.step (by rw [hl]; rfl)
    have same (a : Axis) := sameMotion_of_thawed (leaveRunning_axes st s a)
    refine ⟨fun k => ?_, fun a => ?_, fun _ => ⟨moved, fun a => ?_⟩⟩
    · rw [leaveRunning_link] at k
      rcases hst with rfl | rfl <;> cases k
    · rw [same a]; exact h.out a
    · rw [same a]; exact steps a
  lost {s} hl h := ⟨nofun, h.out, fun _ => h.step (by rw [hl]; rfl)⟩

/-- The link controller's stage, as far as its transitions keep a property. -/
theorem LinkKept.linkedAt {P : State → Prop} (k : LinkKept P)
    (same : ∀ {u v : State}, Within [.sent, .coolant, .flags] u v → P u → P v) {inp : ExpiryInput}
    (h : P (begunAt inp s)) : P (linkedAt inp s) := by
  have handled : P (handledAt inp s) := same ((handledAt_within inp s).mono (by decide)) (k.linkWork rfl _ _ h)
  rw [linkedAt_eq]
  refine same ((settleTriggers_within [] _).mono (by decide)) ?_
  cases recordAt inp s with
  | none => exact handled
  | some kb => exact k.linkService (fun hw hu => same (hw.mono (by decide)) hu) kb.1 kb.2 _ handled

theorem linkedAt_motion (inp : ExpiryInput) (hm : s.link.state.moving = true) : MotionKept s (linkedAt inp s) := by
  refine (motionKept_link s).linkedAt (fun hw hu => hu.of_same hw) ⟨fun k => ?_, fun _ => rfl, fun _ => ⟨hm, fun _ => rfl⟩⟩
  have : s.link.state = .activating := k
  rw [this] at hm
  cases hm

/-! ## What the channels read stands over the tasks -/

theorem taskTurn_active {c : Turn} (hl : s.link.state ≠ .standby) (u : Task) {q : TableId} (hq : q ≠ .compensation) :
    (taskTurn c s u).store.active.get q = s.store.active.get q := by
  have settled : (taskTurn c s u).store = (runTask c u s).store := (settleTriggers_within _ _).same_store
  rw [settled]
  by_cases hu : u = .service
  swap
  · have frame : Within quietParts s (runTask c u s) :=
      (runTask_within c u s).mono fun p hp => taskParts_quiet hu (List.mem_append_left _ hp)
    rw [frame.same_store]
  subst hu
  rw [runTask_service_eq]
  cases c.record with
  | none => rfl
  | some kb =>
    show (blockService kb.1 kb.2 c.claimOrder s).store.active.get q = _
    have link := (blockService_within kb.1 kb.2 c.claimOrder s).same_link
    cases blockService_activeChange s kb.1 kb.2 c.claimOrder
    case none h => rw [h]
    case commit h _ _ => rw [link] at h; exact absurd h hl
    case zero h => rw [h, PerTable.get_set_ne _ _ hq]

theorem foldl_active {c : Turn} (hl : s.link.state ≠ .standby) (us : List Task) {q : TableId} (hq : q ≠ .compensation) :
    (us.foldl (taskTurn c) s).store.active.get q = s.store.active.get q := by
  have kept := foldl_keeps (P := fun u => u.link = s.link ∧ u.store.active.get q = s.store.active.get q)
    (f := taskTurn c) (fun u t hu => ⟨(taskTurn_within_work c u t).same_link.trans hu.1,
      (taskTurn_active (by rw [hu.1]; exact hl) t hq).trans hu.2⟩) us ⟨rfl, rfl⟩
  exact kept.2

theorem intakeStage_sameMotion (inp : ExpiryInput) (taken : Option CycleFrame) (s : State) (a : Axis) :
    ((intakeStage inp taken s).axes.get a).out = (s.axes.get a).out ∧
    ((intakeStage inp taken s).axes.get a).step = (s.axes.get a).step := by
  obtain ⟨u, hu⟩ : ∃ u, u = conditionerWork inp.samples { s with gear := { s.gear with forkLoss := false } } := ⟨_, rfl⟩
  have axes : u.axes = s.axes := by rw [hu, (conditionerWork_within _ _).same_axes]
  unfold intakeStage
  dsimp only
  rw [(interlockWork_within _ _).same_axes, ← hu]
  split
  · rw [pushCommands_axis, axes]
    exact ⟨rfl, rfl⟩
  · rw [axes]
    exact ⟨rfl, rfl⟩

/-- The blocks' work of an expiry moves an axis within its limits. -/
theorem workedAt_movesWithin {inp : ExpiryInput} (hs : s.link.state.moving = true)
    (hm : (linkedAt inp s).link.state.moving = true) {a : Axis} {p : AxisParams} (hp : axisParams s a = some p) :
    MovesWithin p (clampHold s a) (s.axes.get a).out (s.axes.get a).step ((workedAt inp s).axes.get a).out
      ((workedAt inp s).axes.get a).step := by
  have linked := linkedAt_motion inp hs
  obtain ⟨before, v, hv, kept, final⟩ := runTasks_axes (turnAt inp s) inp.order (sampledAt inp s)
  have frame : Within workParts (sampledAt inp s) v := hv ▸ foldl_within (taskTurn_within_work _) before _
  have link : v.link = (linkedAt inp s).link := frame.same_link.trans (sampledAt_within inp s).same_link
  have seen : v.seen = s.seen := frame.same_seen.trans
    ((sampledAt_within inp s).same_seen.trans (linkStage_within _ _ _ _).same_seen)
  have awake : (sampledAt inp s).link.state ≠ .standby := fun k => by
    rw [(sampledAt_within inp s).same_link] at k
    rw [k] at hm
    cases hm
  have active {q : TableId} (hq : q ≠ .compensation) : activeBytes v q = activeBytes s q := by
    unfold activeBytes
    rw [hv, foldl_active awake before hq, sampledAt_store]
  have params : axisParams v a = some p := by
    unfold axisParams
    rw [active (by decide)]
    exact hp
  have hold : clampHold v a = clampHold s a := by
    unfold clampHold clampAbsent
    rw [seen]
    simp only [active (q := .clamp) (by decide)]
  have sampled := intakeStage_sameMotion inp (turnAt inp s).taken (linkedAt inp s) a
  have same := kept a
  unfold SameMotion at same
  have out : (v.axes.get a).out = (s.axes.get a).out := by
    rw [same]
    exact sampled.1.trans (linked.out a)
  have step : (v.axes.get a).step = (s.axes.get a).step := by
    rw [same]
    exact sampled.2.trans ((linked.step hm).2 a)
  have moved := (final a).1
  unfold SameMotion at moved
  have within := axisMotion_movesWithin (s := v) (by rw [link]; exact hm) params
  rw [hold, out, step] at within
  unfold workedAt
  rw [moved]
  exact within

/-! ## The end of the expiry -/

/-- The drive frame's setpoints are the outputs, also where a RESTART sets these to the actual positions. -/
theorem closedAt_out (inp : ExpiryInput) (s : State) (a : Axis) :
    ((closedAt inp s).axes.get a).out = ((workedAt inp s).axes.get a).out := by
  have read := readAt_within inp s
  rw [closedAt_eq]
  cases hd : restartTaken (readAt inp s)
  · show ((readAt inp s).axes.get a).out = _
    rw [read.same_axes]
  · obtain ⟨⟨body, hr⟩, hl⟩ := restart_due hd
    have still : (linkedAt inp s).link.state.moving = false := by rcases hl with h | h <;> rw [h] <;> rfl
    rw [if_pos rfl, restart_axes]
    show actualPos (framesLeave _ _ (readAt inp s)) a = _
    have idle : ∀ u, runTask (turnAt inp s) .service u = u := fun u => by
      rw [runTask_service_eq]
      show (recordAt inp s).elim u _ = u
      rw [hr]
      rfl
    have quiet (u : State) (t : Task) : Within quietParts u (taskTurn (turnAt inp s) u t) := by
      by_cases ht : t = .service
      · subst ht
        unfold taskTurn
        rw [idle]
        exact (settleTriggers_within _ u).mono (by decide)
      · exact (taskTurn_within _ u t).mono (taskParts_quiet ht)
    obtain ⟨before, v, hv, -, final⟩ := runTasks_axes (turnAt inp s) inp.order (sampledAt inp s)
    have frame : Within quietParts (sampledAt inp s) v := hv ▸ foldl_within quiet before _
    have worked : Within quietParts (sampledAt inp s) (workedAt inp s) := foldl_within quiet _ _
    have moved := (final a).1
    unfold SameMotion at moved
    have out : ((workedAt inp s).axes.get a).out = (axisMotion v a).out := by
      unfold workedAt
      rw [moved]
      rfl
    rw [out, axisMotion_of_not_moving (by rw [frame.same_link, (sampledAt_within inp s).same_link]; exact still)]
    refine actualPos_congr ?_ ?_ a
    · show (readAt inp s).store = _
      rw [read.same_store, worked.same_store, frame.same_store]
    · show (readAt inp s).link.returns = _
      rw [read.same_link, worked.same_link, frame.same_link]

theorem closedAt_drive (inp : ExpiryInput) (s : State) :
    (closedAt inp s).sent.drive = some (driveFrameOf (workedAt inp s)) := by
  obtain ⟨x, drive, -, -⟩ := closeStage_leaves (isRotary (linkedAt inp s) .b) (takenAt inp s) (recordAt inp s)
    (workedAt inp s)
  exact drive

/-- An expiry that ends in a moving state has taken no RESTART. -/
theorem closedAt_of_moving {inp : ExpiryInput} (hm : (closedAt inp s).link.state.moving = true) :
    (linkedAt inp s).link.state.moving = true ∧ (closedAt inp s).axes = (workedAt inp s).axes := by
  have read := readAt_within inp s
  rw [closedAt_eq] at hm ⊢
  cases hd : restartTaken (readAt inp s)
  · rw [hd] at hm
    have state : (readAt inp s).link.state.moving = true := hm
    rw [read.same_link, workedAt_link] at state
    exact ⟨state, read.same_axes⟩
  · rw [hd, if_pos rfl, restart_link] at hm
    cases hm

/-! ## No expiry leaves a moving state for ACTIVATING but by START -/

theorem linkWork_not_activating (taken : Option CycleFrame) (order : List ClampAxis)
    (h : s.link.state ≠ .activating) : (linkWork taken order s).link.state ≠ .activating := by
  have halts (cause : HaltCause) (u : State) (hu : u.link.state ≠ .activating) :
      (halt cause u).link.state ≠ .activating := by
    rcases halt_cases cause u with ⟨-, e⟩ | ⟨-, e⟩
    · rw [e, enterHalted_link]; exact nofun
    · rw [e]; exact hu
  have slot : (slotWork taken s).link.state ≠ .activating := by
    cases taken with
    | some f => exact h
    | none =>
      show (missWork s).link.state ≠ _
      rcases missWork_cases s with ⟨-, e⟩ | ⟨-, -, e⟩ | ⟨-, -, e⟩
      · rw [e]; exact h
      · rw [e]; exact h
      · rw [e]
        rcases missTransition_cases { s with link := { s.link with missCount := min 255 (s.link.missCount + 1) } }
          with ⟨-, e⟩ | ⟨-, e⟩ | ⟨-, e⟩
        · rw [e, enterOffline_link]; exact nofun
        · rw [e, enterLinkLost_link]; exact nofun
        · rw [e]; exact h
  have chain : (chainWork (slotWork taken s)).link.state ≠ .activating := by
    rcases chainWork_cases (slotWork taken s) with ⟨n, e⟩ | ⟨-, -, e⟩
    · rw [e]; exact slot
    · rw [e]; exact halts _ _ slot
  have ends : (endWork order (chainWork (slotWork taken s))).link.state ≠ .activating := by
    rcases endWork_cases order (chainWork (slotWork taken s)) with ⟨-, -, e⟩ | ⟨-, -, -, e⟩ | ⟨-, e⟩
    · rw [e, raise_link, enterStandby_link]; exact nofun
    · rw [e, raise_link, enterOffline_link]; exact nofun
    · rw [e]; exact chain
  unfold linkWork
  rcases followingWork_cases (endWork order (chainWork (slotWork taken s))) with ⟨-, -, e⟩ | ⟨-, e⟩
  · rw [e, enterHalted_link]; exact nofun
  · rw [e]; exact ends

theorem closedAt_not_activating {inp : ExpiryInput} {body : List Byte} (hr : recordAt inp s = some (.clearFlags, body))
    (h : s.link.state ≠ .activating) : (closedAt inp s).link.state ≠ .activating := by
  have linked : (linkedAt inp s).link.state ≠ .activating := by
    rw [linkedAt_eq, hr, (settleTriggers_within _ _).same_link]
    show (handledAt inp s).link.state ≠ _
    rw [(handledAt_within inp s).same_link]
    exact linkWork_not_activating _ _ h
  rw [closedAt_eq, not_due_of_other hr (by decide)]
  show (readAt inp s).link.state ≠ _
  rw [(readAt_within inp s).same_link, workedAt_link]
  exact linked

theorem betweenTurn_motion (h : MotionKept w s) (e : Between) : MotionKept w (betweenTurn s e) := by
  refine MotionKept.of_same ?_ (settleTriggers_within [] _)
  have eased {l : List Part} {t : State} (hw : Within l s t) (k : Eased s t)
      (hd : Part.link ∉ l := by exact of_decide_eq_true rfl) : MotionKept w t := by
    have link : t.link = s.link := hw .link hd
    exact h.congr (by rw [link]) (by rw [link]) fun a => sameMotion_of_thawed (k.axis a)
  cases e
  case frameArrival bytes order => exact (motionKept_link w).frameArrives bytes order h
  case returnFrame bytes => exact (motionKept_link w).returnArrives bytes h
  case activationCeiling => exact (motionKept_link w).activationEnds h
  case estopOpening => exact (motionKept_link w).estopOpens h
  case unclampCeiling a => exact eased (clampCeilingEnds_within _ a s) (clampCeilingEnds_eased _ a s)
  case clampCeiling a => exact eased (clampCeilingEnds_within _ a s) (clampCeilingEnds_eased _ a s)
  case dropCeiling a => exact eased (clampCeilingEnds_within _ a s) (clampCeilingEnds_eased _ a s)
  all_goals exact h.of_same (betweenWork_within _ s)

theorem betweenTurn_sent (s : State) (e : Between) : (betweenTurn s e).sent = s.sent :=
  (betweenTurn_within s e).same_sent

/-- The events that fall with a CLEAR_FLAGS leave the outputs, and where the part still moves the steps. -/
theorem expiry_motion {inp : ExpiryInput} (hm : s.link.state.moving = true) :
    (∀ a, ((expiry inp s).axes.get a).out = ((closedAt inp s).axes.get a).out) ∧
    ((expiry inp s).link.state.moving = true → (closedAt inp s).link.state.moving = true ∧
      ∀ a, ((expiry inp s).axes.get a).step = ((closedAt inp s).axes.get a).step) ∧
    (expiry inp s).sent.drive = (closedAt inp s).sent.drive := by
  have begun : s.link.state ≠ .activating := fun k => by rw [k] at hm; cases hm
  by_cases hr : ∃ body, recordAt inp s = some (.clearFlags, body)
  · obtain ⟨body, hr⟩ := hr
    have closed : MotionKept (closedAt inp s) (closedAt inp s) :=
      ⟨fun k => absurd k (closedAt_not_activating hr begun), fun _ => rfl, fun k => ⟨k, fun _ => rfl⟩⟩
    have folded := foldl_keeps (P := fun u => MotionKept (closedAt inp s) u ∧ u.sent = (closedAt inp s).sent)
      (f := betweenTurn) (fun u e hu => ⟨betweenTurn_motion hu.1 e, (betweenTurn_sent u e).trans hu.2⟩) inp.afterClear
      ⟨closed, rfl⟩
    obtain ⟨motion, sent⟩ := folded
    obtain ⟨a, refreshed⟩ := refreshedAnswer_eq (inp.afterClear.foldl betweenTurn (closedAt inp s))
    rw [expiry_eq, hr]
    unfold afterClearStage
    dsimp only
    rw [refreshed]
    exact ⟨motion.out, motion.step, show (inp.afterClear.foldl betweenTurn (closedAt inp s)).sent.drive = _ by rw [sent]⟩
  · have stands : expiry inp s = closedAt inp s := by
      rw [expiry_eq]
      unfold afterClearStage
      split
      · rename_i body e
        exact absurd ⟨body, e⟩ hr
      · rfl
      · rfl
    rw [stands]
    exact ⟨fun _ => rfl, fun k => ⟨k, fun _ => rfl⟩, rfl⟩

end

/-- Settles O25: from the link controller's stage to the frames an axis's output and step are those of its one computation,
which reads the tables and the clamp states that stood before the expiry. -/
theorem axisStaysWithinItsLimits : Obligations.AxisStaysWithinItsLimits := by
  intro inp s hs
  obtain ⟨out, step, drive⟩ := expiry_motion (inp := inp) hs
  refine ⟨_, _, rfl, drive.trans (closedAt_drive inp s), fun a => ?_, fun hm a p hp => ?_⟩
  · rw [driveFrameOf_setpoint, out a, closedAt_out]
  · obtain ⟨moving, steps⟩ := step hm
    obtain ⟨linked, axes⟩ := closedAt_of_moving moving
    have moved := workedAt_movesWithin (inp := inp) hs linked hp
    rw [← axes, ← out a, ← steps a] at moved
    obtain ⟨held, linear, rotary⟩ := moved
    refine ⟨fun c hc hn hu => held ?_, linear, rotary⟩
    unfold clampHold
    simp [hc, hn, hu]

end Sys2Proof.Machine

/-! # A service record that an expiry takes is answered in its echo frame (R159, R175, R176) -/

namespace Sys2Proof.Machine

-- Many short proofs that wait for the same case splitters: one after the other they need less memory.
set_option Elab.async false

/-! ## The number of the frame that is taken -/

section
variable {f : CycleFrame} {s : State}

/-- On the link, with `f` the frame that was taken last. -/
def JustTook (f : CycleFrame) (s : State) : Prop := OnLink s ∧ s.link.takenSeq = some f.seq

theorem JustTook.enterHalted (h : JustTook f s) (cause : HaltCause) : JustTook f (enterHalted cause s) := by
  refine ⟨h.1.enterHalted cause, ?_⟩
  rw [enterHalted_link]
  exact h.2

theorem JustTook.chainWork (h : JustTook f s) : JustTook f (chainWork s) := by
  rcases chainWork_cases s with ⟨n, e⟩ | ⟨-, -, e⟩
  · exact e.symm ▸ h
  · have counted : JustTook f { s with link := { s.link with chainMiss := 3 } } := h
    rw [e]
    rcases halt_cases .driveChainLost { s with link := { s.link with chainMiss := 3 } } with ⟨-, e⟩ | ⟨-, e⟩
    · exact e.symm ▸ counted.enterHalted _
    · exact e.symm ▸ counted

theorem JustTook.endWork (h : JustTook f s) (order : List ClampAxis) : JustTook f (endWork order s) := by
  refine ⟨h.1.endWork order, ?_⟩
  rcases endWork_cases order s with ⟨-, -, e⟩ | ⟨-, -, hm, -⟩ | ⟨-, e⟩
  · rw [e, raise_link, enterStandby_link]
    exact h.2
  · exact absurd h.1.2 hm
  · rw [e]
    exact h.2

theorem JustTook.followingWork (h : JustTook f s) : JustTook f (followingWork s) := by
  rcases followingWork_cases s with ⟨-, -, e⟩ | ⟨-, e⟩
  · exact e.symm ▸ h.enterHalted _
  · exact e.symm ▸ h

/-- R5, R7: the link controller's handling keeps the number of the frame that it takes. -/
theorem linkWork_justTook (f : CycleFrame) (order : List ClampAxis) (hs : s.link.state ≠ .offline) :
    JustTook f (linkWork (some f) order s) := by
  have slot : JustTook f (slotWork (some f) s) := ⟨⟨hs, rfl⟩, rfl⟩
  exact (slot.chainWork.endWork order).followingWork

theorem JustTook.linkService (h : JustTook f s) (k : ServiceKind) (body : List Byte) (order : List ClampAxis) :
    JustTook f (linkService k body order s) := by
  refine ⟨h.1.linkService k body order, ?_⟩
  obtain ⟨u, hw, hu⟩ := linkService_cases k body order s
  rw [hw.same_link]
  rcases hu with rfl | ⟨-, -, -, p, rfl⟩ | ⟨-, -, rfl⟩ | ⟨-, -, -, rfl⟩
  · exact h.2
  · exact h.2
  · rw [leaveRunning_link]
    exact h.2
  · rw [enterStandby_link]
    exact h.2

theorem JustTook.congr {t : State} (h : JustTook f s) (link : t.link = s.link) : JustTook f t := by
  unfold JustTook OnLink
  rw [link]
  exact h

end

/-! ## The frames that leave where a record was taken -/

section
variable {inp : ExpiryInput} {f : CycleFrame} {s : State} {k : ServiceKind}

theorem recordAt_of_kind (hf : takenFrame s.link = some f) (hk : serviceKindOf f.kind.toNat = some k) :
    recordAt inp s = some (k, f.body) := by
  unfold recordAt
  rw [takenAt_eq, hf]
  unfold recordOfFrame
  dsimp only
  rw [hk]
  rfl

theorem readAt_justTook (inp : ExpiryInput) (hs : s.link.state ≠ .offline) (hf : takenFrame s.link = some f) :
    JustTook f (readAt inp s) := by
  have handled : JustTook f (handledAt inp s) := by
    refine JustTook.congr ?_ (handledAt_within inp s).same_link
    rw [hf]
    exact linkWork_justTook f _ hs
  have linked : JustTook f (linkedAt inp s) := by
    rw [linkedAt_eq]
    refine JustTook.congr ?_ (settleTriggers_within _ _).same_link
    cases recordAt inp s with
    | none => exact handled
    | some kb => exact handled.linkService _ _ _
  exact linked.congr ((readAt_within inp s).same_link.trans (workedAt_link inp s))

theorem closedAt_of_record {body : List Byte} (hr : recordAt inp s = some (k, body)) (hk : k ≠ .restart) :
    closedAt inp s = framesLeave (rotaryBAt inp s) (takenAt inp s) (readAt inp s) := by
  rw [closedAt_eq, not_due_of_other hr hk]
  rfl

theorem foldl_grows_of_mem {α : Type} {g : State → α → State} {as : List α}
    (h : ∀ a ∈ as, ∀ s, FlagsGrow s (g s a)) (s : State) : FlagsGrow s (as.foldl g s) := by
  induction as generalizing s with
  | nil => exact .refl s
  | cons a as ih =>
    exact (h a List.mem_cons_self s).trans (ih (fun b hb => h b (List.mem_cons_of_mem a hb)) _)

theorem framesLeave_echo {taken : Option CycleFrame} (rb : Bool) (h : s.link.state ≠ .offline) :
    (framesLeave rb taken s).sent.echo = some (echoFrameOf rb taken s) := if_neg h

/-- The blocks' work about the service that it takes: the flags that stand after the service only grow until the
frames leave. -/
theorem workedAt_service (inp : ExpiryInput) {body : List Byte} (hr : recordAt inp s = some (k, body)) :
    ∃ u, Within quietParts (sampledAt inp s) u ∧
      Within quietParts (blockService k body inp.claimOrder u) (workedAt inp s) ∧
      FlagsGrow (blockService k body inp.claimOrder u) (workedAt inp s) := by
  obtain ⟨before, after, e, hb, ha⟩ := schedule_split (turnAt inp s).record inp.order .service
  obtain ⟨u, hu⟩ : ∃ u, u = before.foldl (taskTurn (turnAt inp s)) (sampledAt inp s) := ⟨_, rfl⟩
  have service : runTask (turnAt inp s) .service u = blockService k body inp.claimOrder u := by
    rw [runTask_service_eq, show (turnAt inp s).record = recordAt inp s from rfl, hr]
    rfl
  have worked : workedAt inp s = after.foldl (taskTurn (turnAt inp s)) (settleTriggers (turnAt inp s).triggerOrder
      (blockService k body inp.claimOrder u)) := by
    unfold workedAt runTasks
    rw [e, List.foldl_append, List.foldl_cons, ← hu, ← service]
    rfl
  rw [worked]
  refine ⟨u, hu ▸ foldl_taskTurn_within (fun t ht => taskParts_quiet fun he => hb (he ▸ ht)) _, ?_, ?_⟩
  · exact ((settleTriggers_within _ _).mono (by decide)).trans
      (foldl_taskTurn_within (fun t ht => taskParts_quiet fun he => ha (he ▸ ht)) _)
  · exact (settleTriggers_grows _ _).trans (foldl_grows_of_mem (fun t ht v =>
      taskTurn_grows _ v t (.inl fun he => ha (he ▸ ht))) _)

end

/-! ## SET_MASK (R176) -/

section
variable {b : List Byte} {s : State}

theorem flagSetOf_of_fits (h : byteAt b 4 < 8) : flagSetOf b = some (BitVec.ofNat 35 (flagSetNumber b)) := if_pos h

theorem flagSetOf_of_beyond (h : ¬ byteAt b 4 < 8) : flagSetOf b = none := if_neg h

theorem setMask_of_fits (hb : b.length = 5) (h : byteAt b 4 < 8) (o : List ClampAxis) (s : State) :
    blockService .setMask b o s = answer .setMask .ok (flagSetBytes (BitVec.ofNat 35 (flagSetNumber b)))
      (replaceMask (BitVec.ofNat 35 (flagSetNumber b)) s) := by
  refine (judged_of_ok (k := .setMask) (decide_eq_true hb) _ s).trans ?_
  unfold setMaskService
  rw [flagSetOf_of_fits h]

/-- Settles O26: the mask that the service sets stands as the frames leave, and with it the answer. -/
theorem serviceRidesInEcho : Obligations.ServiceRidesInEcho := by
  intro inp f s hs hslot hkind hlen hfits
  have hf : takenFrame s.link = some f := takenFrame_of_slot hs hslot
  have hr : recordAt inp s = some (.setMask, f.body) := recordAt_of_kind hf (by rw [hkind]; rfl)
  have took : JustTook f (readAt inp s) := readAt_justTook inp hs hf
  obtain ⟨u, -, worked, grows⟩ := workedAt_service inp hr
  rw [setMask_of_fits hlen hfits] at worked grows
  have read : readAt inp s = workedAt inp s := by
    unfold readAt
    rw [hr]
    rfl
  have mask : (workedAt inp s).flags.mask = BitVec.ofNat 35 (flagSetNumber f.body) := grows.mask
  have answered : (workedAt inp s).sent.answer =
      ⟨12, .ok, flagSetBytes (BitVec.ofNat 35 (flagSetNumber f.body))⟩ := by
    rw [worked.same_sent]
    rfl
  have closed : expiry inp s = framesLeave (rotaryBAt inp s) (takenAt inp s) (readAt inp s) := by
    rw [expiry_eq, hr, closedAt_of_record hr (by decide)]
    rfl
  refine ⟨_, echoFrameOf (rotaryBAt inp s) (takenAt inp s) (readAt inp s), exec_expiry inp s, ?_⟩
  rw [closed]
  refine ⟨?_, framesLeave_echo _ took.1.1, ?_, ?_, ?_⟩
  · exact read.symm ▸ mask
  · show (readAt inp s).link.takenSeq.getD 0 = f.seq
    rw [took.2]
    rfl
  · show (takenAt inp s).isSome = true
    rw [takenAt_eq, hf]
    rfl
  · show (readAt inp s).sent.answer.kind = 12 ∧ (readAt inp s).sent.answer.status = .ok ∧
      (readAt inp s).sent.answer.body = flagSetBytes (readAt inp s).flags.mask ∧
      (attention (readAt inp s) = true ↔ (readAt inp s).flags.raised &&& (readAt inp s).flags.mask ≠ 0)
    rw [read, answered, mask]
    refine ⟨rfl, rfl, rfl, ?_⟩
    rw [← mask]
    exact decide_eq_true_iff

end

end Sys2Proof.Machine

/-! # CLEAR_FLAGS and the events that fall with it (R175) -/

namespace Sys2Proof.Machine

-- Many short proofs that wait for the same case splitters: one after the other they need less memory.
set_option Elab.async false

/-! ## The two services as commands of their own -/

section
variable {b : List Byte} {s : State}

theorem flagSetNumber_lt (h : byteAt b 4 < 8) : flagSetNumber b < 2 ^ 35 := by
  have b0 := byteAt_lt b 0
  have b1 := byteAt_lt b 1
  have b2 := byteAt_lt b 2
  have b3 := byteAt_lt b 3
  unfold flagSetNumber
  omega

theorem flagSet_eq_zero_iff (h : byteAt b 4 < 8) : BitVec.ofNat 35 (flagSetNumber b) = 0 ↔ flagSetNumber b = 0 := by
  have bound := flagSetNumber_lt h
  rw [BitVec.toNat_eq, BitVec.toNat_ofNat, Nat.mod_eq_of_lt bound]
  rfl

/-- The raised set that a CLEAR_FLAGS leaves of `s`'s. -/
def clearedSet (b : List Byte) (s : State) : BitVec 35 := s.flags.raised &&& ~~~ BitVec.ofNat 35 (flagSetNumber b)

theorem clearFlags_eq (hb : b.length = 5) (o : List ClampAxis) (s : State) : blockService .clearFlags b o s =
    if byteAt b 4 < 8 ∧ flagSetNumber b ≠ 0 then
      answer .clearFlags .ok (flagSetBytes (clearedSet b s)) (lowerFlags (BitVec.ofNat 35 (flagSetNumber b)) s)
    else refuse .clearFlags .badParam s := by
  refine (judged_of_ok (k := .clearFlags) (decide_eq_true hb) _ s).trans ?_
  unfold clearFlagsService
  by_cases fits : byteAt b 4 < 8
  · rw [flagSetOf_of_fits fits]
    dsimp only
    by_cases zero : flagSetNumber b = 0
    · rw [if_pos ((flagSet_eq_zero_iff fits).mpr zero), if_neg fun h => h.2 zero]
    · rw [if_neg fun h => zero ((flagSet_eq_zero_iff fits).mp h), if_pos ⟨fits, zero⟩]
      rfl
  · rw [flagSetOf_of_beyond fits, if_neg fun h => fits h.1]

theorem setMask_of_beyond (hb : b.length = 5) (h : ¬ byteAt b 4 < 8) (o : List ClampAxis) (s : State) :
    blockService .setMask b o s = refuse .setMask .badParam s := by
  refine (judged_of_ok (k := .setMask) (decide_eq_true hb) _ s).trans ?_
  unfold setMaskService
  rw [flagSetOf_of_beyond h]

theorem exec_clearFlags (law : SettledLaw s) (hl : s.link.state ≠ .offline) (hb : b.length = 5) :
    exec (.clearFlags b) s =
      .next (if byteAt b 4 < 8 ∧ flagSetNumber b ≠ 0 then
          { s with
            flags := { s.flags with raised := s.flags.raised &&& ~~~ BitVec.ofNat 35 (flagSetNumber b) }
            sent := { s.sent with answer :=
              ⟨11, .ok, flagSetBytes (s.flags.raised &&& ~~~ BitVec.ofNat 35 (flagSetNumber b))⟩ } }
        else { s with sent := { s.sent with answer := ⟨11, .badParam, []⟩ } }) := by
  have work := clearFlags_eq hb [] s
  split
  · rename_i h
    rw [if_pos h] at work
    exact served_eq hl work (law.of_same rfl rfl)
  · rename_i h
    rw [if_neg h] at work
    exact served_refuse law hl work

theorem exec_setMask (law : SettledLaw s) (hl : s.link.state ≠ .offline) (hb : b.length = 5) :
    exec (.setMask b) s =
      .next (if byteAt b 4 < 8 then
          { s with
            flags := { s.flags with mask := BitVec.ofNat 35 (flagSetNumber b) }
            sent := { s.sent with answer := ⟨12, .ok, flagSetBytes (BitVec.ofNat 35 (flagSetNumber b))⟩ } }
        else { s with sent := { s.sent with answer := ⟨12, .badParam, []⟩ } }) := by
  split
  · rename_i h
    exact served_eq hl (setMask_of_fits hb h [] s) (law.of_same rfl rfl)
  · rename_i h
    exact served_refuse law hl (setMask_of_beyond hb h [] s)

/-- An event between expiries is its own command's work. -/
theorem exec_between (e : Between) (s : State) : exec e.command s = .next (betweenTurn s e) := by
  cases e <;> rfl

end

/-! ## The answer and the echo frame as they leave after the events -/

section
variable {inp : ExpiryInput} {f : CycleFrame} {s : State} {body : List Byte}

/-- The answer of a CLEAR_FLAGS that passed, with a raised set. -/
abbrev clearAnswer (set : BitVec 35) : Answer := ⟨11, .ok, flagSetBytes set⟩

/-- The state `v` after the events, with the answer formed anew and the echo frame `e` as it then leaves. -/
def leftLate (e : EchoFrame) (v : State) : State :=
  let w := { v with sent := { v.sent with answer := clearAnswer v.flags.raised } }
  { w with sent := { w.sent with echo := some (lateEcho w e) } }

theorem leftLate_flags (e : EchoFrame) (v : State) : (leftLate e v).flags = v.flags := rfl

theorem refreshedAnswer_of_clear {set : BitVec 35} (h : s.sent.answer = clearAnswer set) :
    refreshedAnswer s = { s with sent := { s.sent with answer := clearAnswer s.flags.raised } } := by
  unfold refreshedAnswer
  rw [if_pos (by rw [h]; exact ⟨rfl, rfl⟩)]
  rfl

/-- Nothing is formed anew in the state in which the frames have just left. -/
theorem leftLate_framesLeave (rb : Bool) (taken : Option CycleFrame) (hl : s.link.state ≠ .offline)
    (ha : s.sent.answer = clearAnswer s.flags.raised) :
    leftLate (echoFrameOf rb taken s) (framesLeave rb taken s) = framesLeave rb taken s := by
  have left : framesLeave rb taken s = { s with
      sent := ⟨some (driveFrameOf s), some (echoFrameOf rb taken s), clearAnswer s.flags.raised⟩
      seen := seenNow s
      link := { s.link with returnFresh := false, enableSent := s.link.enable } } := by
    unfold framesLeave
    rw [if_neg hl, ← ha]
  have echo : echoFrameOf rb taken s =
      { echoFrameOf rb taken s with answer := clearAnswer s.flags.raised } := by
    rw [← ha]
    rfl
  rw [left]
  unfold leftLate
  rw [echo]
  rfl

/-- How an expiry ends that has taken a CLEAR_FLAGS that passed. -/
theorem expiry_of_clear (hr : recordAt inp s = some (.clearFlags, body)) {set : BitVec 35} {e : EchoFrame}
    (ha : (closedAt inp s).sent.answer = clearAnswer set) (he : (closedAt inp s).sent.echo = some e) :
    expiry inp s = leftLate e (inp.afterClear.foldl betweenTurn (closedAt inp s)) := by
  have sent : (inp.afterClear.foldl betweenTurn (closedAt inp s)).sent = (closedAt inp s).sent :=
    foldl_keeps (P := fun u => u.sent = (closedAt inp s).sent) (fun u e hu => (betweenTurn_sent u e).trans hu)
      inp.afterClear rfl
  rw [expiry_eq, hr]
  unfold afterClearStage leftLate
  dsimp only
  rw [refreshedAnswer_of_clear (set := set) (by rw [sent, ha])]
  dsimp only
  rw [sent, he]
  rfl

end

/-! ## An expiry that takes a CLEAR_FLAGS that passes -/

/-- The slot of `s` holds a CLEAR_FLAGS that passes its checks. -/
structure ClearDue (f : CycleFrame) (s : State) : Prop where
  online : s.link.state ≠ .offline
  slot : s.link.slot = some ⟨f, false⟩
  kind : f.kind = 11
  length : f.body.length = 5
  fits : byteAt f.body 4 < 8
  names : flagSetNumber f.body ≠ 0

namespace ClearDue

section
variable {f : CycleFrame} {s : State} (h : ClearDue f s) (inp : ExpiryInput)
include h

theorem taken : takenFrame s.link = some f := takenFrame_of_slot h.online h.slot

theorem recordAt : recordAt inp s = some (.clearFlags, f.body) := recordAt_of_kind h.taken (by rw [h.kind]; rfl)

/-- The state that the frames leave in, and the one in which the service found the flags. -/
theorem closedAt : ∃ u r, closedAt inp s = framesLeave (rotaryBAt inp s) (some f) r ∧ JustTook f r ∧
    r.sent.answer = clearAnswer r.flags.raised ∧ r.store = s.store ∧
    FlagsGrow (lowerFlags (BitVec.ofNat 35 (flagSetNumber f.body)) u) r := by
  have hr := h.recordAt inp
  obtain ⟨u, before, worked, grows⟩ := workedAt_service inp hr
  rw [clearFlags_eq h.length, if_pos ⟨h.fits, h.names⟩] at worked grows
  have answered : (workedAt inp s).sent.answer = clearAnswer (clearedSet f.body u) := by
    rw [worked.same_sent]
    rfl
  have read : readAt inp s = { workedAt inp s with
      sent := { (workedAt inp s).sent with answer := clearAnswer (workedAt inp s).flags.raised } } := by
    unfold readAt
    rw [hr]
    exact refreshedAnswer_of_clear answered
  have kept : FlagsGrow (lowerFlags (BitVec.ofNat 35 (flagSetNumber f.body)) u) (workedAt inp s) :=
    FlagsGrow.trans (t := answer .clearFlags .ok (flagSetBytes (clearedSet f.body u)) _) (.of_flags rfl) grows
  have store : (workedAt inp s).store = s.store := worked.same_store.trans (before.same_store.trans (sampledAt_store inp s))
  refine ⟨u, readAt inp s, ?_, readAt_justTook inp h.online h.taken, ?_, ?_, ?_⟩
  · rw [closedAt_of_record hr (by decide), takenAt_eq, h.taken]
  · rw [read]
  · rw [read]
    exact store
  · rw [read]
    exact kept.trans (t := workedAt inp s) (.of_flags rfl)

/-- An expiry's end, and that of the same expiry without the events. -/
theorem expiry : ∃ u r, Machine.closedAt inp s = framesLeave (rotaryBAt inp s) (some f) r ∧ JustTook f r ∧
    (Machine.closedAt inp s).store = s.store ∧
    FlagsGrow (lowerFlags (BitVec.ofNat 35 (flagSetNumber f.body)) u) (Machine.closedAt inp s) ∧
    Machine.expiry { inp with afterClear := [] } s = Machine.closedAt inp s ∧
    Machine.expiry inp s = leftLate (echoFrameOf (rotaryBAt inp s) (some f) r)
      (inp.afterClear.foldl betweenTurn (Machine.closedAt inp s)) := by
  obtain ⟨u, r, closed, took, answered, store, grows⟩ := h.closedAt inp
  have echo : (Machine.closedAt inp s).sent.echo = some (echoFrameOf (rotaryBAt inp s) (some f) r) := by
    rw [closed]
    exact framesLeave_echo _ took.1.1
  have answer : (Machine.closedAt inp s).sent.answer = clearAnswer r.flags.raised := by
    rw [closed]
    exact answered
  have calm : Machine.expiry { inp with afterClear := [] } s =
      leftLate (echoFrameOf (rotaryBAt inp s) (some f) r) (Machine.closedAt inp s) :=
    expiry_of_clear (inp := { inp with afterClear := [] }) (h.recordAt _) answer echo
  refine ⟨u, r, closed, took, ?_, ?_, ?_, expiry_of_clear (h.recordAt inp) answer echo⟩
  · rw [closed]
    exact store
  · rw [closed]
    exact grows.trans (.of_flags rfl)
  · rw [calm, closed]
    exact leftLate_framesLeave _ _ took.1.1 answered

end

end ClearDue

/-! ## A write that fails as STORE_FAULT is cleared -/

section
variable {s w : State} {n : Nat}

theorem lowerFlags_not_raised {f : Flag} (h : n.testBit f.num = true) (s : State) :
    isRaised f (lowerFlags (BitVec.ofNat 35 n) s) = false := by
  have named : (BitVec.ofNat 35 n).getLsbD f.num = true := by
    rw [BitVec.getLsbD_ofNat, h, decide_eq_true f.num_lt]
    rfl
  unfold isRaised lowerFlags
  rw [BitVec.getLsbD_and, BitVec.getLsbD_not, named]
  simp

theorem testBit_ne_zero {i : Nat} (h : n.testBit i = true) : n ≠ 0 := by
  rintro rfl
  rw [Nat.zero_testBit] at h
  cases h

/-- R167: the failure of a running write raises STORE_FAULT. -/
theorem storeFails_raises (h : s.store.state = .writing) : isRaised .storeFault (betweenTurn s .storeMismatch) = true := by
  refine (settleTriggers_grows [] _).raised _ ?_
  show isRaised .storeFault (storeFails s) = true
  unfold storeFails
  rw [if_pos (show storing s = true from decide_eq_true h)]
  exact isRaised_raise_self _ _

/-- Settles O56: an event's own command, the answer and the echo frame as they leave after the events, and STORE_FAULT
with the two orders of a clear and a write's failure. -/
theorem flagServicesAct : Obligations.FlagServicesAct := by
  refine ⟨fun b s law hl hb => ⟨exec_clearFlags law hl hb, exec_setMask law hl hb⟩, exec_between, ?_, ?_⟩
  · intro inp f s hs hslot hkind hlen hfits hne
    have due : ClearDue f s := ⟨hs, hslot, hkind, hlen, hfits, hne⟩
    obtain ⟨-, r, closed, took, -, -, calm, ends⟩ := due.expiry inp
    obtain ⟨v, hv⟩ : ∃ v, v = inp.afterClear.foldl betweenTurn (closedAt inp s) := ⟨_, rfl⟩
    have sent : v.sent = (closedAt inp s).sent :=
      hv ▸ foldl_keeps (P := fun u => u.sent = (closedAt inp s).sent) (fun u e hu => (betweenTurn_sent u e).trans hu)
        inp.afterClear rfl
    rw [← hv] at ends
    have seq : (echoFrameOf (rotaryBAt inp s) (some f) r).seq = f.seq := by
      show r.link.takenSeq.getD 0 = f.seq
      rw [took.2]
      rfl
    have link : r.link.state = (closedAt inp s).link.state ∧ r.link.cause = (closedAt inp s).link.cause := by
      rw [closed]
      exact ⟨rfl, rfl⟩
    refine ⟨expiry inp s, closedAt inp s, v, lateEcho { v with sent := { v.sent with answer := clearAnswer v.flags.raised } }
      (echoFrameOf (rotaryBAt inp s) (some f) r), ?_, hv, exec_expiry inp s, ?_⟩
    · rw [exec_expiry, calm]
    · rw [ends]
      exact ⟨rfl, (congrArg Sent.drive sent : v.sent.drive = _), rfl, rfl, seq, rfl, link.1, link.2, rfl, decide_eq_true_iff⟩
  · intro inp f s w hs hslot hkind hlen hfits hbit hwriting hw
    have hne : flagSetNumber f.body ≠ 0 := testBit_ne_zero hbit
    constructor
    · have due : ClearDue f s := ⟨hs, hslot, hkind, hlen, hfits, hne⟩
      obtain ⟨-, r, -, -, store, -, -, ends⟩ := due.expiry { inp with afterClear := [.storeMismatch] }
      refine ⟨_, exec_expiry _ s, ?_⟩
      rw [ends]
      refine (isRaised_congr (leftLate_flags _ _)).trans ?_
      exact storeFails_raises (by rw [store, hwriting])
    · have link : w.link = s.link := by
        have failed : w = betweenTurn s .storeMismatch := by
          rw [show Instr.storeMismatch = Between.storeMismatch.command from rfl, exec_between] at hw
          cases hw
          rfl
        rw [failed]
        exact ((storeFails_within s).comp (settleTriggers_within [] _)).same_link
      have due : ClearDue f w := ⟨link ▸ hs, link ▸ hslot, hkind, hlen, hfits, hne⟩
      obtain ⟨u, -, -, -, -, grows, calm, -⟩ := due.expiry inp
      refine ⟨_, exec_expiry _ w, ?_⟩
      rw [calm]
      exact Bool.eq_false_iff.mpr fun raised => by
        have before := grows.stored raised
        rw [lowerFlags_not_raised hbit] at before
        cases before

end

end Sys2Proof.Machine
